-- ==== Sys2Proof/Word.lean ====
section
/-!
DEFINITION. The words of the ZW-816 (spec 00_scope.md, Conventions): bytes, 32-bit words, times on the
32-bit microsecond timebase, slot numbers and tag-entry numbers.
-/
namespace Sys2Proof

/-- A byte of a frame, a transaction, a sector or an image. -/
abbrev Byte := BitVec 8

/-- A 32-bit word of a sector or of the pattern table. -/
abbrev Word32 := BitVec 32

/-- A time of the timebase, in microseconds modulo 2^32 (00_scope.md, Time). -/
abbrev Time := BitVec 32

/-- A slot, 0 to 7. -/
abbrev SlotId := Fin 8

/-- A tag entry of a lane unit: 0 to 31 for queued tags, 32 for the untagged entry (R25). -/
abbrev EntryId := Fin 33

/-- The slots in order. -/
def allSlots : List SlotId := [0, 1, 2, 3, 4, 5, 6, 7]

/-- The queued tags in order. -/
def allTags : List (Fin 32) :=
  [0, 1, 2, 3, 4, 5, 6, 7, 8, 9, 10, 11, 12, 13, 14, 15,
   16, 17, 18, 19, 20, 21, 22, 23, 24, 25, 26, 27, 28, 29, 30, 31]

/-- The untagged entry, which serves every non-queued command (R25). -/
def untagged : EntryId := 32

/-- The entry of a queued tag (R25). -/
def tagEntry (t : Fin 32) : EntryId := ⟨t.val, Nat.lt_succ_of_lt t.isLt⟩

/-- The 33 entries of a tag table in order. -/
def allEntries : List EntryId := allTags.map tagEntry ++ [untagged]

/-- The indices of the sixteen windows and of the sixteen capture records, in order. -/
def allSixteen : List (Fin 16) := [0, 1, 2, 3, 4, 5, 6, 7, 8, 9, 10, 11, 12, 13, 14, 15]

end Sys2Proof
end

