-- ==== Sys2Proof/Syntax.lean ====
section
/-!
DEFINITION. The commands of the ZW-816: one constructor of `Instr` per row of spec/opcode_table.json, with the
row's operands. A management command carries the argument bytes of its write transaction as they were written,
because a wrong number of them is an input the part answers (R159, R172). A link event carries the frame (R23).
-/
namespace Sys2Proof

/-- The way a data frame travels, or the way a data-setup notice announces (R23). -/
inductive Direction
  | toDrive
  | toServer
  deriving DecidableEq, Repr

/-- The class of a command frame with the tag that a queued class carries (R23). -/
inductive CommandKind
  | qread (tag : Fin 32)
  | qwrite (tag : Fin 32)
  | read
  | write
  | ident
  | flush
  | other
  deriving DecidableEq, Repr

/-- A command frame: class and tag, starting LBA, sector count with 0 meaning 65536 (R23). -/
structure CommandFrame where
  kind : CommandKind
  lba : BitVec 48
  count : BitVec 16
  deriving DecidableEq, Repr

/-- A data-setup notice: its tag (none when untagged), byte offset and announced direction (R23). -/
structure SetupNotice where
  tag : Option (Fin 32)
  offset : Nat
  direction : Direction
  deriving DecidableEq, Repr

/-- A data frame: its direction, its bytes, and whether its integrity check arrived correct (R23, R24). -/
structure DataFrame where
  direction : Direction
  bytes : List Byte
  checkGood : Bool
  deriving DecidableEq, Repr

/-- A success status: for the non-queued command, or naming a set of tags (bit t for tag t) (R23). -/
inductive Success
  | nonQueued
  | queued (tags : BitVec 32)
  deriving DecidableEq, Repr

/-- The kind of an error status; MEDIA may carry an LBA (R23). -/
inductive ErrorKind
  | media (lba : Option (BitVec 48))
  | abort
  | interface
  deriving DecidableEq, Repr

/-- An error status: the failing tag (none when untagged) and the kind (R23). -/
structure ErrorReport where
  tag : Option (Fin 32)
  kind : ErrorKind
  deriving DecidableEq, Repr

/-- A status frame of the drive (R23). -/
inductive DriveStatus
  | success (s : Success)
  | error (e : ErrorReport)
  deriving DecidableEq, Repr

/-- The levels of the strap inputs, latched at the release of a chip reset (R165). -/
structure Straps where
  addr : BitVec 3
  slots4 : Bool
  noload : Bool
  sect4k : Bool
  deriving DecidableEq, Repr

/-- The commands and events of the part, one constructor per row of spec/opcode_table.json. -/
inductive Instr
  /-- CHIP_RESET (R170). -/
  | chipReset
  /-- CHIP_RESET_RELEASE (R165): the strap levels at the release. -/
  | chipResetRelease (straps : Straps)
  /-- PROFILE_READY (R166, R167): the bytes the EEPROM gave from address 0 on, or none when it did not acknowledge or a transfer failed. -/
  | profileReady (eeprom : Option (List Byte))
  /-- UNKNOWN_COMMAND (R159): a command byte that names no command, and the bytes after it. -/
  | unknownCommand (code : Byte) (args : List Byte)
  /-- STATUS (R160). -/
  | status (args : List Byte)
  /-- SLOT_STATUS (R161): slot. -/
  | slotStatus (args : List Byte)
  /-- SLOT_COUNTERS (R162): slot. -/
  | slotCounters (args : List Byte)
  /-- HISTOGRAM (R162): slot. -/
  | histogram (args : List Byte)
  /-- DEFECT_READ (R87): slot, index 2. -/
  | defectRead (args : List Byte)
  /-- START (R10): slot, seed 4, G 2. -/
  | start (args : List Byte)
  /-- ADVANCE_PASS (R11): slot. -/
  | advancePass (args : List Byte)
  /-- END_BURN (R12): slot. -/
  | endBurn (args : List Byte)
  /-- PAUSE (R14): slot. -/
  | pause (args : List Byte)
  /-- RESUME (R15): slot. -/
  | resume (args : List Byte)
  /-- GRADE (R17): slot. -/
  | grade (args : List Byte)
  /-- SHIP (R19): slot. -/
  | ship (args : List Byte)
  /-- SEAL (R20): slot. -/
  | sealSlot (args : List Byte)
  /-- RELEASE (R21): slot. -/
  | release (args : List Byte)
  /-- CLEAR_SLOT (R8): slot. -/
  | clearSlot (args : List Byte)
  /-- WINDOW_WRITE (R56): n, window 22. -/
  | windowWrite (args : List Byte)
  /-- WINDOW_READ (R57): n, slot. -/
  | windowRead (args : List Byte)
  /-- TABLE_WRITE (R58): index 2, k 1, words 4k. -/
  | tableWrite (args : List Byte)
  /-- CAPTURE_SET (R99): n, slot mask, kind mask. -/
  | captureSet (args : List Byte)
  /-- CAPTURE_OPEN (R95): n. -/
  | captureOpen (args : List Byte)
  /-- CAPTURE_READ (R96). -/
  | captureRead (args : List Byte)
  /-- CAPTURE_CLOSE (R98). -/
  | captureClose (args : List Byte)
  /-- ALERT_READ (R164). -/
  | alertRead (args : List Byte)
  /-- ALERT_ACK (R164): set 3. -/
  | alertAck (args : List Byte)
  /-- ALERT_MASK (R164): set 3. -/
  | alertMask (args : List Byte)
  /-- SORT_RESUME (R142). -/
  | sortResume (args : List Byte)
  /-- PROFILE_SET (R168): item code 2, value 4. -/
  | profileSet (args : List Byte)
  /-- PROFILE_RELOAD (R169). -/
  | profileReload (args : List Byte)
  /-- SOFT_RESET (R170). -/
  | softReset (args : List Byte)
  /-- RAW_PRESENCE_CHANGE (R3): the slot's contact takes the level given. -/
  | rawPresenceChange (slot : SlotId) (level : Bool)
  /-- DEBOUNCE_END (R3). -/
  | debounceEnd (slot : SlotId)
  /-- COMMAND_FRAME (R27). -/
  | commandFrame (slot : SlotId) (frame : CommandFrame)
  /-- PENDING_STATUS_SEND (R40): the link allows a status frame upstream. -/
  | pendingStatusSend (slot : SlotId)
  /-- DATA_SETUP_NOTICE (R29). -/
  | dataSetupNotice (slot : SlotId) (notice : SetupNotice)
  /-- DATA_FRAME (R30). -/
  | dataFrame (slot : SlotId) (frame : DataFrame)
  /-- SUCCESS_STATUS (R33). -/
  | successStatus (slot : SlotId) (status : Success)
  /-- ERROR_STATUS (R34). -/
  | errorStatus (slot : SlotId) (report : ErrorReport)
  /-- COMMAND_TIMEOUT (R37): the age of the entry reaches the command timeout. -/
  | commandTimeout (slot : SlotId) (entry : EntryId)
  /-- DRIVE_LINK_RESET (R42). -/
  | driveLinkReset (slot : SlotId)
  /-- SOAK_TICK (R116). -/
  | soakTick
  /-- CHAMBER_BYTE (R104, R106): a good character, by the levels of the chamber line at the receiver's samples since the last
  event of the line, true at mark (log entry 5). -/
  | chamberByte (levels : List Bool)
  /-- CHAMBER_CHARACTER_ERROR (R104, R107): the line goes on to show a framing or parity error. -/
  | chamberCharacterError
  /-- CHAMBER_BREAK (R105): the line stays at space until 22 bit times have passed since the leading edge. -/
  | chamberBreak
  /-- LINE_BREAK_CLEAR (R105): the line is sampled at mark. -/
  | lineBreakClear
  /-- STALE_TIMER_EXPIRY (R110). -/
  | staleTimerExpiry
  /-- GRADE_TAKE (R124). -/
  | gradeTake
  /-- GRADE_COMPLETION (R126). -/
  | gradeCompletion
  /-- TAKE_ASSERTED (R139). -/
  | takeAsserted
  /-- TAKE_DEASSERTED (R141). -/
  | takeDeasserted
  /-- FAULT_ASSERTED (R140). -/
  | faultAsserted
  /-- FAULT_DEASSERTED (R138). -/
  | faultDeasserted
  /-- BUSY_ASSERTED (R137). -/
  | busyAsserted
  /-- BUSY_DEASSERTED (R138). -/
  | busyDeasserted
  /-- OFFER_TIMER_EXPIRY (R140). -/
  | offerTimerExpiry
  deriving DecidableEq, Repr

end Sys2Proof
end

