-- ==== Sys2Proof/Decode.lean ====
section
/-!
DEFINITION. Decoding. No row of spec/opcode_table.json has bits, so no word spells a command by the table
(`decodeTableWord` answers none). The management line does spell commands: one write transaction is a command byte
and its argument bytes (R158, Table 12-2). `decodeTransaction` reads it and `encodeTransaction` writes it.
-/
namespace Sys2Proof

/-- The command that a word spells by the table's bits: no row of the table has any. -/
def decodeTableWord (_nbits _w : Nat) : Option Instr := none

/-- The command of a command byte with its argument bytes (Table 12-2). A byte that names no command is
UNKNOWN_COMMAND (R159). -/
def decodeCommand (code : Byte) (args : List Byte) : Instr :=
  match code.toNat with
  | 0x01 => .status args
  | 0x02 => .slotStatus args
  | 0x03 => .slotCounters args
  | 0x04 => .histogram args
  | 0x05 => .defectRead args
  | 0x10 => .start args
  | 0x11 => .advancePass args
  | 0x12 => .endBurn args
  | 0x13 => .pause args
  | 0x14 => .resume args
  | 0x15 => .grade args
  | 0x16 => .ship args
  | 0x17 => .sealSlot args
  | 0x18 => .release args
  | 0x19 => .clearSlot args
  | 0x20 => .windowWrite args
  | 0x21 => .windowRead args
  | 0x22 => .tableWrite args
  | 0x30 => .captureSet args
  | 0x31 => .captureOpen args
  | 0x32 => .captureRead args
  | 0x33 => .captureClose args
  | 0x40 => .alertRead args
  | 0x41 => .alertAck args
  | 0x42 => .alertMask args
  | 0x50 => .sortResume args
  | 0x60 => .profileSet args
  | 0x61 => .profileReload args
  | 0x70 => .softReset args
  | _ => .unknownCommand code args

/-- The command a write transaction carries: none when it ends after the address with no byte at all (R158). -/
def decodeTransaction : List Byte → Option Instr
  | [] => none
  | code :: args => some (decodeCommand code args)

/-- The bytes of the write transaction that carries a command, none for an event that does not come over the
management line (Table 12-2). -/
def encodeTransaction : Instr → Option (List Byte)
  | .unknownCommand code args => some (code :: args)
  | .status args => some (0x01#8 :: args)
  | .slotStatus args => some (0x02#8 :: args)
  | .slotCounters args => some (0x03#8 :: args)
  | .histogram args => some (0x04#8 :: args)
  | .defectRead args => some (0x05#8 :: args)
  | .start args => some (0x10#8 :: args)
  | .advancePass args => some (0x11#8 :: args)
  | .endBurn args => some (0x12#8 :: args)
  | .pause args => some (0x13#8 :: args)
  | .resume args => some (0x14#8 :: args)
  | .grade args => some (0x15#8 :: args)
  | .ship args => some (0x16#8 :: args)
  | .sealSlot args => some (0x17#8 :: args)
  | .release args => some (0x18#8 :: args)
  | .clearSlot args => some (0x19#8 :: args)
  | .windowWrite args => some (0x20#8 :: args)
  | .windowRead args => some (0x21#8 :: args)
  | .tableWrite args => some (0x22#8 :: args)
  | .captureSet args => some (0x30#8 :: args)
  | .captureOpen args => some (0x31#8 :: args)
  | .captureRead args => some (0x32#8 :: args)
  | .captureClose args => some (0x33#8 :: args)
  | .alertRead args => some (0x40#8 :: args)
  | .alertAck args => some (0x41#8 :: args)
  | .alertMask args => some (0x42#8 :: args)
  | .sortResume args => some (0x50#8 :: args)
  | .profileSet args => some (0x60#8 :: args)
  | .profileReload args => some (0x61#8 :: args)
  | .softReset args => some (0x70#8 :: args)
  | .chipReset => none
  | .chipResetRelease _ => none
  | .profileReady _ => none
  | .rawPresenceChange _ _ => none
  | .debounceEnd _ => none
  | .commandFrame _ _ => none
  | .pendingStatusSend _ => none
  | .dataSetupNotice _ _ => none
  | .dataFrame _ _ => none
  | .successStatus _ _ => none
  | .errorStatus _ _ => none
  | .commandTimeout _ _ => none
  | .driveLinkReset _ => none
  | .soakTick => none
  | .chamberByte _ => none
  | .chamberCharacterError => none
  | .chamberBreak => none
  | .lineBreakClear => none
  | .staleTimerExpiry => none
  | .gradeTake => none
  | .gradeCompletion => none
  | .takeAsserted => none
  | .takeDeasserted => none
  | .faultAsserted => none
  | .faultDeasserted => none
  | .busyAsserted => none
  | .busyDeasserted => none
  | .offerTimerExpiry => none

end Sys2Proof
end

