-- ==== Sys2Proof/Config.lean ====
section
/-!
DEFINITION. What is fixed for the part (times of the timebase, sizes) and the free values: what the manual
leaves open and the part still does. A free value has no body, so nothing can be proved of it but that it is there.
-/
namespace Sys2Proof.Config

/-- The debounce interval, 100 ms in microseconds (R3). -/
def debounceTime : Nat := 100000

/-- The period of the soak tick in microseconds (R115). -/
def soakPeriod : Nat := 1000000

/-- The longest time from a take to its completion, in microseconds (R126). -/
def computationLimit : Nat := 1000

/-- The longest load when the EEPROM is read, in microseconds (R166). -/
def loadLimitEeprom : Nat := 400000

/-- The longest load when the source is NOLOAD, in microseconds (R166). -/
def loadLimitNoload : Nat := 2000

/-- Soak units in one equivalent minute (00_scope.md, Temperatures and soak units). -/
def unitsPerMinute : Nat := 15360

/-- The first LBA that no sector has: LBAs are 0 to 2^48 - 1 (00_scope.md). -/
def lbaEnd : Nat := 281474976710656

/-- FREE VALUE (log entry 3). Which of several of the part's own events due at one moment is taken first: the manual
says either may be. Read modulo the number of them, at the counter State.tieCount. -/
opaque tieBreak : Nat → Nat

/-- FREE VALUE (log entry 4). What the EEPROM gave in a load that ends by its time limit with no PROFILE_READY in the
queue to say it, at the counter State.tieCount. -/
opaque eepromRead : Nat → Option (List Byte)

/-- FREE VALUE (log entry 6). The 48-bit LBA of sector `i` of a command from `lba` when lba + i is past 2^48 - 1:
the manual gives no sector there. -/
opaque lbaPastEnd : Nat → Nat → BitVec 48

end Sys2Proof.Config
end

