-- ==== Sys2Proof/Machine/State.lean ====
section
/-!
DEFINITION. The state of the ZW-816 as plain data, with every piece of state the manual gives it (INVENTORY.md,
'## State'), the outcomes' reasons, and the state right after reset. Counts are Nat and saturate where they are
changed (Machine/Flags.lean). Words the manual numbers by bits are bit vectors.
-/
namespace Sys2Proof.Machine

/-! ## Slot records (01_slot_runs.md) -/

/-- The active phases, which a slot in HOLD may return to (R1). -/
inductive ActivePhase
  | burn
  | scan
  | ship
  deriving DecidableEq, Repr

/-- The phase of a slot. The prior phase and the hold causes exist only in HOLD (R1). -/
inductive Phase
  | empty
  | idle
  | burn
  | scan
  | gradeWait
  | graded
  | ship
  | sealed
  | hold (prior : ActivePhase) (manual : Bool) (thermal : Bool)
  deriving DecidableEq, Repr

/-- The name of a phase without the prior phase and causes of HOLD, as a tag entry stores it (R25). -/
inductive PhaseName
  | empty
  | idle
  | burn
  | scan
  | gradeWait
  | graded
  | ship
  | sealed
  | hold
  deriving DecidableEq, Repr

/-- The name of a phase. -/
def Phase.name : Phase → PhaseName
  | .empty => .empty
  | .idle => .idle
  | .burn => .burn
  | .scan => .scan
  | .gradeWait => .gradeWait
  | .graded => .graded
  | .ship => .ship
  | .sealed => .sealed
  | .hold _ _ _ => .hold

/-- An active phase as a phase. -/
def ActivePhase.phase : ActivePhase → Phase
  | .burn => .burn
  | .scan => .scan
  | .ship => .ship

/-- A drive's identity: valid flag, serial of 20 characters, 48-bit capacity (Table 1-2). -/
structure Identity where
  valid : Bool
  serial : Vector Byte 20
  capacity : Nat
  deriving DecidableEq, Repr

/-- The test counters of Table 1-2. -/
structure TestCounters where
  writtenSectors : Nat
  checkedSectors : Nat
  stale : Nat
  slip : Nat
  corrupt : Nat
  media : Nat
  timeouts : Nat
  late : Nat
  aborted : Nat
  abandoned : Nat
  withheld : Nat
  anomalies : Nat
  deriving DecidableEq, Repr

/-- The latency statistics of Table 1-2. -/
structure Latency where
  histogram : Vector Nat 16
  slowCount : Nat
  maxLatency : Nat
  deriving DecidableEq, Repr

/-- The soak block of Table 1-2: accumulator A, seconds counters, target G, max_h. -/
structure SoakBlock where
  a : Nat
  burnSeconds : Nat
  staleSeconds : Nat
  chamberOffSeconds : Nat
  coldSeconds : Nat
  excursionSeconds : Nat
  heldSeconds : Nat
  target : Nat
  maxH : Nat
  deriving DecidableEq, Repr

/-- An extent record in a slot's list (R77). -/
structure Extent where
  start : Nat
  length : Nat
  corrupt : Bool
  media : Bool
  firstPass : Nat
  hits : Nat
  deriving DecidableEq, Repr

/-- The defect summary of a slot with its extent list (R78). -/
structure Defects where
  extents : List Extent
  sectors : Nat
  unrecorded : Nat
  truncated : Bool
  deriving DecidableEq, Repr

/-- The bins (R133). -/
inductive Bin
  | a
  | b
  | c
  | reject
  deriving DecidableEq, Repr

/-- The reasons of a grade result (R133). -/
inductive Reason
  | score
  | truncated
  | slipLimit
  | soakShort
  | shipAbandoned
  deriving DecidableEq, Repr

/-- A grade result (R133). -/
structure GradeResult where
  score : Nat
  bin : Bin
  reason : Reason
  deriving DecidableEq, Repr

/-- The ship state of a slot (Table 1-2): bit k of a set stands for record sector k. -/
structure ShipState where
  written : BitVec 17
  verified : BitVec 17
  filled : Nat
  verifiedFill : Nat
  bad : Nat
  padByte : Byte
  deriving DecidableEq, Repr

/-- A slot record (R1, Table 1-2). -/
structure SlotRecord where
  phase : Phase
  orphaned : Bool
  sorted : Bool
  identity : Identity
  seed : Word32
  pass : Nat
  counters : TestCounters
  latency : Latency
  soak : SoakBlock
  defects : Defects
  grade : Option GradeResult
  ship : ShipState
  shipped : Nat
  deriving DecidableEq, Repr

/-- A slot's contact: its raw level, the debounced presence, and the start of the debounce interval in progress (R3). -/
structure Presence where
  raw : Bool
  debounced : Bool
  interval : Option Time
  deriving DecidableEq, Repr

/-! ## Lane units (02_command_tracking_on_the_drive_links.md) -/

/-- The class of a command (R23). -/
inductive CommandClass
  | qread
  | qwrite
  | read
  | write
  | ident
  | flush
  | other
  deriving DecidableEq, Repr

/-- The snoop buffer of an IDENT entry (R25): the bytes gathered from the block, and whether every frame that carried
block bytes had a correct check (R32). -/
structure Snoop where
  serial : Vector Byte 20
  capacity : Vector Byte 6
  intact : Bool
  deriving DecidableEq, Repr

/-- A tag entry that is OPEN, or LATE when `late` is set (R25). A FREE entry is `none` in the table. -/
structure TagEntry where
  late : Bool
  cls : CommandClass
  lba : Nat
  count : Nat
  done : Nat
  issueTime : Time
  issuePhase : PhaseName
  pass : Nat
  seed : Word32
  untracked : Bool
  overrunNoted : Bool
  errorSectors : Nat
  snoop : Snoop
  deriving DecidableEq, Repr

/-- The current data position when there is one: an entry and a byte offset into its data (R25). -/
structure Position where
  entry : EntryId
  offset : Nat
  deriving DecidableEq, Repr

/-- A sector image (Table 4-1). A record sector carries the bytes formed at its first byte (R151). -/
inductive Image
  | stamp (lba : Nat) (pass : Nat) (seed : Word32)
  | fill (byte : Byte)
  | table (lba : Nat) (start : Nat) (length : Nat)
  | shipFill (byte : Byte)
  | record (k : Nat) (bytes : List Byte)
  deriving DecidableEq, Repr

/-- The sector action the window table answers (R51). -/
inductive SectorAction
  | pass
  | substitute (image : Image)
  | check (image : Image)
  deriving DecidableEq, Repr

/-- The sector in progress of a slot (R60): entry, sector index, LBA, whether its image substitutes or is checked, the
image, the bytes that have passed, and whether every frame that carried them had a correct check. -/
structure SectorInProgress where
  entry : EntryId
  index : Nat
  lba : Nat
  substitutes : Bool
  image : Image
  received : List Byte
  checksGood : Bool
  deriving DecidableEq, Repr

/-- A status frame waiting to go upstream: one the part synthesized for a withheld command (R40), or a drive's own that
reached the lane after a synthesized one joined. -/
inductive UpstreamStatus
  | synthesized (entry : EntryId)
  | fromDrive (status : DriveStatus)
  deriving DecidableEq, Repr

/-- The integrity check of a data frame the lane sends (R24). -/
inductive OutgoingCheck
  | original (good : Bool)
  | computed
  | inverted
  deriving DecidableEq, Repr

/-- A frame the lane sends. -/
inductive SentFrame
  | command (f : CommandFrame)
  | setup (n : SetupNotice)
  | data (bytes : List Byte) (check : OutgoingCheck)
  | status (s : DriveStatus)
  deriving DecidableEq, Repr

/-- A lane unit: tag table, current data position, sector in progress, upstream statuses that wait (the pending list of
R40), and what its last traffic event sent to the server and to the drive. -/
structure Lane where
  tags : Vector (Option TagEntry) 33
  position : Option Position
  sector : Option SectorInProgress
  upstream : List UpstreamStatus
  toServer : List SentFrame
  toDrive : List SentFrame
  deriving DecidableEq, Repr

/-! ## Windows (03_windows_and_sector_actions.md) -/

/-- The anchor of a window (R46). -/
inductive Anchor
  | fromStart
  | fromEnd
  deriving DecidableEq, Repr

/-- The action of a window (R46). -/
inductive WindowAction
  | test
  | verify
  | record
  | exclude
  deriving DecidableEq, Repr

/-- The pattern kind of a window (R46). -/
inductive PatternKind
  | stamp
  | fill
  | table
  deriving DecidableEq, Repr

/-- A window record (R46). -/
structure Window where
  enabled : Bool
  mask : BitVec 8
  anchor : Anchor
  base : Nat
  length : Nat
  action : WindowAction
  kind : PatternKind
  fill : Byte
  tableStart : Nat
  tableLength : Nat
  deriving DecidableEq, Repr

/-! ## Capture unit (06_capture_records.md) -/

/-- The detail of a capture event, by kind (Table 6-2). -/
inductive CaptureDetail
  | stale (foundPass : Nat) (readPass : Nat)
  | slip (offset : Int) (pass : Nat)
  | corrupt (firstIndex : Nat) (expected : Word32) (actual : Word32) (differing : Nat)
  | media (cls : CommandClass) (lba : Nat) (count : Nat) (reported : Bool) (errorSectors : Nat)
  | timeout (cls : CommandClass) (count : Nat) (done : Nat) (errorSectors : Nat)
  | anomaly (serialDiffers : Bool) (capacityDiffers : Bool) (capacity : Nat)
  deriving DecidableEq, Repr

/-- A capture event (R89); its kind is that of its detail. -/
structure CaptureEvent where
  slot : SlotId
  tag : EntryId
  lba : Nat
  time : Time
  detail : CaptureDetail
  deriving DecidableEq, Repr

/-- The state of a capture record with its content (R88, Table 6-1). -/
inductive RecordState
  | off
  | empty
  | full (event : CaptureEvent)
  | read (event : CaptureEvent)
  | overwritten (event : CaptureEvent)
  deriving DecidableEq, Repr

/-- A capture record (R88). -/
structure CaptureRecord where
  slotMask : BitVec 8
  kindMask : BitVec 6
  state : RecordState
  arrivals : Nat
  deriving DecidableEq, Repr

/-- The staging record when it holds an event: the event and the record it waits for (R88). -/
structure Staged where
  event : CaptureEvent
  aim : Fin 16
  deriving DecidableEq, Repr

/-- The capture unit (R88). -/
structure CaptureUnit where
  records : Vector CaptureRecord 16
  staging : Option Staged
  openRecord : Option (Fin 16)
  locked : Option (Fin 16)
  stagedLost : Nat
  unmatched : Nat
  deriving DecidableEq, Repr

/-! ## Chamber receiver (07_chamber_line_and_soak_accounting.md) -/

/-- A temperature reading (R109). -/
inductive Reading
  | valid (h : Nat)
  | fault
  | none
  deriving DecidableEq, Repr

/-- The frame in progress of the receiver in IN_FRAME: sequence number and the bytes taken so far (R106). -/
structure FrameInProgress where
  seq : BitVec 4
  bytes : List Byte
  deriving DecidableEq, Repr

/-- The character receiver of the chamber line (R104, R105). `waiting`: no character in progress, with whether the line was last
sampled at mark, so that a sample at space begins a character. `character`: the sample periods since the leading edge of the
start bit, the data and parity bits sampled so far, and whether every sample since the edge was at space. `heldBack`: a
character of spaces alone, stop bit included, that waits for mark or for a break. `inBreak`: LINE_BREAK is set. -/
inductive LineReceiver
  | waiting (mark : Bool)
  | character (periods : Nat) (bits : List Bool) (solid : Bool)
  | heldBack (periods : Nat) (solid : Bool)
  | inBreak
  deriving DecidableEq, Repr

/-- The chamber receiver and soak unit (R119). The frame receiver is in HUNT when `frame` is none, and LINE_BREAK is that of
`receiver`. `h1InEffect` is the H1 that is in effect: a change of the profile's H1 takes effect at the next completed frame (R112). -/
structure Chamber where
  receiver : LineReceiver
  frame : Option FrameInProgress
  readings : Vector Reading 8
  status : Byte
  fresh : Bool
  prevSeq : Option (BitVec 4)
  lineErrors : Nat
  seqGaps : Nat
  breaks : Nat
  framesTaken : Nat
  staleTimer : Option Time
  h1InEffect : Nat
  deriving DecidableEq, Repr

/-! ## Profile (11_management_line_alerts_and_start_up.md, Table 11-3) -/

/-- The grading items of the profile (R134). -/
structure GradingItems where
  wDefsec : Nat
  wExtent : Nat
  wStale : Nat
  wSlip : Nat
  wTimeout : Nat
  wSlow : Nat
  wShort : Nat
  wHot : Nat
  b1 : Nat
  b2 : Nat
  b3 : Nat
  slipLimit : Nat
  strictSoak : Bool
  deriving DecidableEq, Repr

/-- The scalar items of the profile (Table 11-3). -/
structure Profile where
  commandTimeout : Nat
  latencyBase : Nat
  slowBucket : Nat
  slipReach : Nat
  shipFill : Byte
  defectCap : Nat
  divisor : Nat
  staleTimeout : Nat
  h1 : Nat
  h2 : Nat
  knots : Vector Nat 9
  factors : Vector Nat 9
  offerTimeout : Nat
  grading : GradingItems
  deriving DecidableEq, Repr

/-! ## Grade engine (08_grading.md) -/

/-- The inputs a computation reads at its take (R125). -/
structure GradeInputs where
  stale : Nat
  slip : Nat
  timeouts : Nat
  slowCount : Nat
  excursionSeconds : Nat
  a : Nat
  g : Nat
  extentCount : Nat
  defectSectors : Nat
  truncated : Bool
  items : GradingItems
  deriving DecidableEq, Repr

/-- The computation record of the engine in COMPUTING (R123); its answer is formed from the inputs. -/
structure Computation where
  slot : SlotId
  void : Bool
  takeTime : Time
  inputs : GradeInputs
  deriving DecidableEq, Repr

/-! ## Sort port (09_sort_port.md) -/

/-- A sort notice (R136); the bin is the copy of the slot's grade result's. -/
structure Notice where
  slot : SlotId
  bin : Option Bin
  deriving DecidableEq, Repr

/-- The handshake state (R137): OFFER with the start of its timer, RELEASE with the notice being released and whether it
is still queued (R141, R143). -/
inductive Handshake
  | idle
  | offer (began : Time)
  | release (notice : Notice) (queued : Bool)
  | stalled
  deriving DecidableEq, Repr

/-- The sort port: queue, handshake and the input levels as last taken (R136, R145). -/
structure SortPort where
  queue : List Notice
  handshake : Handshake
  take : Bool
  busy : Bool
  fault : Bool
  deriving DecidableEq, Repr

/-! ## Management block (11_management_line_alerts_and_start_up.md) -/

/-- The status codes of a reply (R159). -/
inductive Status
  | ok
  | notReady
  | busy
  | refused
  | range
  | unknown
  deriving DecidableEq, Repr

/-- The reply buffer (R158); the payload length is the list's. -/
structure Reply where
  status : Status
  payload : List Byte
  deriving DecidableEq, Repr

/-- The source of a load (R167). -/
inductive LoadSource
  | eeprom
  | noload
  | absent
  | badSignature
  | badLength
  | badCrc
  | badFormat
  deriving DecidableEq, Repr

/-- The loader result (R167). -/
structure LoaderResult where
  source : LoadSource
  stored : Nat
  skipped : Nat
  clamped : Nat
  firstClamped : Option Nat
  deriving DecidableEq, Repr

/-- Whether a load follows a reset or is a PROFILE_RELOAD (R166). -/
inductive LoadKind
  | afterReset
  | reload
  deriving DecidableEq, Repr

/-- The loader state (R166). -/
inductive Loader
  | ready
  | loading (kind : LoadKind) (began : Time)
  deriving DecidableEq, Repr

/-- The sector size in force (00_scope.md, Sectors). -/
inductive SectorSize
  | s512
  | s4096
  deriving DecidableEq, Repr

/-! ## The whole part -/

/-- The state of the part. -/
structure State where
  /-- The model's queue of commands, first in first out. -/
  pending : List Instr
  /-- The reset input is asserted (R170). -/
  inReset : Bool
  timebase : Time
  soakTimer : Option Time
  straps : Straps
  sectorSize : SectorSize
  loader : Loader
  loaderResult : LoaderResult
  reply : Reply
  alerts : BitVec 17
  alertMask : BitVec 17
  profile : Profile
  windows : Vector Window 16
  patternTable : List Host.Cell
  slots : Vector SlotRecord 8
  presence : Vector Presence 8
  lanes : Vector Lane 8
  freeExtents : Nat
  capture : CaptureUnit
  chamber : Chamber
  gradeQueue : List SlotId
  engine : Option Computation
  sort : SortPort
  /-- The model's counter behind the free values Config.tieBreak and Config.eepromRead (log entries 3 and 4). -/
  tieCount : Nat
  deriving DecidableEq, Repr

/-- The reasons a step could fault for: there are none. Every command of the part ends in a next state, and error
conditions are counted or flagged in it. -/
inductive Fault
  deriving DecidableEq, Repr

/-- The reasons a step could be refused for. -/
inductive Refusal
  /-- Raised by a refused arm of exec for a command with no meaning yet; no arm is one. Safe: the machine stops. -/
  | notModelled (mnemonic : String)
  deriving DecidableEq, Repr

/-! ## Initial values -/

/-- The identity after a reset, or a removal that makes it invalid (R2). -/
def Identity.invalid : Identity :=
  { valid := false, serial := Vector.replicate 20 0#8, capacity := 0 }

/-- Test counters at 0 (Table 1-3). -/
def TestCounters.zero : TestCounters :=
  { writtenSectors := 0, checkedSectors := 0, stale := 0, slip := 0, corrupt := 0, media := 0, timeouts := 0,
    late := 0, aborted := 0, abandoned := 0, withheld := 0, anomalies := 0 }

/-- Latency statistics at 0 (Table 1-3). -/
def Latency.zero : Latency :=
  { histogram := Vector.replicate 16 0, slowCount := 0, maxLatency := 0 }

/-- A soak block at 0 with a target (Table 1-3). -/
def SoakBlock.withTarget (g : Nat) : SoakBlock :=
  { a := 0, burnSeconds := 0, staleSeconds := 0, chamberOffSeconds := 0, coldSeconds := 0, excursionSeconds := 0,
    heldSeconds := 0, target := g, maxH := 0 }

/-- The empty defect summary (Table 1-3). -/
def Defects.none : Defects := { extents := [], sectors := 0, unrecorded := 0, truncated := false }

/-- An emptied ship state with the record pad byte given (R149). -/
def ShipState.emptied (pad : Byte) : ShipState :=
  { written := 0#17, verified := 0#17, filled := 0, verifiedFill := 0, bad := 0, padByte := pad }

/-- The slot record of Table 1-3, column 'Chip reset', with the shipped counter given (soft reset keeps it). -/
def SlotRecord.initial (shipped : Nat) : SlotRecord :=
  { phase := .empty, orphaned := false, sorted := false, identity := Identity.invalid, seed := 0#32, pass := 0,
    counters := TestCounters.zero, latency := Latency.zero, soak := SoakBlock.withTarget 0, defects := Defects.none,
    grade := Option.none, ship := ShipState.emptied 0#8, shipped := shipped }

/-- A lane unit after a reset (R25). -/
def Lane.initial : Lane :=
  { tags := Vector.replicate 33 none, position := none, sector := none, upstream := [], toServer := [], toDrive := [] }

/-- The built-in disabled window (R59). -/
def Window.builtIn : Window :=
  { enabled := false, mask := 0#8, anchor := .fromStart, base := 0, length := 1, action := .exclude, kind := .stamp,
    fill := 0#8, tableStart := 0, tableLength := 1024 }

/-- A capture record after a reset with no filter (R101). -/
def CaptureRecord.initial : CaptureRecord :=
  { slotMask := 0#8, kindMask := 0#6, state := .off, arrivals := 0 }

/-- The capture unit after a reset (R101). -/
def CaptureUnit.initial : CaptureUnit :=
  { records := Vector.replicate 16 CaptureRecord.initial, staging := none, openRecord := none, locked := none,
    stagedLost := 0, unmatched := 0 }

/-- The chamber receiver after a reset (R119), with the built-in H1 (R112). -/
def Chamber.initial : Chamber :=
  { receiver := .waiting false, frame := Option.none, readings := Vector.replicate 8 Reading.none, status := 0#8, fresh := false,
    prevSeq := Option.none, lineErrors := 0, seqGaps := 0, breaks := 0, framesTaken := 0, staleTimer := Option.none
    h1InEffect := 156 }

/-- The built-in grading items (R134). -/
def GradingItems.builtIn : GradingItems :=
  { wDefsec := 10, wExtent := 200, wStale := 500, wSlip := 5000, wTimeout := 1000, wSlow := 2, wShort := 50, wHot := 20,
    b1 := 2000, b2 := 5000, b3 := 12000, slipLimit := 100, strictSoak := false }

/-- The knots of the built-in knot table (Table 7-2). -/
def builtInKnots : Vector Nat 9 := ⟨#[80, 100, 110, 120, 130, 140, 150, 160, 170], rfl⟩

/-- The factors of the built-in knot table (Table 7-2). -/
def builtInFactors : Vector Nat 9 := ⟨#[128, 256, 320, 384, 448, 512, 640, 768, 896], rfl⟩

/-- The built-in values of the profile (Table 11-3). -/
def Profile.builtIn : Profile :=
  { commandTimeout := 30000, latencyBase := 100, slowBucket := 10, slipReach := 16, shipFill := 0#8, defectCap := 64,
    divisor := 26, staleTimeout := 5, h1 := 156, h2 := 170, knots := builtInKnots, factors := builtInFactors,
    offerTimeout := 30, grading := GradingItems.builtIn }

/-- The sector size the SECT4K strap gives (R165). -/
def strappedSize (st : Straps) : SectorSize := if st.sect4k then .s4096 else .s512

/-- The loader result a chip reset sets (R167). -/
def LoaderResult.initial : LoaderResult :=
  { source := .noload, stored := 0, skipped := 0, clamped := 0, firstClamped := none }

/-- Straps with every level low: the levels State.reset takes (log entry 1, DESIGN CHOICE). -/
def lowStraps : Straps := { addr := 0#3, slots4 := false, noload := false, sect4k := false }

/-- The part right after the release of a chip reset, with every strap and every input pin at its low level (log entry
1): Table 1-3, R25, R59, R101, R119, R145, Table 11-4. The loader has begun and nothing waits in the queue. -/
def State.reset : State :=
  { pending := []
    inReset := false
    timebase := 0#32
    soakTimer := none
    straps := lowStraps
    sectorSize := .s512
    loader := .loading .afterReset 0#32
    loaderResult := LoaderResult.initial
    reply := { status := .notReady, payload := [] }
    alerts := 0#17
    alertMask := BitVec.allOnes 17
    profile := Profile.builtIn
    windows := Vector.replicate 16 Window.builtIn
    patternTable := []
    slots := Vector.replicate 8 (SlotRecord.initial 0)
    presence := Vector.replicate 8 { raw := false, debounced := false, interval := none }
    lanes := Vector.replicate 8 Lane.initial
    freeExtents := 512
    capture := CaptureUnit.initial
    chamber := Chamber.initial
    gradeQueue := []
    engine := none
    sort := { queue := [], handshake := .idle, take := false, busy := false, fault := false }
    tieCount := 0 }

end Sys2Proof.Machine
end

