-- ==== Sys2Proof/Machine/Flags.lean ====
section
/-!
DEFINITION. Saturating counters (00_scope.md, Table 3) and the alert flags with their output (R163).
-/
namespace Sys2Proof.Machine

/-- The maximum of a 32-bit count. -/
def max32 : Nat := 4294967295

/-- The maximum of a 16-bit count. -/
def max16 : Nat := 65535

/-- `a + b`, held at `limit` (00_scope.md: counters saturate and do not wrap). -/
def satAdd (limit a b : Nat) : Nat := min (a + b) limit

/-- One more on an 8-bit count (Table 3: extent hits). -/
def inc8 (n : Nat) : Nat := satAdd 255 n 1

/-- One more on a 16-bit count (Table 3). -/
def inc16 (n : Nat) : Nat := satAdd max16 n 1

/-- One more on a 32-bit count (Table 3). -/
def inc32 (n : Nat) : Nat := satAdd max32 n 1

/-- The 17 alert flags (Table 11-2). -/
inductive AlertFlag
  | captureNew
  | stagedLost
  | unmatched
  | chamberStale
  | chamberLine
  | sortStalled
  | gradeDone
  | mispull
  | loaderDone
  | slotAttn (slot : SlotId)
  deriving DecidableEq, Repr

/-- The bit of an alert flag (Table 12-1). -/
def AlertFlag.bit : AlertFlag → Nat
  | .captureNew => 0
  | .stagedLost => 1
  | .unmatched => 2
  | .chamberStale => 3
  | .chamberLine => 4
  | .sortStalled => 5
  | .gradeDone => 6
  | .mispull => 7
  | .loaderDone => 8
  | .slotAttn slot => 9 + slot.val

/-- The alert set holding one flag. -/
def AlertFlag.set (f : AlertFlag) : BitVec 17 := 1#17 <<< f.bit

/-- A flag is set; setting a set flag leaves it set (R163). -/
def State.raise (s : State) (f : AlertFlag) : State := { s with alerts := s.alerts ||| f.set }

/-- Whether a flag is set. -/
def State.alertSet (s : State) (f : AlertFlag) : Bool := s.alerts.getLsbD f.bit

/-- The alert output: asserted while at least one flag is set whose mask bit is also set (R163). -/
def State.alertOutput (s : State) : Bool := s.alerts &&& s.alertMask != 0#17

end Sys2Proof.Machine
end

