-- ==== Sys2Proof/Machine/Operands.lean ====
section
/-!
DEFINITION. The operand forms of the management line and the other byte layouts: numbers least significant byte
first, flags, bit sets, slot and index arguments, and the codes of Table 12-1 (R171).
-/
namespace Sys2Proof.Machine

/-- A number in `n` bytes, least significant byte first (R171). -/
def le : Nat → Nat → List Byte
  | 0, _ => []
  | n + 1, v => BitVec.ofNat 8 v :: le n (v / 256)

/-- The number that bytes store least significant byte first (R171). -/
def fromLe : List Byte → Nat
  | [] => 0
  | b :: bs => b.toNat + 256 * fromLe bs

/-- A flag byte: 0 or 1 (R171). -/
def flagByte (b : Bool) : Byte := if b then 1#8 else 0#8

/-- A flag argument: any nonzero byte means set (R171). -/
def flagArg (b : Byte) : Bool := b != 0#8

/-- A byte whose bit i is the i-th flag of the list (R171). -/
def flagBits : List Bool → Nat
  | [] => 0
  | b :: bs => (if b then 1 else 0) + 2 * flagBits bs

/-- A slot argument, none above 7 (R9, R161). -/
def slotArg (b : Byte) : Option SlotId := if h : b.toNat < 8 then some ⟨b.toNat, h⟩ else none

/-- A window or capture record argument, none above 15 (R56, R95). -/
def sixteenArg (b : Byte) : Option (Fin 16) := if h : b.toNat < 16 then some ⟨b.toNat, h⟩ else none

/-- A list cut or filled with `pad` to `n` bytes, for the queue fields of STATUS (Table 12-4). -/
def padTo (n : Nat) (pad : Byte) (bs : List Byte) : List Byte := (bs ++ List.replicate n pad).take n

/-- The code of an absent slot, record or sequence number (R171). -/
def absentByte : Byte := 0xFF#8

/-- A number in one byte, or 0xFF when absent (R171). -/
def optByte : Option Nat → Byte
  | none => absentByte
  | some n => BitVec.ofNat 8 n

/-- Status codes (Table 12-1). -/
def Status.code : Status → Byte
  | .ok => 0#8
  | .notReady => 1#8
  | .busy => 2#8
  | .refused => 3#8
  | .range => 4#8
  | .unknown => 5#8

/-- Phase codes (Table 12-1). -/
def PhaseName.code : PhaseName → Nat
  | .empty => 0
  | .idle => 1
  | .burn => 2
  | .scan => 3
  | .gradeWait => 4
  | .graded => 5
  | .ship => 6
  | .sealed => 7
  | .hold => 8

/-- Class codes (Table 12-1). -/
def CommandClass.code : CommandClass → Nat
  | .qread => 0
  | .qwrite => 1
  | .read => 2
  | .write => 3
  | .ident => 4
  | .flush => 5
  | .other => 6

/-- Event kind codes and mask bits (Table 12-1). -/
def CaptureDetail.kind : CaptureDetail → Nat
  | .stale _ _ => 0
  | .slip _ _ => 1
  | .corrupt _ _ _ _ => 2
  | .media _ _ _ _ _ => 3
  | .timeout _ _ _ _ => 4
  | .anomaly _ _ _ => 5

/-- Bin codes (Table 12-1). -/
def Bin.code : Bin → Nat
  | .a => 1
  | .b => 2
  | .c => 3
  | .reject => 4

/-- Bin codes with 0 for an absent grade result (Table 12-1). -/
def binCode : Option Bin → Nat
  | none => 0
  | some x => x.code

/-- Reason codes (Table 12-1). -/
def Reason.code : Reason → Nat
  | .score => 1
  | .truncated => 2
  | .slipLimit => 3
  | .soakShort => 4
  | .shipAbandoned => 5

/-- Capture state codes (Table 12-1). -/
def RecordState.code : RecordState → Nat
  | .off => 0
  | .empty => 1
  | .full _ => 2
  | .read _ => 3
  | .overwritten _ => 4

/-- Anchor codes (Table 12-1). -/
def Anchor.code : Anchor → Nat
  | .fromStart => 0
  | .fromEnd => 1

/-- The anchor a code names (Table 12-1). -/
def Anchor.ofCode : Nat → Option Anchor
  | 0 => some .fromStart
  | 1 => some .fromEnd
  | _ => none

/-- Window action codes (Table 12-1). -/
def WindowAction.code : WindowAction → Nat
  | .test => 0
  | .verify => 1
  | .record => 2
  | .exclude => 3

/-- The window action a code names (Table 12-1). -/
def WindowAction.ofCode : Nat → Option WindowAction
  | 0 => some .test
  | 1 => some .verify
  | 2 => some .record
  | 3 => some .exclude
  | _ => none

/-- Pattern kind codes (Table 12-1). -/
def PatternKind.code : PatternKind → Nat
  | .stamp => 0
  | .fill => 1
  | .table => 2

/-- The pattern kind a code names (Table 12-1). -/
def PatternKind.ofCode : Nat → Option PatternKind
  | 0 => some .stamp
  | 1 => some .fill
  | 2 => some .table
  | _ => none

/-- Loader source codes (Table 12-1). -/
def LoadSource.code : LoadSource → Nat
  | .eeprom => 0
  | .noload => 1
  | .absent => 2
  | .badSignature => 3
  | .badLength => 4
  | .badCrc => 5
  | .badFormat => 6

/-- Sort handshake codes (Table 12-1). -/
def Handshake.code : Handshake → Nat
  | .idle => 0
  | .offer _ => 1
  | .release _ _ => 2
  | .stalled => 3

/-- Extent cause bits, CORRUPT 0 and MEDIA 1 (Table 12-1). -/
def Extent.causeBits (e : Extent) : Nat := flagBits [e.corrupt, e.media]

/-- The tag a status, notice or event names for an entry: none for the untagged entry (R23). -/
def entryTag (e : EntryId) : Option (Fin 32) := if h : e.val < 32 then some ⟨e.val, h⟩ else none

/-- The entry that a tag or its absence names (R29, R34). -/
def entryOf : Option (Fin 32) → EntryId
  | none => untagged
  | some t => tagEntry t

end Sys2Proof.Machine
end

