-- ==== Sys2Proof/Machine/CaptureUnit.lean ====
section
/-!
DEFINITION. The capture unit (06_capture_records.md): matching, delivery, the release of the lock with its move-in, and
the setting of a filter. Each operation answers the unit afterwards and the alert flag it raises, if any (R100).
-/
namespace Sys2Proof.Machine

/-- A record's filter names an event's slot and kind, and the record is not OFF (R90). -/
def CaptureRecord.accepts (r : CaptureRecord) (e : CaptureEvent) : Bool :=
  r.state != .off && r.slotMask.getLsbD e.slot.val && r.kindMask.getLsbD e.detail.kind

/-- The record is EMPTY or READ (R91). -/
def RecordState.isFree : RecordState → Bool
  | .empty => true
  | .read _ => true
  | .off => false
  | .full _ => false
  | .overwritten _ => false

/-- The record is FULL or OVERWRITTEN (R92). -/
def RecordState.isUnread : RecordState → Bool
  | .full _ => true
  | .overwritten _ => true
  | .off => false
  | .empty => false
  | .read _ => false

/-- The content of a record, none in OFF and EMPTY (R88). -/
def RecordState.content : RecordState → Option CaptureEvent
  | .off => none
  | .empty => none
  | .full e => some e
  | .read e => some e
  | .overwritten e => some e

/-- A record with an event written into it: its new state, and one arrival more (R91, R92, R97). -/
def CaptureRecord.written (r : CaptureRecord) (st : RecordState) : CaptureRecord :=
  { r with state := st, arrivals := inc16 r.arrivals }

/-- One record changed. -/
def CaptureUnit.setRecord (u : CaptureUnit) (n : Fin 16) (r : CaptureRecord) : CaptureUnit :=
  { u with records := u.records.set n r }

/-- The lowest-numbered record that meets a test. -/
def CaptureUnit.lowest (u : CaptureUnit) (test : Fin 16 → CaptureRecord → Bool) : Option (Fin 16) :=
  allSixteen.find? (fun n => test n u.records[n])

/-- Delivery of an event (R90 to R94). -/
def CaptureUnit.deliver (u : CaptureUnit) (e : CaptureEvent) : CaptureUnit × Option AlertFlag :=
  match u.lowest (fun _ r => r.accepts e && r.state.isFree) with
  | some n => (u.setRecord n (u.records[n].written (.full e)), some .captureNew)
  | none =>
    match u.lowest (fun n r => r.accepts e && r.state.isUnread && u.locked != some n) with
    | some n => (u.setRecord n (u.records[n].written (.overwritten e)), some .captureNew)
    | none =>
      match u.lowest (fun _ r => r.accepts e) with
      | some n =>
        match u.staging with
        | none => ({ u with staging := some { event := e, aim := n } }, none)
        | some _ =>
          ({ u with staging := some { event := e, aim := n }, stagedLost := inc16 u.stagedLost }, some .stagedLost)
      | none => ({ u with unmatched := inc16 u.unmatched }, some .unmatched)

/-- The state a released record takes: READ with its content (R97). -/
def RecordState.released : RecordState → RecordState
  | .off => .off
  | .empty => .empty
  | .full e => .read e
  | .read e => .read e
  | .overwritten e => .read e

/-- The release of the lock by CAPTURE_CLOSE or CAPTURE_OPEN of another record, with the move-in (R97). -/
def CaptureUnit.releaseLock (u : CaptureUnit) : CaptureUnit × Option AlertFlag :=
  match u.locked with
  | none => (u, none)
  | some n =>
    match u.staging with
    | none =>
      ({ u.setRecord n { u.records[n] with state := u.records[n].state.released } with locked := none }, none)
    | some st =>
      if st.aim = n then
        ({ u.setRecord n (u.records[n].written (.full st.event)) with locked := none, staging := none }, some .captureNew)
      else ({ u.setRecord n { u.records[n] with state := u.records[n].state.released } with locked := none }, none)

/-- CAPTURE_OPEN's effect (R95). -/
def CaptureUnit.opened (u : CaptureUnit) (n : Fin 16) : CaptureUnit × Option AlertFlag :=
  let (v, a) := if u.locked = some n then (u, none) else u.releaseLock
  ({ v with openRecord := some n, locked := if v.records[n].state.isUnread then some n else none }, a)

/-- CAPTURE_CLOSE's effect (R98). -/
def CaptureUnit.closed (u : CaptureUnit) : CaptureUnit × Option AlertFlag :=
  let (v, a) := u.releaseLock
  ({ v with openRecord := none }, a)

/-- The record a filter makes: OFF with both masks zero, else EMPTY (R99, R101). -/
def CaptureRecord.filtered (slotMask : BitVec 8) (kindMask : BitVec 6) : CaptureRecord :=
  { slotMask := slotMask, kindMask := kindMask
    state := if slotMask = 0#8 ∧ kindMask = 0#6 then .off else .empty, arrivals := 0 }

/-- A staged event aimed at record n (R95, R99). -/
def CaptureUnit.stagedFor (u : CaptureUnit) (n : Fin 16) : Bool :=
  match u.staging with
  | none => false
  | some st => st.aim == n

/-- CAPTURE_SET's effect (R99). -/
def CaptureUnit.filterSet (u : CaptureUnit) (n : Fin 16) (slotMask : BitVec 8) (kindMask : BitVec 6) :
    CaptureUnit × Option AlertFlag :=
  let discards := u.stagedFor n
  ({ u.setRecord n (CaptureRecord.filtered slotMask kindMask) with
      staging := if discards then none else u.staging
      stagedLost := if discards then inc16 u.stagedLost else u.stagedLost
      locked := if u.locked = some n then none else u.locked },
    if discards then some .stagedLost else none)

/-- The header of a record (R95, Table 12-6). -/
def CaptureUnit.header (u : CaptureUnit) (n : Fin 16) : List Byte :=
  le 1 n.val ++ le 1 u.records[n].state.code ++ [flagByte (u.locked == some n)] ++ [u.records[n].slotMask] ++
    le 1 u.records[n].kindMask.toNat ++ le 2 u.records[n].arrivals ++ [flagByte (u.stagedFor n)]

/-- The 16 bytes of a detail (Table 12-6). A SLIP offset is two's complement (R171). -/
def CaptureDetail.bytes : CaptureDetail → List Byte
  | .stale p' p => le 2 p' ++ le 2 p ++ le 12 0
  | .slip offset p => le 2 (BitVec.ofInt 16 offset).toNat ++ le 2 p ++ le 12 0
  | .corrupt i exp act n => le 2 i ++ le 4 exp.toNat ++ le 4 act.toNat ++ le 2 n ++ le 4 0
  | .media cls lba count reported errs =>
    le 1 cls.code ++ [flagByte reported] ++ le 6 lba ++ le 4 count ++ le 2 errs ++ le 2 0
  | .timeout cls count done errs => le 1 cls.code ++ le 1 0 ++ le 4 count ++ le 4 done ++ le 2 errs ++ le 4 0
  | .anomaly sd cd cap => le 1 (flagBits [sd, cd]) ++ le 1 0 ++ le 6 cap ++ le 8 0

/-- The content reply of a record (R96, Table 12-6). -/
def captureContent (st : RecordState) (e : CaptureEvent) : List Byte :=
  le 1 st.code ++ le 1 e.slot.val ++ le 1 e.detail.kind ++ le 1 e.tag.val ++ le 6 e.lba ++ le 4 e.time.toNat ++
    e.detail.bytes

end Sys2Proof.Machine
end

