-- ==== Sys2Proof/Machine/Pool.lean ====
section
/-!
DEFINITION. The defect pool (05_defect_extents.md): insertion of a failing LBA into a slot's extent list by containment,
upward extension, downward extension and creation, with the records that move to and from the free list.
-/
namespace Sys2Proof.Machine

/-- The cause of an insertion (R80). -/
inductive Cause
  | corrupt
  | media
  deriving DecidableEq, Repr

/-- The longest extent (R77). -/
def maxExtentLength : Nat := 65535

/-- The first LBA above an extent: its end plus one (R77). -/
def Extent.above (e : Extent) : Nat := e.start + e.length

/-- An LBA lies within an extent, from its start to its end (R81). -/
def Extent.contains (e : Extent) (l : Nat) : Bool := e.start ≤ l && l < e.above

/-- An insertion absorbed by an extent: hits, causes and first pass (R81). -/
def Extent.absorb (e : Extent) (c : Cause) (p : Nat) : Extent :=
  { e with
    hits := inc8 e.hits
    corrupt := e.corrupt || c == .corrupt
    media := e.media || c == .media
    firstPass := min e.firstPass p }

/-- The extent a creation makes (R84). -/
def Extent.created (l : Nat) (c : Cause) (p : Nat) : Extent :=
  { start := l, length := 1, corrupt := c == .corrupt, media := c == .media, firstPass := p, hits := 1 }

/-- Two extents that touch and whose lengths fit one extent (R82, R83). -/
def Extent.mergesWith (e f : Extent) : Bool := e.above == f.start && e.length + f.length ≤ maxExtentLength

/-- Two extents made one: the sum of the lengths, the union of the causes, the lower first pass, hits summed with
saturation (R82). -/
def Extent.merge (e f : Extent) : Extent :=
  { start := e.start
    length := e.length + f.length
    corrupt := e.corrupt || f.corrupt
    media := e.media || f.media
    firstPass := min e.firstPass f.firstPass
    hits := satAdd 255 e.hits f.hits }

/-- Containment (R81): the list with the extent that contains `l` having absorbed the insertion, if one does. -/
def absorbInto (l : Nat) (c : Cause) (p : Nat) : List Extent → Option (List Extent)
  | [] => none
  | e :: es => if e.contains l then some (e.absorb c p :: es) else (absorbInto l c p es).map (e :: ·)

/-- An extent that ends just below `l` and may grow, extended upward (R82). -/
def Extent.grownUp (e : Extent) (c : Cause) (p : Nat) : Extent := { e.absorb c p with length := e.length + 1 }

/-- An extent that starts just above `l` and may grow, extended downward to `l` (R83). -/
def Extent.grownDown (e : Extent) (l : Nat) (c : Cause) (p : Nat) : Extent :=
  { e.absorb c p with start := l, length := e.length + 1 }

/-- An extent in front of a list, merged with the list's first extent where they touch and fit (R82). -/
def consMerging (e : Extent) : List Extent → List Extent
  | [] => [e]
  | f :: fs => if e.mergesWith f then e.merge f :: fs else e :: f :: fs

/-- Upward extension (R82), with the merge into the extent that follows. -/
def extendUp (l : Nat) (c : Cause) (p : Nat) : List Extent → Option (List Extent)
  | [] => none
  | e :: es =>
    if e.above == l && e.length < maxExtentLength then some (consMerging (e.grownUp c p) es)
    else (extendUp l c p es).map (e :: ·)

/-- Downward extension (R83) of a list whose first extent `below` lies directly below the rest. -/
def extendDownAfter (l : Nat) (c : Cause) (p : Nat) (below : Extent) : List Extent → Option (List Extent)
  | [] => none
  | f :: fs =>
    if l + 1 == f.start && f.length < maxExtentLength then some (consMerging below (f.grownDown l c p :: fs))
    else (extendDownAfter l c p f fs).map (below :: ·)

/-- Downward extension (R83), with the merge with the extent directly below. -/
def extendDown (l : Nat) (c : Cause) (p : Nat) : List Extent → Option (List Extent)
  | [] => none
  | f :: fs =>
    if l + 1 == f.start && f.length < maxExtentLength then some (f.grownDown l c p :: fs)
    else extendDownAfter l c p f fs

/-- A new extent placed in ascending order of start (R84). -/
def placeExtent (x : Extent) : List Extent → List Extent
  | [] => [x]
  | e :: es => if x.start < e.start then x :: e :: es else e :: placeExtent x es

/-- An extension or a merge taken: the list, one sector more, and the records that left the list back on the free list
(R82, R83). -/
def Defects.extended (d : Defects) (es : List Extent) : Defects := { d with extents := es, sectors := inc32 d.sectors }

/-- An insertion that could not be placed (R84). -/
def Defects.lost (d : Defects) : Defects := { d with unrecorded := inc16 d.unrecorded, truncated := true }

/-- One insertion into a slot's list (R80 to R84): the slot's defect summary and the free records afterwards. -/
def insertDefect (cap : Nat) (l : Nat) (c : Cause) (p : Nat) (d : Defects) (free : Nat) : Defects × Nat :=
  match absorbInto l c p d.extents with
  | some es => ({ d with extents := es }, free)
  | none =>
    match extendUp l c p d.extents with
    | some es => (d.extended es, free + (d.extents.length - es.length))
    | none =>
      match extendDown l c p d.extents with
      | some es => (d.extended es, free + (d.extents.length - es.length))
      | none =>
        if d.extents.length < cap && 0 < free then (d.extended (placeExtent (Extent.created l c p) d.extents), free - 1)
        else (d.lost, free)

/-- The sum of the lengths of a list of extents (R78). -/
def sectorSum : List Extent → Nat
  | [] => 0
  | e :: es => e.length + sectorSum es

/-- A list as R78 keeps it: non-empty extents within the LBAs, in strictly ascending order without overlap, and two
adjacent ones only where their lengths add to more than 65535. -/
def extentsOk : List Extent → Bool
  | [] => true
  | [e] => 1 ≤ e.length && e.length ≤ maxExtentLength && e.above ≤ Config.lbaEnd
  | e :: f :: fs =>
    1 ≤ e.length && e.length ≤ maxExtentLength &&
      (e.above < f.start || (e.above == f.start && maxExtentLength < e.length + f.length)) && extentsOk (f :: fs)

end Sys2Proof.Machine
end

