-- ==== Sys2Proof/Machine/ShipRecord.lean ====
section
/-!
DEFINITION. The ship record (10_shipping_and_sealing.md, Table 12-8): its image, its CRC-32, its record sectors and
their number.
-/
namespace Sys2Proof.Machine

/-- The bytes of a sector (00_scope.md). -/
def SectorSize.bytes : SectorSize → Nat
  | .s512 => 512
  | .s4096 => 4096

/-- The 32-bit words of a sector (00_scope.md). -/
def SectorSize.words (z : SectorSize) : Nat := z.bytes / 4

/-- The length of a ship record with `e` extents (R147). -/
def shipRecordLength (e : Nat) : Nat := 64 + 16 * e + 4

/-- The number n of record sectors (R148): the smallest whole number whose sectors hold the record. -/
def recordSectorCount (z : SectorSize) (e : Nat) : Nat := (shipRecordLength e + z.bytes - 1) / z.bytes

/-- One bit of the CRC-32 shift (R150). -/
def crc32Shift (r : Word32) : Word32 := if r.getLsbD 0 then (r >>> 1) ^^^ 0xEDB88320#32 else r >>> 1

/-- The CRC-32 register after one byte (R150). -/
def crc32Byte (r : Word32) (b : Byte) : Word32 :=
  crc32Shift (crc32Shift (crc32Shift (crc32Shift (crc32Shift (crc32Shift (crc32Shift (crc32Shift
    (r ^^^ b.setWidth 32))))))))

/-- The CRC-32 of bytes (R150). -/
def crc32 (bs : List Byte) : Word32 := bs.foldl crc32Byte 0xFFFFFFFF#32 ^^^ 0xFFFFFFFF#32

/-- An extent entry of the ship record and of DEFECT_READ (Table 12-7). -/
def Extent.bytes (e : Extent) : List Byte :=
  le 6 e.start ++ le 2 e.length ++ le 1 e.causeBits ++ le 1 e.hits ++ le 2 e.firstPass ++ le 4 0

/-- The 64 bytes of the ship record's header (R147, Table 12-8). -/
def shipHeader (r : SlotRecord) : List Byte :=
  [0x5A#8, 0x57#8, 0x52#8, 0x31#8] ++ le 4 (shipRecordLength r.defects.extents.length) ++ r.identity.serial.toList ++
    le 6 r.identity.capacity ++ le 1 (binCode (r.grade.map (·.bin))) ++
    le 1 ((r.grade.map (fun g => g.reason.code)).getD 0) ++ le 4 ((r.grade.map (·.score)).getD 0) ++
    le 4 r.soak.a ++ le 2 r.soak.target ++ le 2 r.pass ++ le 4 r.defects.sectors ++ le 2 r.defects.extents.length ++
    le 2 r.defects.unrecorded ++ le 2 r.counters.stale ++ le 2 r.counters.slip ++ le 2 r.counters.timeouts ++
    le 2 r.latency.slowCount

/-- The bytes of the ship record that its CRC-32 covers: header and extent entries (R147, R150). -/
def shipBody (r : SlotRecord) : List Byte := shipHeader r ++ r.defects.extents.flatMap Extent.bytes

/-- The ship record image (R147). -/
def shipRecord (r : SlotRecord) : List Byte := shipBody r ++ le 4 (crc32 (shipBody r)).toNat

/-- Record sector `k`: bytes kS to (k+1)S - 1 of the ship record, the rest padding at the record pad byte (R149). -/
def recordSector (z : SectorSize) (r : SlotRecord) (k : Nat) : List Byte :=
  padTo z.bytes r.ship.padByte ((shipRecord r).drop (k * z.bytes))

/-- Bit k of a written or verified set. -/
def recordBit (k : Nat) : BitVec 17 := 1#17 <<< k

/-- The bits below n of a written or verified set: bits at n and above are reported clear (R75). -/
def reportedSet (n : Nat) (b : BitVec 17) : Nat := b.toNat % 2 ^ n

/-- Every record sector is in the written set and in the verified set (R20). -/
def allRecordsVerified (n : Nat) (s : ShipState) : Bool :=
  (List.range n).all (fun k => s.written.getLsbD k && s.verified.getLsbD k)

end Sys2Proof.Machine
end

