-- ==== Sys2Proof/Machine/Windows.lean ====
section
/-!
DEFINITION. The window table (03_windows_and_sector_actions.md): clamping, resolution against a slot's identity, the
matching window, the record window, and the byte layout of a window record (Table 12-3).
-/
namespace Sys2Proof.Machine

/-- A window given by its fields as they arrive, anchor, action and kind as codes (Table 12-3). -/
structure RawWindow where
  enabled : Byte
  mask : Byte
  anchor : Byte
  action : Byte
  kind : Byte
  fill : Byte
  base : Nat
  length : Nat
  tableStart : Nat
  tableLength : Nat
  deriving DecidableEq, Repr

/-- The fields of the 22 bytes of a window record (Table 12-3), none for another number of bytes. -/
def RawWindow.parse : List Byte → Option RawWindow
  | [en, mask, an, ac, ki, fill, b0, b1, b2, b3, b4, b5, l0, l1, l2, l3, l4, l5, s0, s1, t0, t1] =>
    some
      { enabled := en, mask := mask, anchor := an, action := ac, kind := ki, fill := fill
        base := fromLe [b0, b1, b2, b3, b4, b5], length := fromLe [l0, l1, l2, l3, l4, l5]
        tableStart := fromLe [s0, s1], tableLength := fromLe [t0, t1] }
  | _ => none

/-- The table start as stored (R47). -/
def clampTableStart (t : Nat) : Nat := min t 1023

/-- The table length as stored with the stored table start (R47). -/
def clampTableLength (start len : Nat) : Nat := min (max 1 (min len 1024)) (1024 - start)

/-- The window as stored, none where the anchor, action or kind code names no value (R47). -/
def RawWindow.stored (r : RawWindow) : Option Window :=
  match Anchor.ofCode r.anchor.toNat, WindowAction.ofCode r.action.toNat, PatternKind.ofCode r.kind.toNat with
  | some an, some ac, some ki =>
    some
      { enabled := flagArg r.enabled, mask := r.mask, anchor := an, base := r.base, length := max 1 r.length
        action := ac, kind := ki, fill := r.fill, tableStart := clampTableStart r.tableStart
        tableLength := clampTableLength (clampTableStart r.tableStart) r.tableLength }
  | _, _, _ => none

/-- The window is marked clamped: a stored value differs from the one given (R47). -/
def RawWindow.clamped (r : RawWindow) (w : Window) : Bool :=
  w.length != r.length || w.tableStart != r.tableStart || w.tableLength != r.tableLength

/-- The 22 bytes of a stored window (Table 12-3). -/
def Window.bytes (w : Window) : List Byte :=
  [flagByte w.enabled, w.mask] ++ le 1 w.anchor.code ++ le 1 w.action.code ++ le 1 w.kind.code ++ [w.fill] ++
    le 6 w.base ++ le 6 w.length ++ le 2 w.tableStart ++ le 2 w.tableLength

/-- The resolved range of a window for a slot's identity, first and last LBA, none where it matches nothing (R48, R49). -/
def Window.resolve (w : Window) (id : Identity) : Option (Nat × Nat) :=
  match w.anchor with
  | .fromStart => some (w.base, min (w.base + w.length - 1) (Config.lbaEnd - 1))
  | .fromEnd =>
    if id.valid && 1 ≤ w.base && w.base ≤ id.capacity then
      some (id.capacity - w.base, min (id.capacity - w.base + w.length - 1) (id.capacity - 1))
    else none

/-- A window's slot mask contains a slot (R46). -/
def Window.applies (w : Window) (slot : SlotId) : Bool := w.mask.getLsbD slot.val

/-- The range of a window that covers a slot: enabled, in its mask, and resolving to at least one sector (R49). -/
def Window.coverage (w : Window) (slot : SlotId) (id : Identity) : Option (Nat × Nat) :=
  if w.enabled && w.applies slot then w.resolve id else none

/-- A window matches the sector at an LBA of a slot (R50). -/
def Window.matchesSector (w : Window) (slot : SlotId) (id : Identity) (lba : Nat) : Bool :=
  match w.coverage slot id with
  | none => false
  | some (first, last) => first ≤ lba && lba ≤ last

/-- The lowest-numbered of the sixteen windows that meets a test. -/
def lowestWindow (ws : Vector Window 16) (test : Window → Bool) : Option (Fin 16) :=
  allSixteen.find? (fun i => test ws[i])

/-- The matching window of a sector (R50). -/
def matchingWindow (ws : Vector Window 16) (slot : SlotId) (id : Identity) (lba : Nat) : Option (Fin 16) :=
  lowestWindow ws (fun w => w.matchesSector slot id lba)

/-- The record window of a slot: the lowest-numbered with action RECORD that covers it (R53). -/
def recordWindow (ws : Vector Window 16) (slot : SlotId) (id : Identity) : Option (Fin 16) :=
  lowestWindow ws (fun w => w.action == .record && (w.coverage slot id).isSome)

/-- The record region of a slot: the resolved range of its record window (R53). -/
def recordRegion (ws : Vector Window 16) (slot : SlotId) (id : Identity) : Option (Nat × Nat) :=
  (recordWindow ws slot id).bind (fun i => ws[i].coverage slot id)

/-- The number of sectors of a resolved range (R49). -/
def rangeSectors (r : Nat × Nat) : Nat := r.2 - r.1 + 1

end Sys2Proof.Machine
end

