-- ==== Sys2Proof/Machine/Ops.lean ====
section
/-!
DEFINITION. The shared operations over the state: the part's registers read and written, time, the frame of a management
command (R158, R159), counting into a slot record (R26), the capture and defect reports, abandonment (R41), the sort
port's offer and withdrawal (R138, R143), the hold causes (R14 to R16), slot clear (R8) and orphaning (R7).
-/
namespace Sys2Proof.Machine

/-! ## Reading and changing one part of the state -/

/-- The record of a slot. -/
def State.slot (s : State) (i : SlotId) : SlotRecord := s.slots[i]

/-- The lane unit of a slot. -/
def State.lane (s : State) (i : SlotId) : Lane := s.lanes[i]

/-- The presence of a slot. -/
def State.presenceOf (s : State) (i : SlotId) : Presence := s.presence[i]

/-- A slot record changed. -/
def State.modSlot (s : State) (i : SlotId) (f : SlotRecord → SlotRecord) : State :=
  { s with slots := s.slots.set i (f (s.slot i)) }

/-- A lane unit changed. -/
def State.modLane (s : State) (i : SlotId) (f : Lane → Lane) : State :=
  { s with lanes := s.lanes.set i (f (s.lane i)) }

/-- A presence changed. -/
def State.setPresence (s : State) (i : SlotId) (p : Presence) : State := { s with presence := s.presence.set i p }

/-- A slot's phase changed. -/
def State.setPhase (s : State) (i : SlotId) (p : Phase) : State := s.modSlot i (fun r => { r with phase := p })

/-- The reply buffer replaced (R158). -/
def State.answer (s : State) (st : Status) (payload : List Byte) : State :=
  { s with reply := { status := st, payload := payload } }

/-- A capture unit with the alert flag its operation raises (R100). -/
def State.putCapture (s : State) (u : CaptureUnit × Option AlertFlag) : State :=
  match u.2 with
  | none => { s with capture := u.1 }
  | some f => State.raise { s with capture := u.1 } f

/-! ## Time and bypass -/

/-- Microseconds from a time to the timebase, modulo 2^32 (00_scope.md, Time). -/
def State.elapsed (s : State) (since : Time) : Nat := (s.timebase - since).toNat

/-- A slot that the SLOTS4 strap keeps permanently EMPTY (R165). -/
def State.strappedOff (s : State) (i : SlotId) : Bool := s.straps.slots4 && 4 ≤ i.val

/-- The profile loader is running (R166). -/
def State.isLoading (s : State) : Bool := s.loader != .ready

/-- The lane of a slot is in bypass: in reset, during a load, or permanently under SLOTS4 (R25, R45, R170). -/
def State.bypassed (s : State) (i : SlotId) : Bool := s.inReset || s.isLoading || s.strappedOff i

/-! ## Management commands -/

/-- What a command's rule answers: OK with its effects and payload, or another code and no effect (R159). -/
inductive Answer
  | ok (s : State) (payload : List Byte)
  | no (status : Status)

/-- The state after a command's answer: the reply buffer replaced, and the effects only at OK (R158, R159). -/
def State.concluded (s : State) : Answer → State
  | .ok t payload => t.answer .ok payload
  | .no st => s.answer st []

/-- A management command other than STATUS, decided in the order of R159. In reset nothing is acknowledged (R158); during
a load it answers NOT_READY; `rule` checks the argument bytes and decides the rest. -/
def State.command (s : State) (rule : State → Answer) : State :=
  if s.inReset then s
  else if s.isLoading then s.answer .notReady []
  else s.concluded (rule s)

/-- A command of one argument byte that names a slot: another number of bytes, or a slot above 7, answers RANGE (R9,
R159, R161). -/
def slotCommand (args : List Byte) (rule : SlotId → Answer) : Answer :=
  match args with
  | [b] =>
    match slotArg b with
    | some i => rule i
    | none => .no .range
  | _ => .no .range

/-- A command of no argument bytes (R159). -/
def plainCommand (args : List Byte) (answer : Answer) : Answer :=
  match args with
  | [] => answer
  | _ => .no .range

/-- A read transaction of `n` bytes: the status byte, the length byte, the payload, then zeros; it changes nothing
(R158). -/
def State.readTransaction (s : State) (n : Nat) : List Byte :=
  padTo n 0#8 (s.reply.status.code :: BitVec.ofNat 8 s.reply.payload.length :: s.reply.payload)

/-- The part acknowledges a 7-bit address on the management line (R158). -/
def State.acknowledges (s : State) (addr : BitVec 7) : Bool :=
  !s.inReset && addr == 0x38#7 + s.straps.addr.setWidth 7

/-! ## Counting into the slot record -/

/-- A phase in which the events of the drive link are counted: neither EMPTY nor IDLE (R26). -/
def Phase.counts (p : Phase) : Bool := p != .empty && p != .idle

/-- Events of the drive link are applied to the slot record, the pool and the capture unit (R26). -/
def State.counting (s : State) (i : SlotId) : Bool := (s.slot i).phase.counts

/-- A report into a slot record, applied as R26 says. -/
def State.report (s : State) (i : SlotId) (f : SlotRecord → SlotRecord) : State :=
  if s.counting i then s.modSlot i f else s

/-- A slot record with changed test counters. -/
def SlotRecord.count (f : TestCounters → TestCounters) (r : SlotRecord) : SlotRecord := { r with counters := f r.counters }

/-- One more anomaly. -/
def TestCounters.anomaly (c : TestCounters) : TestCounters := { c with anomalies := inc16 c.anomalies }

/-- One more abandoned command. -/
def TestCounters.abandon (c : TestCounters) : TestCounters := { c with abandoned := inc16 c.abandoned }

/-- One more on ship_bad. -/
def SlotRecord.shipBad (r : SlotRecord) : SlotRecord := { r with ship := { r.ship with bad := inc16 r.ship.bad } }

/-- A capture event raised, applied as R26 says and delivered (R89, R90). -/
def State.capturing (s : State) (e : CaptureEvent) : State :=
  if s.counting e.slot then s.putCapture (s.capture.deliver e) else s

/-- An insertion for a slot, applied as R26 says (R80). -/
def State.insertDefect (s : State) (i : SlotId) (lba : Nat) (c : Cause) (pass : Nat) : State :=
  if s.counting i then
    let (d, free) := Machine.insertDefect s.profile.defectCap lba c pass (s.slot i).defects s.freeExtents
    { s.modSlot i (fun r => { r with defects := d }) with freeExtents := free }
  else s

/-! ## Tag entries -/

/-- The tag entry of a lane, none when FREE (R25). -/
def Lane.entry (l : Lane) (e : EntryId) : Option TagEntry := l.tags[e]

/-- An entry written. -/
def Lane.setEntry (l : Lane) (e : EntryId) (t : Option TagEntry) : Lane := { l with tags := l.tags.set e t }

/-- The entry becomes FREE; the position becomes none if it named it, and a sector in progress on it is dropped (R33,
R41, R60). -/
def Lane.free (l : Lane) (e : EntryId) : Lane :=
  { l.setEntry e none with
    position := l.position.filter (fun p => p.entry != e)
    sector := l.sector.filter (fun x => x.entry != e) }

/-- The entries of a lane that are OPEN or LATE, in order (R25). -/
def Lane.openEntries (l : Lane) : List EntryId := allEntries.filter (fun e => (l.entry e).isSome)

/-- The slot's tag table has an OPEN or LATE entry (R17, R19, R20, R56). -/
def State.hasOpen (s : State) (i : SlotId) : Bool := !(s.lane i).openEntries.isEmpty

/-- Every entry FREE, no position and no sector in progress (R41, R45). -/
def Lane.forgotten (l : Lane) : Lane :=
  { l with tags := Vector.replicate 33 none, position := none, sector := none }

/-- `n` more on abandoned, saturating (R41). -/
def TestCounters.abandonMany (n : Nat) (c : TestCounters) : TestCounters :=
  { c with abandoned := satAdd max16 c.abandoned n }

/-! ## Upstream statuses of a lane -/

/-- The pending list of R40: the entries of the synthesized statuses not yet sent, in the order they joined. -/
def Lane.pendingStatuses (l : Lane) : List EntryId :=
  l.upstream.filterMap fun
    | .synthesized e => some e
    | .fromDrive _ => none

/-- The drive statuses that wait behind a synthesized one. -/
def Lane.waitingDrive (l : Lane) : List SentFrame :=
  l.upstream.filterMap fun
    | .synthesized _ => none
    | .fromDrive st => some (.status st)

/-- The pending list emptied without sending its statuses (R40): drive statuses behind it go on to the server. -/
def Lane.dropPending (l : Lane) : Lane := { l with upstream := [], toServer := l.waitingDrive, toDrive := [] }

/-! ## Sort port -/

/-- The conditions of an offer hold (R138). -/
def SortPort.mayOffer (p : SortPort) : Bool :=
  p.handshake == .idle && !p.queue.isEmpty && !p.busy && !p.fault && !p.take

/-- The sort port with an offer begun where R138 allows one. -/
def SortPort.offering (p : SortPort) (now : Time) : SortPort :=
  if p.mayOffer then { p with handshake := .offer now } else p

/-- The state with the sort port changed and R138 applied to it. -/
def State.putSort (s : State) (p : SortPort) : State := { s with sort := p.offering s.timebase }

/-- A notice joins the tail of the sort queue (R136). -/
def State.postNotice (s : State) (i : SlotId) : State :=
  s.putSort { s.sort with queue := s.sort.queue ++ [{ slot := i, bin := (s.slot i).grade.map (·.bin) }] }

/-- The sort queue holds a notice for a slot (R143). -/
def SortPort.holds (p : SortPort) (i : SlotId) : Bool := p.queue.any (fun n => n.slot == i)

/-- The notice at the head of the queue is a slot's (R143). -/
def SortPort.headIs (p : SortPort) (i : SlotId) : Bool :=
  match p.queue with
  | [] => false
  | n :: _ => n.slot == i

/-- The handshake after the withdrawal of a slot's notice, before R138 is applied (R143). -/
def SortPort.withdrawHandshake (p : SortPort) (i : SlotId) : Handshake :=
  match p.handshake with
  | .idle => .idle
  | .offer t => if p.headIs i then .idle else .offer t
  | .release n queued => .release n (queued && !p.headIs i)
  | .stalled => .stalled

/-- A slot's notice withdrawn from whatever position it holds (R143). -/
def SortPort.withdrawn (p : SortPort) (i : SlotId) : SortPort :=
  { p with queue := p.queue.filter (fun n => n.slot != i), handshake := p.withdrawHandshake i }

/-- The withdrawal of a slot's notice, if the queue holds one, with R138 applied (R143). -/
def State.withdrawNotice (s : State) (i : SlotId) : State :=
  if s.sort.holds i then s.putSort (s.sort.withdrawn i) else s

/-- STROBE (R137). -/
def SortPort.strobe (p : SortPort) : Bool :=
  match p.handshake with
  | .idle => false
  | .offer _ => true
  | .release _ _ => false
  | .stalled => false

/-- The notice on SLOT and BIN, none where both are 0 (R137). -/
def SortPort.presented (p : SortPort) : Option Notice :=
  match p.handshake with
  | .idle => none
  | .offer _ => p.queue.head?
  | .release n _ => some n
  | .stalled => none

/-- SLOT[2:0] (R137). -/
def SortPort.slotOut (p : SortPort) : BitVec 3 := BitVec.ofNat 3 ((p.presented.map (·.slot.val)).getD 0)

/-- BIN[2:0] (R137). -/
def SortPort.binOut (p : SortPort) : BitVec 3 := BitVec.ofNat 3 (binCode (p.presented.bind (·.bin)))

/-! ## Grade queue -/

/-- A cleared or orphaned slot leaves the grade queue, and a computation for it is marked void (R122, R126). -/
def State.withdrawGrade (s : State) (i : SlotId) : State :=
  { s with
    gradeQueue := s.gradeQueue.filter (· != i)
    engine := s.engine.map (fun c => if c.slot = i then { c with void := true } else c) }

/-! ## Holds (R14 to R16) -/

/-- The active phase a phase is, if it is one (R1). -/
def Phase.active : Phase → Option ActivePhase
  | .burn => some .burn
  | .scan => some .scan
  | .ship => some .ship
  | .empty => none
  | .idle => none
  | .gradeWait => none
  | .graded => none
  | .sealed => none
  | .hold _ _ _ => none

/-- The phase of a hold with its causes: the prior phase when no cause is left (R15, R16). -/
def Phase.held (prior : ActivePhase) (manual thermal : Bool) : Phase :=
  if manual || thermal then .hold prior manual thermal else prior.phase

/-- THERMAL added (R16): the phase and whether SLOT_ATTN is set. -/
def Phase.addThermal : Phase → Phase × Bool
  | .burn => (.hold .burn false true, true)
  | .scan => (.hold .scan false true, true)
  | .ship => (.hold .ship false true, true)
  | .hold p m false => (.hold p m true, true)
  | .hold p m true => (.hold p m true, false)
  | .empty => (.empty, false)
  | .idle => (.idle, false)
  | .gradeWait => (.gradeWait, false)
  | .graded => (.graded, false)
  | .sealed => (.sealed, false)

/-- THERMAL removed (R16): the phase and whether SLOT_ATTN is set. -/
def Phase.removeThermal : Phase → Phase × Bool
  | .hold p m true => (Phase.held p m false, !m)
  | .hold p m false => (.hold p m false, false)
  | .burn => (.burn, false)
  | .scan => (.scan, false)
  | .ship => (.ship, false)
  | .empty => (.empty, false)
  | .idle => (.idle, false)
  | .gradeWait => (.gradeWait, false)
  | .graded => (.graded, false)
  | .sealed => (.sealed, false)

/-- A slot given the phase a report leaves, with its SLOT_ATTN flag where the report sets it (R16). -/
def State.applyHold (s : State) (i : SlotId) (p : Phase × Bool) : State :=
  if p.2 then (s.setPhase i p.1).raise (.slotAttn i) else s.setPhase i p.1

/-! ## Slot clear, orphaning, removal -/

/-- The slot record of Table 1-3, column 'Slot clear'. -/
def SlotRecord.cleared (r : SlotRecord) (present : Bool) : SlotRecord :=
  { SlotRecord.initial r.shipped with
    phase := if present then .idle else .empty
    identity := if present then r.identity else Identity.invalid }

/-- The slot record of Table 1-3, column 'START' (R10). -/
def SlotRecord.started (r : SlotRecord) (seed : Word32) (g : Nat) : SlotRecord :=
  { SlotRecord.initial r.shipped with
    phase := .burn
    identity := r.identity
    seed := seed
    pass := 1
    soak := SoakBlock.withTarget (if g = 0 then 1 else g) }

/-- The slot's extents back on the free list (R85); the record they leave is given new values with it. -/
def State.returnExtents (s : State) (i : SlotId) : State :=
  { s with freeExtents := s.freeExtents + (s.slot i).defects.extents.length }

/-- A slot clear (R8): entries abandoned, grade and sort work withdrawn, extents returned, the record initialised. -/
def State.slotClear (s : State) (i : SlotId) : State :=
  ((((s.modLane i Lane.forgotten).withdrawGrade i).withdrawNotice i).returnExtents i).modSlot i
    (fun r => r.cleared (s.presenceOf i).debounced)

/-- Every OPEN or LATE entry of a slot abandoned, each counted whatever the phase (R7). -/
def State.abandonCounted (s : State) (i : SlotId) : State :=
  (s.modSlot i (SlotRecord.count (TestCounters.abandonMany (s.lane i).openEntries.length))).modLane i Lane.forgotten

/-- The withdrawal of an orphaned slot's notice, which sets MISPULL if the queue holds one (R7, R143). -/
def State.withdrawMispull (s : State) (i : SlotId) : State :=
  if s.sort.holds i then (s.withdrawNotice i).raise .mispull else s

/-- Orphaning (R7). -/
def State.orphan (s : State) (i : SlotId) : State :=
  (((s.abandonCounted i).withdrawGrade i).withdrawMispull i).modSlot i
    (fun r => { r with orphaned := true, phase := .empty })

/-- Normal departure (R6). -/
def State.depart (s : State) (i : SlotId) : State :=
  (s.modSlot i (fun r =>
    match r.grade with
    | none => r
    | some g => if g.bin = .reject then r else { r with shipped := inc16 r.shipped })).slotClear i

/-- Removal in IDLE (R5): the entries abandoned without a count; identity kept only with ORPHANED set. -/
def State.removedIdle (s : State) (i : SlotId) : State :=
  (s.modLane i Lane.forgotten).modSlot i
    (fun r => { r with phase := .empty, identity := if r.orphaned then r.identity else Identity.invalid })

/-- The effect of a presence-lost event on the slot by its phase, before SLOT_ATTN (R5). -/
def State.removed (s : State) (i : SlotId) : State :=
  match (s.slot i).phase with
  | .empty => s
  | .idle => s.removedIdle i
  | .sealed => if (s.slot i).sorted then s.depart i else s.orphan i
  | .burn => s.orphan i
  | .scan => s.orphan i
  | .gradeWait => s.orphan i
  | .graded => s.orphan i
  | .ship => s.orphan i
  | .hold _ _ _ => s.orphan i

/-! ## Quiet slots -/

/-- A slot is quiet (R56): not in BURN, SCAN or SHIP, and no OPEN or LATE entry. -/
def State.quiet (s : State) (i : SlotId) : Bool := (s.slot i).phase.active.isNone && !s.hasOpen i

/-- A fold over the slots in order. -/
def State.forSlots (s : State) (f : State → SlotId → State) : State := allSlots.foldl f s

end Sys2Proof.Machine
end

