-- ==== Sys2Proof/Machine/Alert.lean ====
section
/-!
DEFINITION. The alert commands (11_management_line_alerts_and_start_up.md R164). Bits 17 to 23 of a set are ignored in
arguments (R171).
-/
namespace Sys2Proof.Machine

/-- The 17-bit set of three argument bytes (R171). -/
def alertSetOf (a b c : Byte) : BitVec 17 := BitVec.ofNat 17 (fromLe [a, b, c])

/-- ALERT_READ (R164). -/
def execAlertRead (args : List Byte) (s : State) : Host.Outcome State Fault Refusal :=
  .next (s.command fun s => plainCommand args (.ok s (le 3 s.alerts.toNat ++ le 3 s.alertMask.toNat)))

/-- ALERT_ACK (R164): clears each flag named. -/
def execAlertAck (args : List Byte) (s : State) : Host.Outcome State Fault Refusal :=
  .next (s.command fun s =>
    match args with
    | [a, b, c] => .ok { s with alerts := s.alerts &&& ~~~alertSetOf a b c } []
    | _ => .no .range)

/-- ALERT_MASK (R164): replaces the mask. -/
def execAlertMask (args : List Byte) (s : State) : Host.Outcome State Fault Refusal :=
  .next (s.command fun s =>
    match args with
    | [a, b, c] => .ok { s with alertMask := alertSetOf a b c } []
    | _ => .no .range)

end Sys2Proof.Machine
end

