-- ==== Sys2Proof/Machine/Capture.lean ====
section
/-!
DEFINITION. The commands of the capture unit (06_capture_records.md R95 to R99).
-/
namespace Sys2Proof.Machine

/-- CAPTURE_SET (R99): a kind mask with a bit beyond the six kinds answers RANGE. -/
def execCaptureSet (args : List Byte) (s : State) : Host.Outcome State Fault Refusal :=
  .next (s.command fun s =>
    match args with
    | [b, slots, kinds] =>
      match sixteenArg b with
      | some n =>
        if kinds.toNat < 64 then .ok (s.putCapture (s.capture.filterSet n slots (kinds.setWidth 6))) []
        else .no .range
      | none => .no .range
    | _ => .no .range)

/-- CAPTURE_OPEN (R95). -/
def execCaptureOpen (args : List Byte) (s : State) : Host.Outcome State Fault Refusal :=
  .next (s.command fun s =>
    match args with
    | [b] =>
      match sixteenArg b with
      | some n => .ok (s.putCapture (s.capture.opened n)) ((s.capture.opened n).1.header n)
      | none => .no .range
    | _ => .no .range)

/-- The content of the open record with its state, none where it is refused (R96). -/
def CaptureUnit.openContent (u : CaptureUnit) : Option (RecordState × CaptureEvent) :=
  match u.openRecord with
  | none => none
  | some n => (u.records[n].state.content).map (fun e => (u.records[n].state, e))

/-- CAPTURE_READ (R96). -/
def execCaptureRead (args : List Byte) (s : State) : Host.Outcome State Fault Refusal :=
  .next (s.command fun s => plainCommand args
    (match s.capture.openContent with
      | some (st, e) => .ok s (captureContent st e)
      | none => .no .refused))

/-- CAPTURE_CLOSE (R97, R98). -/
def execCaptureClose (args : List Byte) (s : State) : Host.Outcome State Fault Refusal :=
  .next (s.command fun s => plainCommand args (.ok (s.putCapture s.capture.closed) []))

end Sys2Proof.Machine
end

