-- ==== Sys2Proof/Machine/ChamberOps.lean ====
section
/-!
DEFINITION. The chamber receiver and the soak unit (07_chamber_line_and_soak_accounting.md): characters, frames, thermal
reports, the knot table and the soak tick of one slot.
-/
namespace Sys2Proof.Machine

/-- Reference clocks in one bit time of the chamber line at divisor D: the bit rate is 50,000,000 / (16 (D + 1)) bit/s
(R103). -/
def chamberBitClocks (d : Nat) : Nat := 16 * (d + 1)

/-- What the receiver makes of a sampled character (R104). -/
inductive Character
  | good (data : Byte)
  | error
  | heldBack
  deriving DecidableEq, Repr

/-- The number of ones of a byte. -/
def countOnes (b : Byte) : Nat := ((List.range 8).filter (fun i => b.getLsbD i)).length

/-- The judgement of a character from its data bits, parity bit and stop bit, each true at mark (R103, R104). A character of
spaces alone is held back, since it may be the start of a break (R105). -/
def judgeCharacter (data : Byte) (parity stop : Bool) : Character :=
  if stop then (if (countOnes data + (if parity then 1 else 0)) % 2 = 0 then .good data else .error)
  else if data = 0#8 && !parity then .heldBack
  else .error

/-- The byte of data bits in the order they were received, least significant first (R103). -/
def byteOfBits : List Bool → Byte
  | [] => 0#8
  | b :: bs => (byteOfBits bs <<< 1) ||| (if b then 1#8 else 0#8)

/-! ### The line, sample by sample (R103 to R105) -/

/-- What the character receiver finds on the line: a row of the table each. -/
inductive LineEvent
  | byte (data : Byte)
  | error
  | lineBreak
  | markAfterBreak
  deriving DecidableEq, Repr

/-- Sample periods in a bit time (R103). -/
def samplesPerBit : Nat := 16

/-- The sample period of the middle of bit `k` of a character, counted from the leading edge of its start bit, bit 0 (R104). -/
def midOfBit (k : Nat) : Nat := samplesPerBit * k + 8

/-- The sample periods after which a line held at space from the leading edge is a break: 22 bit times (R105). -/
def breakPeriods : Nat := samplesPerBit * 22

/-- The state and the event after the stop bit is sampled (R104): the character judged, and the wait for mark where the line is at
space. -/
def judgedReceiver (bits : List Bool) (solid stop : Bool) : LineReceiver × Option LineEvent :=
  match judgeCharacter (byteOfBits (bits.take 8)) (bits.getD 8 false) stop with
  | .good b => (.waiting stop, some (.byte b))
  | .error => (.waiting stop, some .error)
  | .heldBack => (.heldBack (midOfBit 10) solid, none)

/-- One sample of the line, true at mark (R104, R105): a change from mark to space begins a character, one at mark again in the
middle of the start bit is a glitch, bits are sampled in the middle of their bit times, and a held-back character becomes an error
when the line returns to mark, or a break when it has been at space for 22 bit times. -/
def LineReceiver.sample (r : LineReceiver) (level : Bool) : LineReceiver × Option LineEvent :=
  match r with
  | .waiting mark => (if mark && !level then .character 0 [] true else .waiting level, none)
  | .character periods bits solid =>
    let n := periods + 1
    let solid' := solid && !level
    if n = midOfBit 0 && level then (.waiting true, none)
    else if n = midOfBit 10 then judgedReceiver bits solid' level
    else (.character n (if n % samplesPerBit = 8 && n != midOfBit 0 then bits ++ [level] else bits) solid', none)
  | .heldBack periods solid =>
    if level then (.waiting true, some .error)
    else if solid && periods + 1 = breakPeriods then (.inBreak, some .lineBreak)
    else (.heldBack (if solid then periods + 1 else periods) solid, none)
  | .inBreak => if level then (.waiting true, some .markAfterBreak) else (.inBreak, none)

/-- Samples of the line in order: the receiver afterwards and what it found. -/
def LineReceiver.run (r : LineReceiver) : List Bool → LineReceiver × List LineEvent
  | [] => (r, [])
  | level :: rest =>
    let x := r.sample level
    let y := x.1.run rest
    (y.1, x.2.toList ++ y.2)

/-- A character in progress and a held-back one discarded (R119): the next start bit is a change from mark to space yet to come.
LINE_BREAK is unchanged. -/
def LineReceiver.discarded : LineReceiver → LineReceiver
  | .waiting mark => .waiting mark
  | .character _ _ _ => .waiting false
  | .heldBack _ _ => .waiting false
  | .inBreak => .inBreak

/-- The receiver of a load, which discards every character: the line is sampled afresh afterwards (R119). LINE_BREAK is
unchanged. -/
def LineReceiver.afresh : LineReceiver → LineReceiver
  | .waiting _ => .waiting false
  | .character _ _ _ => .waiting false
  | .heldBack _ _ => .waiting false
  | .inBreak => .inBreak

/-- LINE_BREAK (R105). -/
def Chamber.lineBreak (c : Chamber) : Bool := c.receiver == .inBreak

/-- The receiver takes characters: not in reset, not during a load (R119). -/
def State.receiving (s : State) : Bool := !s.inReset && !s.isLoading

/-- The chamber unit changed. -/
def State.modChamber (s : State) (f : Chamber → Chamber) : State := { s with chamber := f s.chamber }

/-- The reading of a temperature byte (R109). -/
def Reading.ofByte (b : Byte) : Reading :=
  if b.toNat ≤ 250 then .valid b.toNat else if b.toNat ≤ 254 then .fault else .none

/-- A slot's effective reading: none of Option while the readings are STALE (R109). -/
def Chamber.effective (c : Chamber) (i : SlotId) : Option Reading := if c.fresh then some c.readings[i] else none

/-- DOOR_OPEN or HEATER_FAULT: the chamber is off for soak purposes (R109, R116). -/
def Chamber.off (c : Chamber) : Bool := c.fresh && (c.status.getLsbD 0 || c.status.getLsbD 1)

/-- The eight readings of a frame (R108). -/
def frameReadings (bs : List Byte) : Vector Reading 8 :=
  let r (n : Nat) : Reading := Reading.ofByte (bs.getD n 0xFF#8)
  ⟨#[r 0, r 1, r 2, r 3, r 4, r 5, r 6, r 7], rfl⟩

/-- The new sequence number is not the previous one plus 1 modulo 16 (R108). -/
def seqGap (prev : Option (BitVec 4)) (seq : BitVec 4) : Bool :=
  match prev with
  | none => false
  | some q => seq != q + 1#4

/-- The chamber unit at a complete frame: readings, freshness, stale timer, sequence number, frames_taken (R108), and the profile's
H1, which is in effect from this frame on (R112). -/
def Chamber.completed (c : Chamber) (f : FrameInProgress) (status : Byte) (now : Time) (h1 : Nat) : Chamber :=
  { c with
    frame := Option.none
    readings := frameReadings f.bytes
    status := status
    fresh := true
    staleTimer := some now
    seqGaps := if seqGap c.prevSeq f.seq then inc16 c.seqGaps else c.seqGaps
    prevSeq := some f.seq
    framesTaken := inc32 c.framesTaken
    h1InEffect := h1 }

/-- The phase and SLOT_ATTN a thermal check of a reading leaves (R111, R16). -/
def thermalCheck (p : Profile) (r : Reading) (ph : Phase) : Phase × Bool :=
  match r with
  | .valid h => if p.h2 ≤ h then ph.addThermal else if h ≤ p.h1 then ph.removeThermal else (ph, false)
  | .fault => (ph, false)
  | .none => (ph, false)

/-- The thermal check of one slot with the new readings (R111). -/
def State.checkThermal (s : State) (i : SlotId) : State :=
  s.applyHold i (thermalCheck s.profile s.chamber.readings[i] (s.slot i).phase)

/-- A complete frame taken as one event (R108); its thermal checks use the H1 and H2 that take effect with it (R112). -/
def State.frameComplete (s : State) (f : FrameInProgress) (status : Byte) : State :=
  (s.modChamber (·.completed f status s.timebase s.profile.h1)).forSlots State.checkThermal

/-- The sequence number of a sync byte, none for another byte (R106). -/
def syncSequence (b : Byte) : Option (BitVec 4) :=
  if b.extractLsb' 4 4 = 0xB#4 then some (b.extractLsb' 0 4) else none

/-- A good character taken by the frame receiver (R106). -/
def State.takeByte (s : State) (b : Byte) : State :=
  match s.chamber.frame with
  | none =>
    match syncSequence b with
    | none => s
    | some q => s.modChamber (fun c => { c with frame := some { seq := q, bytes := [] } })
  | some f =>
    if f.bytes.length < 8 then s.modChamber (fun c => { c with frame := some { f with bytes := f.bytes ++ [b] } })
    else s.frameComplete f b

/-- A character error taken by the frame receiver (R107). -/
def State.takeError (s : State) : State :=
  match s.chamber.frame with
  | none => s.modChamber (fun c => { c with lineErrors := inc16 c.lineErrors })
  | some _ =>
    (s.modChamber (fun c => { c with frame := Option.none, lineErrors := inc16 c.lineErrors })).raise .chamberLine

/-- A break taken (R105): the frame in progress discarded without counting it in line_errors, breaks counted. -/
def State.takeBreak (s : State) : State := s.modChamber (fun c => { c with frame := Option.none, breaks := inc16 c.breaks })

/-- The frame receiver takes what the character receiver has found (R105 to R107). -/
def State.takeEvent (s : State) : LineEvent → State
  | .byte b => s.takeByte b
  | .error => s.takeError
  | .lineBreak => s.takeBreak
  | .markAfterBreak => s

/-- Samples of the line in order: the character receiver moves on, and the frame receiver takes all that they show, in order
(R104 to R107, log entry 5). -/
def State.hearLine (s : State) (levels : List Bool) : State :=
  if s.receiving then
    let x := s.chamber.receiver.run levels
    x.2.foldl State.takeEvent (s.modChamber (fun c => { c with receiver := x.1 }))
  else s

/-- The receiver after a character error found by a course of the line that is not given (log entry 5): the line is at mark
where a held-back character is the error, else a mark has yet to be sampled (R104). None while LINE_BREAK is set (R105). -/
def LineReceiver.afterError : LineReceiver → Option LineReceiver
  | .waiting _ => some (.waiting false)
  | .character _ _ _ => some (.waiting false)
  | .heldBack _ _ => some (.waiting true)
  | .inBreak => none

/-- The line may go on to a break: it has not been at mark since the leading edge of the character in progress or held back
(R105). -/
def LineReceiver.mayBreak : LineReceiver → Bool
  | .waiting _ => true
  | .character _ _ solid => solid
  | .heldBack _ solid => solid
  | .inBreak => false

/-- The stale timer reaches the stale timeout while it runs (R110). -/
def State.staleDue (s : State) : Bool :=
  match s.chamber.staleTimer with
  | none => false
  | some t => !s.inReset && s.profile.staleTimeout * 1000000 ≤ s.elapsed t

/-- The expiry of the stale timer (R110). -/
def State.expireStale (s : State) : State :=
  (s.modChamber (fun c => { c with staleTimer := Option.none, fresh := false })).raise .chamberStale

/-! ## Soak credit -/

/-- The factor between two knots (R114): the product exact, the quotient truncated toward zero. -/
def interpolate (k0 k1 f0 f1 h : Nat) : Nat :=
  ((f0 : Int) + Int.tdiv (((f1 : Int) - f0) * ((h : Int) - k0)) ((k1 : Int) - k0)).toNat

/-- The factor of a reading at or above the first knot of a list of knots with their factors (R114). -/
def factorFrom (h : Nat) : List (Nat × Nat) → Nat
  | [] => 0
  | [(_, f)] => f
  | (k0, f0) :: (k1, f1) :: rest => if h < k1 then interpolate k0 k1 f0 f1 h else factorFrom h ((k1, f1) :: rest)

/-- The soak factor of a VALID reading, none where the second is cold (R114). -/
def soakFactor (p : Profile) (h : Nat) : Option Nat :=
  if h < p.knots[0] then none else some (factorFrom h (p.knots.toList.zip p.factors.toList))

/-- The soak block after a credited second at a VALID reading (R116, steps 6 to 8), with the H1 in effect (R112). -/
def SoakBlock.credit (k : SoakBlock) (p : Profile) (h1 h : Nat) : SoakBlock :=
  { k with
    maxH := max k.maxH h
    excursionSeconds := if h1 < h then inc32 k.excursionSeconds else k.excursionSeconds
    coldSeconds := if (soakFactor p h).isNone then inc32 k.coldSeconds else k.coldSeconds
    a := satAdd max32 k.a ((soakFactor p h).getD 0) }

/-- The soak block after a second in BURN (R116, steps 3 to 8), and whether the credit was reached (steps 6 to 8). -/
def SoakBlock.second (k : SoakBlock) (p : Profile) (c : Chamber) (i : SlotId) : SoakBlock × Bool :=
  let k := { k with burnSeconds := inc32 k.burnSeconds }
  match c.effective i with
  | none => ({ k with staleSeconds := inc32 k.staleSeconds }, false)
  | some .fault => ({ k with staleSeconds := inc32 k.staleSeconds }, false)
  | some .none => ({ k with staleSeconds := inc32 k.staleSeconds }, false)
  | some (.valid h) =>
    if c.off then ({ k with chamberOffSeconds := inc32 k.chamberOffSeconds }, false) else (k.credit p c.h1InEffect h, true)

/-- The soak tick of one slot (R116), with the move to SCAN at the target (R13). -/
def State.soakSlot (s : State) (i : SlotId) : State :=
  match (s.slot i).phase with
  | .hold _ _ _ => s.modSlot i (fun r => { r with soak := { r.soak with heldSeconds := inc32 r.soak.heldSeconds } })
  | .burn =>
    let k := (s.slot i).soak.second s.profile s.chamber i
    let s1 := s.modSlot i (fun r => { r with soak := k.1 })
    if k.2 && k.1.target * Config.unitsPerMinute ≤ k.1.a then (s1.setPhase i .scan).raise (.slotAttn i) else s1
  | .empty | .idle | .scan | .gradeWait | .graded | .ship | .sealed => s

/-- The soak tick timer reaches its period (R115). -/
def State.soakDue (s : State) : Bool :=
  match s.soakTimer with
  | none => false
  | some t => !s.inReset && Config.soakPeriod ≤ s.elapsed t

/-- The soak tick of every slot, with the timer running on (R115, R116). -/
def State.soakAll (s : State) : State :=
  { s.forSlots State.soakSlot with soakTimer := s.soakTimer.map (· + BitVec.ofNat 32 Config.soakPeriod) }

end Sys2Proof.Machine
end

