-- ==== Sys2Proof/Machine/Chamber.lean ====
section
/-!
DEFINITION. The commands of the chamber line and the soak tick (07_chamber_line_and_soak_accounting.md).
-/
namespace Sys2Proof.Machine

/-- SOAK_TICK (R115, R116): nothing before the tick's time has come. -/
def execSoakTick (s : State) : Host.Outcome State Fault Refusal := .next (if s.soakDue then s.soakAll else s)

/-- CHAMBER_BYTE (R104, R106, R108): the samples of the line that bring the character, judged, and taken by the frame receiver. -/
def execChamberByte (levels : List Bool) (s : State) : Host.Outcome State Fault Refusal := .next (s.hearLine levels)

/-- CHAMBER_CHARACTER_ERROR (R104, R107): a character error, or the held-back character at the line's return to mark, taken by the
frame receiver. -/
def execChamberCharacterError (s : State) : Host.Outcome State Fault Refusal :=
  .next
    (if s.receiving then
      match s.chamber.receiver.afterError with
      | none => s
      | some r => (s.modChamber (fun c => { c with receiver := r })).takeError
     else s)

/-- CHAMBER_BREAK (R105): the held-back character and the frame in progress are discarded uncounted, breaks counted, and LINE_BREAK
set. -/
def execChamberBreak (s : State) : Host.Outcome State Fault Refusal :=
  .next
    (if s.receiving && s.chamber.receiver.mayBreak then
      (s.modChamber (fun c => { c with receiver := .inBreak })).takeBreak
     else s)

/-- LINE_BREAK_CLEAR (R105): the line is sampled at mark while LINE_BREAK is set, which clears it, also during a load (log entry
16); it changes nothing while LINE_BREAK is clear. -/
def execLineBreakClear (s : State) : Host.Outcome State Fault Refusal :=
  .next
    (if !s.inReset && s.chamber.lineBreak then
      s.modChamber (fun c => { c with receiver := (c.receiver.sample true).1 })
     else s)

/-- STALE_TIMER_EXPIRY (R110): nothing before the timeout is reached, and nothing while the timer is stopped. -/
def execStaleTimerExpiry (s : State) : Host.Outcome State Fault Refusal :=
  .next (if s.staleDue then s.expireStale else s)

end Sys2Proof.Machine
end

