-- ==== Sys2Proof/Machine/GradeOps.lean ====
section
/-!
DEFINITION. The grade engine (08_grading.md): the inputs of a take, the score, the overrides and the bin.
-/
namespace Sys2Proof.Machine

/-- The inputs read at the take of a slot (R125). -/
def State.gradeInputs (s : State) (i : SlotId) : GradeInputs :=
  let r := s.slot i
  { stale := r.counters.stale, slip := r.counters.slip, timeouts := r.counters.timeouts
    slowCount := r.latency.slowCount, excursionSeconds := r.soak.excursionSeconds, a := r.soak.a, g := r.soak.target
    extentCount := r.defects.extents.length, defectSectors := r.defects.sectors, truncated := r.defects.truncated
    items := s.profile.grading }

/-- The shortfall in whole equivalent minutes (R129). -/
def GradeInputs.shortfall (x : GradeInputs) : Nat := x.g - x.a / Config.unitsPerMinute

/-- A term of the score: the exact product held at 2^32 - 1 (R128). -/
def scoreTerm (count weight : Nat) : Nat := min (count * weight) max32

/-- The score (R128). -/
def GradeInputs.score (x : GradeInputs) : Nat :=
  min
    (scoreTerm x.defectSectors x.items.wDefsec + scoreTerm x.extentCount x.items.wExtent +
      scoreTerm x.stale x.items.wStale + scoreTerm x.slip x.items.wSlip + scoreTerm x.timeouts x.items.wTimeout +
      scoreTerm x.slowCount x.items.wSlow + scoreTerm x.shortfall x.items.wShort +
      scoreTerm (x.excursionSeconds / 60) x.items.wHot)
    max32

/-- The bin of a score under the thresholds (R131). -/
def binOf (g : GradingItems) (score : Nat) : Bin :=
  if score ≤ g.b1 then .a else if score ≤ g.b2 then .b else if score ≤ g.b3 then .c else .reject

/-- The override that applies, if one does, in the order of R132. -/
def GradeInputs.override (x : GradeInputs) : Option Reason :=
  if x.truncated then some .truncated
  else if x.items.slipLimit ≤ x.slip then some .slipLimit
  else if x.items.strictSoak && 0 < x.shortfall then some .soakShort
  else none

/-- The answer of a computation: score, bin and reason (R128 to R132). -/
def GradeInputs.answer (x : GradeInputs) : GradeResult :=
  match x.override with
  | some reason => { score := x.score, bin := .reject, reason := reason }
  | none => { score := x.score, bin := binOf x.items x.score, reason := .score }

/-- The take of a slot (R124). -/
def State.takeGrade (s : State) (i : SlotId) (rest : List SlotId) : State :=
  { s with
    gradeQueue := rest
    engine := some { slot := i, void := false, takeTime := s.timebase, inputs := s.gradeInputs i } }

/-- The result stored at a completion (R18, R133). -/
def State.storeGrade (s : State) (i : SlotId) (g : GradeResult) : State :=
  ((s.modSlot i (fun r => { r with grade := some g, phase := .graded })).raise (.slotAttn i)).raise .gradeDone

/-- The completion of a computation (R18, R126): discarded with the void mark set, or where the slot is not in
GRADE_WAIT. -/
def State.completeGrade (s : State) (c : Computation) : State :=
  let s1 := { s with engine := none }
  if !c.void && (s.slot c.slot).phase == .gradeWait then s1.storeGrade c.slot c.inputs.answer else s1

end Sys2Proof.Machine
end

