-- ==== Sys2Proof/Machine/Grade.lean ====
section
/-!
DEFINITION. The commands of the grade engine (08_grading.md).
-/
namespace Sys2Proof.Machine

/-- GRADE_TAKE (R124): nothing while the engine is COMPUTING or the queue is empty. -/
def execGradeTake (s : State) : Host.Outcome State Fault Refusal :=
  match s.engine, s.gradeQueue with
  | none, i :: rest => .next (s.takeGrade i rest)
  | none, [] => .next s
  | some _, _ => .next s

/-- GRADE_COMPLETION (R126): nothing while the engine is IDLE. -/
def execGradeCompletion (s : State) : Host.Outcome State Fault Refusal :=
  match s.engine with
  | none => .next s
  | some c => .next (s.completeGrade c)

end Sys2Proof.Machine
end

