-- ==== Sys2Proof/Machine/PatternMemory.lean ====
section
/-!
DEFINITION. The pattern table RAM, 1024 words of 32 bits (R46, R58, R64), as a list of byte cells in one canonical form:
addresses strictly rising, and no cell equal to what an unlisted address reads as, which is 0 (R59). Word w lies in
bytes 4w to 4w + 3, least significant byte first, as every number of the manual.
-/
namespace Sys2Proof.Machine

/-- What an unlisted address of the pattern table reads as: the reset content of R59. -/
def Memory.background : Byte := 0#8

/-- The byte at an address. -/
def Memory.readByte (addr : Nat) : List Host.Cell → Byte
  | [] => Memory.background
  | c :: m => if c.1 = addr then c.2 else Memory.readByte addr m

/-- The cells with the byte at an address replaced; writing the background removes the cell. -/
def Memory.writeByte (addr : Nat) (b : Byte) : List Host.Cell → List Host.Cell
  | [] => if b = Memory.background then [] else [(addr, b)]
  | c :: m =>
    if c.1 < addr then c :: Memory.writeByte addr b m
    else if c.1 = addr then (if b = Memory.background then m else (addr, b) :: m)
    else if b = Memory.background then c :: m else (addr, b) :: c :: m

/-- Every address of the cells is at least `lo`, they rise strictly, and none holds the background. -/
def Memory.wfFrom (lo : Nat) : List Host.Cell → Bool
  | [] => true
  | c :: m => lo ≤ c.1 && c.2 != Memory.background && Memory.wfFrom (c.1 + 1) m

/-- The canonical form. -/
def Memory.wf (m : List Host.Cell) : Bool := Memory.wfFrom 0 m

/-- Word number `w` of the pattern table. -/
def readTableWord (m : List Host.Cell) (w : Nat) : Word32 :=
  Memory.readByte (4 * w + 3) m ++ Memory.readByte (4 * w + 2) m ++ Memory.readByte (4 * w + 1) m ++
    Memory.readByte (4 * w) m

/-- Word number `w` of the pattern table replaced. -/
def writeTableWord (m : List Host.Cell) (w : Nat) (x : Word32) : List Host.Cell :=
  Memory.writeByte (4 * w + 3) (x.extractLsb' 24 8)
    (Memory.writeByte (4 * w + 2) (x.extractLsb' 16 8)
      (Memory.writeByte (4 * w + 1) (x.extractLsb' 8 8)
        (Memory.writeByte (4 * w) (x.extractLsb' 0 8) m)))

/-- Words written one after the other from word number `w` (R58, R173). -/
def writeTableWords (m : List Host.Cell) (w : Nat) : List Word32 → List Host.Cell
  | [] => m
  | x :: xs => writeTableWords (writeTableWord m w x) (w + 1) xs

/-- The 32-bit words of a list of bytes, least significant byte first; bytes over are dropped. -/
def wordsOf : List Byte → List Word32
  | b0 :: b1 :: b2 :: b3 :: bs => (b3 ++ b2 ++ b1 ++ b0) :: wordsOf bs
  | _ => []

end Sys2Proof.Machine
end

