-- ==== Sys2Proof/Machine/Images.lean ====
section
/-!
DEFINITION. Sector images, the sector action of a query, and the classification of a read sector
(03_windows_and_sector_actions.md R51 to R55, 04_pattern_generation_and_checking.md R61 to R69).
-/
namespace Sys2Proof.Machine

/-- One step of the xorshift sequence (R62). -/
def xorshift (x : Word32) : Word32 :=
  let y := x ^^^ (x <<< 13)
  let z := y ^^^ (y >>> 17)
  z ^^^ (z <<< 5)

/-- `n` values of the sequence after `x` (R62). -/
def xorshiftBody : Nat → Word32 → List Word32
  | 0, _ => []
  | n + 1, x => xorshift x :: xorshiftBody n (xorshift x)

/-- The starting value of a STAMP body, with the substitute for 0 (R62). -/
def stampStart (lba pass : Nat) (seed : Word32) : Word32 :=
  let x0 := seed ^^^ BitVec.ofNat 32 lba ^^^ BitVec.ofNat 32 (pass * 2654435769)
  if x0 = 0#32 then 0x1D872B41#32 else x0

/-- Word 1 of a STAMP image (R61). -/
def stampHeader (lba pass : Nat) : Word32 := BitVec.ofNat 32 (lba / 4294967296 * 65536 + pass)

/-- The STAMP image of W words (R61, R62). -/
def stampWords (w lba pass : Nat) (seed : Word32) : List Word32 :=
  BitVec.ofNat 32 lba :: stampHeader lba pass :: xorshiftBody (w - 2) (stampStart lba pass seed)

/-- A byte repeated in the four bytes of a word (R63). -/
def repeatedByte (b : Byte) : Word32 := b ++ b ++ b ++ b

/-- Word k of the TABLE image at an LBA (R64). -/
def tableWord (m : List Host.Cell) (w lba start len k : Nat) : Word32 := readTableWord m (start + (lba * w + k) % len)

/-- The W words of an image (Table 4-1). -/
def Image.words (m : List Host.Cell) (w : Nat) : Image → List Word32
  | .stamp lba pass seed => stampWords w lba pass seed
  | .fill b => List.replicate w (repeatedByte b)
  | .table lba start len => (List.range w).map (tableWord m w lba start len)
  | .shipFill b => List.replicate w (repeatedByte b)
  | .record _ bytes => wordsOf bytes

/-- Byte `i` of an image: word w is bytes 4w to 4w + 3, least significant first (00_scope.md). -/
def Image.byteAt (m : List Host.Cell) (w : Nat) (img : Image) (i : Nat) : Byte :=
  ((img.words m w).getD (i / 4) 0#32).extractLsb' (8 * (i % 4)) 8

/-- The class writes sectors (R51). -/
def CommandClass.writes : CommandClass → Bool
  | .qwrite => true
  | .write => true
  | .qread | .read | .ident | .flush | .other => false

/-- The class reads sectors (R51). -/
def CommandClass.reads : CommandClass → Bool
  | .qread => true
  | .read => true
  | .qwrite | .write | .ident | .flush | .other => false

/-- The four data classes (R23). -/
def CommandClass.isData (c : CommandClass) : Bool := c.writes || c.reads

/-- The window image of a sector (R52). -/
def Window.image (w : Window) (lba pass : Nat) (seed : Word32) : Image :=
  match w.kind with
  | .stamp => .stamp lba pass seed
  | .fill => .fill w.fill
  | .table => .table lba w.tableStart w.tableLength

/-- SUBSTITUTE on a write, CHECK on a read (R51). -/
def actionOn (writes : Bool) (img : Image) : SectorAction := if writes then .substitute img else .check img

/-- The sector action in BURN and SCAN (Table 3-3). -/
def testAction (win : Option Window) (writes : Bool) (lba pass : Nat) (seed : Word32) : SectorAction :=
  match win with
  | none => .pass
  | some w =>
    match w.action with
    | .test => actionOn writes (w.image lba pass seed)
    | .verify => if writes then .pass else .check (w.image lba pass seed)
    | .record => .pass
    | .exclude => .pass

/-- The image of a sector of the record window at offset k of the record region (R54): a record sector below n, formed as
the record stands (R151), and ship fill from n on. -/
def recordImage (z : SectorSize) (r : SlotRecord) (fill : Byte) (k : Nat) : Image :=
  if k < recordSectorCount z r.defects.extents.length then .record k (recordSector z r k) else .shipFill fill

/-- The sector action in SHIP (Table 3-4, R54, R55). -/
def shipAction (ws : Vector Window 16) (z : SectorSize) (slot : SlotId) (r : SlotRecord) (fill : Byte)
    (writes : Bool) (lba : Nat) : SectorAction :=
  match matchingWindow ws slot r.identity lba with
  | none => actionOn writes (.shipFill fill)
  | some i =>
    match ws[i].action with
    | .test => actionOn writes (.shipFill fill)
    | .verify => actionOn writes (.shipFill fill)
    | .exclude => .pass
    | .record =>
      if recordWindow ws slot r.identity = some i then
        actionOn writes (recordImage z r fill (lba - ((recordRegion ws slot r.identity).getD (0, 0)).1))
      else actionOn writes (.shipFill fill)

/-- The LBA of sector i of a command (R29). Past 2^48 - 1 the manual gives no sector: a free value (log entry 6). -/
def sectorLba (lba i : Nat) : Nat :=
  if lba + i < Config.lbaEnd then lba + i else (Config.lbaPastEnd lba i).toNat

/-- The sector action of a query for sector i of an entry's command (R51 to R54). -/
def sectorAction (ws : Vector Window 16) (z : SectorSize) (fill : Byte) (slot : SlotId) (r : SlotRecord) (e : TagEntry)
    (i : Nat) : SectorAction :=
  let lba := sectorLba e.lba i
  match e.issuePhase with
  | .burn => testAction ((matchingWindow ws slot r.identity lba).map (ws[·])) e.cls.writes lba e.pass e.seed
  | .scan => testAction ((matchingWindow ws slot r.identity lba).map (ws[·])) e.cls.writes lba e.pass e.seed
  | .ship => shipAction ws z slot r fill e.cls.writes lba
  | .empty => .pass
  | .idle => .pass
  | .gradeWait => .pass
  | .graded => .pass
  | .sealed => .pass
  | .hold => .pass

/-- The result of a checked sector (R66). -/
inductive CheckResult
  | isMatch
  | stale (foundPass : Nat)
  | slip (offset : Int)
  | corrupt (firstIndex : Nat) (expected actual : Word32) (differing : Nat)
  deriving DecidableEq, Repr

/-- The index, from `i` on, and the two words where two images first differ (R69). -/
def firstDifference (i : Nat) : List Word32 → List Word32 → Nat × Word32 × Word32
  | x :: xs, y :: ys => if x = y then firstDifference (i + 1) xs ys else (i, x, y)
  | _, _ => (i, 0#32, 0#32)

/-- The number of words that differ (R69). -/
def differingWords : List Word32 → List Word32 → Nat
  | x :: xs, y :: ys => (if x = y then 0 else 1) + differingWords xs ys
  | _, _ => 0

/-- A CORRUPT result with its detail, expected words first (R69). -/
def corruptResult (expected received : List Word32) : CheckResult :=
  let d := firstDifference 0 expected received
  .corrupt d.1 d.2.1 d.2.2 (differingWords expected received)

/-- The LBA a received STAMP sector claims (R67). -/
def claimedLba (received : List Word32) : Nat :=
  (received.getD 0 0#32).toNat + (received.getD 1 0#32).toNat / 65536 * 4294967296

/-- The pass a received STAMP sector claims (R67). -/
def claimedPass (received : List Word32) : Nat := (received.getD 1 0#32).toNat % 65536

/-- The result of a STAMP sector that does not match: STALE (R67), else SLIP (R68), else CORRUPT. -/
def classifyStamp (w reach lba pass : Nat) (seed : Word32) (received : List Word32) : CheckResult :=
  let l' := claimedLba received
  let p' := claimedPass received
  if l' = lba && 1 ≤ p' && p' < pass && received = stampWords w lba p' seed then .stale p'
  else if l' ≠ lba && ((l' : Int) - lba).natAbs ≤ reach && p' = pass && received = stampWords w l' pass seed then
    .slip ((l' : Int) - lba)
  else corruptResult (stampWords w lba pass seed) received

/-- The classification of a read sector against its image (R66). -/
def classify (m : List Host.Cell) (w reach : Nat) (img : Image) (received : List Word32) : CheckResult :=
  if received = img.words m w then .isMatch
  else
    match img with
    | .stamp lba pass seed => classifyStamp w reach lba pass seed received
    | .fill _ => corruptResult (img.words m w) received
    | .table _ _ _ => corruptResult (img.words m w) received
    | .shipFill _ => corruptResult (img.words m w) received
    | .record _ _ => corruptResult (img.words m w) received

end Sys2Proof.Machine
end

