-- ==== Sys2Proof/Machine/LinkOps.lean ====
section
/-!
DEFINITION. The shared operations of a lane unit (02_command_tracking_on_the_drive_links.md,
04_pattern_generation_and_checking.md): opening and withholding, following data byte by byte, the effects of a completed
sector, latency samples, timeouts, and the identity snoop.
-/
namespace Sys2Proof.Machine

/-- The class of a command frame (R23). -/
def commandClass : CommandKind → CommandClass
  | .qread _ => .qread
  | .qwrite _ => .qwrite
  | .read => .read
  | .write => .write
  | .ident => .ident
  | .flush => .flush
  | .other => .other

/-- The entry a command frame opens (R27). -/
def commandEntry : CommandKind → EntryId
  | .qread t => tagEntry t
  | .qwrite t => tagEntry t
  | .read => untagged
  | .write => untagged
  | .ident => untagged
  | .flush => untagged
  | .other => untagged

/-- The class is queued (R23). -/
def CommandClass.queued : CommandClass → Bool
  | .qread => true
  | .qwrite => true
  | .read | .write | .ident | .flush | .other => false

/-- A direction agrees with a class, with either agreeing for OTHER and neither for FLUSH (R29, R30). -/
def CommandClass.agrees : CommandClass → Direction → Bool
  | .qwrite, d => d == .toDrive
  | .write, d => d == .toDrive
  | .qread, d => d == .toServer
  | .read, d => d == .toServer
  | .ident, d => d == .toServer
  | .other, _ => true
  | .flush, _ => false

/-- The classes a phase withholds (Table 1-4, R40). -/
def withholds (p : PhaseName) (c : CommandClass) : Bool :=
  match p with
  | .hold => c.writes
  | .sealed => c.writes || c == .other
  | .empty | .idle | .burn | .scan | .gradeWait | .graded | .ship => false

/-- Issue phases whose data commands give latency samples: BURN and SCAN (Table 1-4). -/
def PhaseName.isTest : PhaseName → Bool
  | .burn => true
  | .scan => true
  | .empty | .idle | .gradeWait | .graded | .ship | .sealed | .hold => false

/-- Issue phases whose entries are timed: BURN, SCAN and SHIP (R37). -/
def PhaseName.isTimed (p : PhaseName) : Bool := p.isTest || p == .ship

/-- An empty snoop buffer (R27). -/
def Snoop.empty : Snoop :=
  { serial := Vector.replicate 20 0#8, capacity := Vector.replicate 6 0#8, intact := true }

/-- A snoop buffer emptied, from which no offer is made (R31, R32). -/
def Snoop.discarded : Snoop := { Snoop.empty with intact := false }

/-- The entry a command frame opens on a slot at a time (R27). -/
def TagEntry.opened (f : CommandFrame) (r : SlotRecord) (now : Time) : TagEntry :=
  { late := false
    cls := commandClass f.kind
    lba := f.lba.toNat
    count := if f.count = 0#16 then 65536 else f.count.toNat
    done := 0
    issueTime := now
    issuePhase := r.phase.name
    pass := r.pass
    seed := r.seed
    untracked := false
    overrunNoted := false
    errorSectors := 0
    snoop := Snoop.empty }

/-! ## What a lane sends -/

/-- The lane sends frames to the drive and nothing to the server. -/
def Lane.sendsDown (l : Lane) (fs : List SentFrame) : Lane := { l with toDrive := fs, toServer := [] }

/-- The lane sends frames to the server and nothing to the drive. -/
def Lane.sendsUp (l : Lane) (fs : List SentFrame) : Lane := { l with toServer := fs, toDrive := [] }

/-- A drive status goes to the server, behind the synthesized statuses that joined before it (R40). -/
def Lane.relayStatus (l : Lane) (st : DriveStatus) : Lane :=
  if l.upstream.isEmpty then l.sendsUp [.status st]
  else { l with upstream := l.upstream ++ [.fromDrive st], toServer := [], toDrive := [] }

/-- The frame of a waiting upstream status: a synthesized one is an error of kind ABORT for the command's tag (R40). -/
def UpstreamStatus.frame : UpstreamStatus → SentFrame
  | .synthesized e => .status (.error { tag := entryTag e, kind := .abort })
  | .fromDrive st => .status st

/-- A waiting status is the drive's own. -/
def UpstreamStatus.isDrive : UpstreamStatus → Bool
  | .synthesized _ => false
  | .fromDrive _ => true

/-- The first waiting status is sent, and the drive statuses that waited only for it (R40). -/
def Lane.sendNext (l : Lane) : Lane :=
  match l.upstream with
  | [] => l
  | x :: rest =>
    { l.sendsUp (x.frame :: (rest.takeWhile UpstreamStatus.isDrive).map UpstreamStatus.frame) with
      upstream := rest.dropWhile UpstreamStatus.isDrive }

/-- A withheld command's status joins the pending list, unless its tag is already listed (R40). -/
def Lane.joinPending (l : Lane) (e : EntryId) : Lane :=
  if l.pendingStatuses.contains e then l else { l with upstream := l.upstream ++ [.synthesized e] }

/-! ## Opening entries -/

/-- The collision of a command frame whose entry is OPEN or LATE (R28). -/
def State.collide (s : State) (i : SlotId) (e : EntryId) : State :=
  if ((s.lane i).entry e).isSome then
    (s.report i (SlotRecord.count (fun c => c.abandon.anomaly))).modLane i (·.free e)
  else s

/-- A command frame withheld (R40): not forwarded, its ABORT status listed, withheld counted, the entry FREE. -/
def State.withhold (s : State) (i : SlotId) (e : EntryId) : State :=
  (s.report i (SlotRecord.count (fun c => { c with withheld := inc16 c.withheld }))).modLane i
    (fun l => ((l.free e).joinPending e).sendsDown [])

/-- The position moves: a sector in progress is dropped (R60). -/
def Lane.moveTo (l : Lane) (p : Option Position) : Lane := { l with position := p, sector := none }

/-- A command frame opens its entry and goes to the drive; a non-queued one takes the position (R27). -/
def State.openEntry (s : State) (i : SlotId) (f : CommandFrame) : State :=
  s.modLane i fun l =>
    let l := (l.setEntry (commandEntry f.kind) (some (TagEntry.opened f (s.slot i) s.timebase))).sendsDown [.command f]
    if (commandClass f.kind).queued then l else l.moveTo (some { entry := untagged, offset := 0 })

/-! ## Following data -/

/-- An entry changed where it is OPEN or LATE. -/
def State.modEntry (s : State) (i : SlotId) (e : EntryId) (f : TagEntry → TagEntry) : State :=
  match (s.lane i).entry e with
  | none => s
  | some t => s.modLane i (·.setEntry e (some (f t)))

/-- An entry marked UNTRACKED; anomalies is incremented once, when the mark is set (R31). An IDENT's snoop buffer is
discarded. -/
def State.markUntracked (s : State) (i : SlotId) (e : EntryId) : State :=
  match (s.lane i).entry e with
  | none => s
  | some t =>
    if t.untracked then s
    else
      (s.report i (SlotRecord.count TestCounters.anomaly)).modLane i
        (·.setEntry e (some { t with untracked := true, snoop := Snoop.discarded }))

/-- The bytes of the command's data: count x S of a data class, 512 of an IDENT, no bound of another class (R31). -/
def TagEntry.dataLimit (t : TagEntry) (z : SectorSize) : Option Nat :=
  if t.cls.isData then some (t.count * z.bytes) else if t.cls = .ident then some 512 else none

/-- A byte at an offset lies beyond the command's data (R31). -/
def TagEntry.beyond (t : TagEntry) (z : SectorSize) (offset : Nat) : Bool := (t.dataLimit z).any (· ≤ offset)

/-- The first byte beyond the command's data: overrun noted and one anomaly; later ones nothing (R31). -/
def State.noteOverrun (s : State) (i : SlotId) (e : EntryId) (t : TagEntry) : State :=
  if t.overrunNoted then s
  else
    (s.report i (SlotRecord.count TestCounters.anomaly)).modLane i
      (·.setEntry e (some { t with overrunNoted := true }))

/-- The position one byte on (R30). -/
def Lane.advance (l : Lane) : Lane :=
  { l with position := l.position.map (fun p => { p with offset := p.offset + 1 }) }

/-- The sector in progress a sector action begins, none for PASS (R51, R60). -/
def beginSector (a : SectorAction) (e : EntryId) (index lba : Nat) : Option SectorInProgress :=
  match a with
  | .pass => none
  | .substitute img =>
    some { entry := e, index := index, lba := lba, substitutes := true, image := img, received := [], checksGood := true }
  | .check img =>
    some { entry := e, index := index, lba := lba, substitutes := false, image := img, received := [], checksGood := true }

/-- A byte of the sector passes, in a frame whose incoming check was correct or not (R60). -/
def SectorInProgress.take (x : SectorInProgress) (good : Bool) (b : Byte) : SectorInProgress :=
  { x with received := x.received ++ [b], checksGood := x.checksGood && good }

/-- The byte the lane sends for a byte of the sector in progress, and whether it is substituted (R30, R65). -/
def State.outgoing (s : State) (x : Option SectorInProgress) (b : Byte) : Byte × Bool :=
  match x with
  | none => (b, false)
  | some y =>
    if y.substitutes then (y.image.byteAt s.patternTable s.sectorSize.words y.received.length, true) else (b, false)

/-- A record sector written or a fill sector sent in SHIP (R73). -/
def ShipState.sent (x : ShipState) (img : Image) : ShipState :=
  match img with
  | .record k _ =>
    { x with filled := inc32 x.filled, written := x.written ||| recordBit k, verified := x.verified &&& ~~~recordBit k }
  | .stamp _ _ _ | .fill _ | .table _ _ _ | .shipFill _ => { x with filled := inc32 x.filled }

/-- The result of a checked sector in SHIP (R74). -/
def ShipState.checked (x : ShipState) (img : Image) (isMatch : Bool) : ShipState :=
  match img with
  | .record k _ =>
    if isMatch then (if x.written.getLsbD k then { x with verified := x.verified ||| recordBit k } else x)
    else { x with bad := inc16 x.bad, verified := x.verified &&& ~~~recordBit k }
  | .stamp _ _ _ | .fill _ | .table _ _ _ | .shipFill _ =>
    if isMatch then { x with verifiedFill := inc32 x.verifiedFill } else { x with bad := inc16 x.bad }

/-- A counted substituted sector (R72, R73). -/
def State.countSubstituted (s : State) (i : SlotId) (issue : PhaseName) (img : Image) : State :=
  match issue with
  | .burn | .scan => s.report i (SlotRecord.count (fun c => { c with writtenSectors := inc32 c.writtenSectors }))
  | .ship => s.report i (fun r => { r with ship := r.ship.sent img })
  | .empty | .idle | .gradeWait | .graded | .sealed | .hold => s

/-- The counters after a classified sector of BURN or SCAN (R70). -/
def TestCounters.checkedWith (c : TestCounters) : CheckResult → TestCounters
  | .isMatch => { c with checkedSectors := inc32 c.checkedSectors }
  | .stale _ => { c with checkedSectors := inc32 c.checkedSectors, stale := inc16 c.stale }
  | .slip _ => { c with checkedSectors := inc32 c.checkedSectors, slip := inc16 c.slip }
  | .corrupt _ _ _ _ => { c with checkedSectors := inc32 c.checkedSectors, corrupt := inc16 c.corrupt }

/-- The effects of a classified sector of BURN or SCAN at an LBA read by an entry (R70, R71). -/
def State.testResult (s : State) (i : SlotId) (e : EntryId) (lba pass : Nat) (res : CheckResult) : State :=
  let s1 := s.report i (SlotRecord.count (·.checkedWith res))
  let event (d : CaptureDetail) : CaptureEvent := { slot := i, tag := e, lba := lba, time := s.timebase, detail := d }
  match res with
  | .isMatch => s1
  | .stale p' => s1.capturing (event (.stale p' pass))
  | .slip offset => s1.capturing (event (.slip offset pass))
  | .corrupt first expected actual n =>
    (s1.insertDefect i lba .corrupt pass).capturing (event (.corrupt first expected actual n))

/-- The effects of a classified sector, chosen by the entry's issue phase (R70, R74); a result other than MATCH adds one
to the entry's error sectors (R30). -/
def State.applyResult (s : State) (i : SlotId) (e : EntryId) (t : TagEntry) (x : SectorInProgress) (res : CheckResult) :
    State :=
  let s1 := if res = .isMatch then s else s.modEntry i e (fun u => { u with errorSectors := inc16 u.errorSectors })
  match t.issuePhase with
  | .burn | .scan => s1.testResult i e x.lba t.pass res
  | .ship => s1.report i (fun r => { r with ship := r.ship.checked x.image (res == .isMatch) })
  | .empty | .idle | .gradeWait | .graded | .sealed | .hold => s1

/-- The last byte of a sector in progress has passed: it is counted or classified if every frame that carried it had a
correct check (R65, R66). -/
def State.finishSector (s : State) (i : SlotId) (e : EntryId) (t : TagEntry) (x : SectorInProgress) : State :=
  if !x.checksGood then s
  else if x.substitutes then s.countSubstituted i t.issuePhase x.image
  else
    s.applyResult i e t x
      (classify s.patternTable s.sectorSize.words s.profile.slipReach x.image (wordsOf x.received))

/-- One byte of a followed data command, before and after the sector boundaries (R30): the state afterwards and the byte
sent with whether it is substituted. -/
def State.passByte (s : State) (i : SlotId) (e : EntryId) (t : TagEntry) (offset : Nat) (good : Bool) (b : Byte) :
    State × Byte × Bool :=
  let size := s.sectorSize.bytes
  let index := offset / size
  let x : Option SectorInProgress :=
    if offset % size = 0 then
      beginSector (sectorAction s.windows s.sectorSize s.profile.shipFill i (s.slot i) t index) e index
        (sectorLba t.lba index)
    else (s.lane i).sector
  let sent := s.outgoing x b
  let y := x.map (·.take good b)
  if (offset + 1) % size = 0 then
    let t' := { t with done := t.done + 1 }
    let s1 := s.modLane i (fun l => { (l.setEntry e (some t')).advance with sector := none })
    (match y with
      | none => s1
      | some z => s1.finishSector i e t' z, sent)
  else (s.modLane i (fun l => { l.advance with sector := y }), sent)

/-- One byte of a write whose entry is UNTRACKED: it passes unaltered, but a sector partly substituted is finished with the
image it began with and counted nowhere (R31, R60). -/
def State.passUntracked (s : State) (i : SlotId) (good : Bool) (b : Byte) : State × Byte × Bool :=
  let x := (s.lane i).sector
  let y := (x.map (·.take good b)).filter (fun z => z.received.length < s.sectorSize.bytes)
  (s.modLane i (fun l => { l.advance with sector := y }), s.outgoing x b)

/-- The snoop buffer after a byte of the IDENT block (R30, R32, R43). -/
def Snoop.take (sn : Snoop) (offset : Nat) (good : Bool) (b : Byte) : Snoop :=
  let base := if offset = 0 then Snoop.empty else sn
  { serial := if 20 ≤ offset && offset < 40 then base.serial.setIfInBounds (offset - 20) b else base.serial
    capacity := if 200 ≤ offset && offset < 206 then base.capacity.setIfInBounds (offset - 200) b else base.capacity
    intact := base.intact && good }

/-- One byte of the 512-byte block of a followed IDENT (R30). -/
def State.passIdent (s : State) (i : SlotId) (e : EntryId) (t : TagEntry) (offset : Nat) (good : Bool) (b : Byte) : State :=
  s.modLane i fun l =>
    (l.setEntry e (some { t with
      snoop := t.snoop.take offset good b
      done := if offset = 511 then 1 else t.done })).advance

/-- One byte applied to the entry at the current data position (R30). Where there is none it passes unaltered (R29). A byte beyond
the command's data passes unaltered, and the first is noted, whether or not the entry is UNTRACKED (R31). -/
def State.passOne (s : State) (i : SlotId) (good : Bool) (b : Byte) : State × Byte × Bool :=
  match (s.lane i).position with
  | none => (s, b, false)
  | some p =>
    match (s.lane i).entry p.entry with
    | none => (s, b, false)
    | some t =>
      if t.beyond s.sectorSize p.offset then ((s.noteOverrun i p.entry t).modLane i Lane.advance, b, false)
      else if t.untracked then s.passUntracked i good b
      else if t.cls.isData then s.passByte i p.entry t p.offset good b
      else if t.cls = .ident then (s.passIdent i p.entry t p.offset good b, b, false)
      else (s.modLane i Lane.advance, b, false)

/-- The bytes of a frame, in order: the state afterwards, the bytes sent, and whether any is substituted (R24, R30). -/
def State.passBytes (s : State) (i : SlotId) (good : Bool) : List Byte → State × List Byte × Bool
  | [] => (s, [], false)
  | b :: bs =>
    let first := s.passOne i good b
    let rest := first.1.passBytes i good bs
    (rest.1, first.2.1 :: rest.2.1, first.2.2 || rest.2.2)

/-- The outgoing integrity check of a data frame (R24). -/
def outgoingCheck (substituted good : Bool) : OutgoingCheck :=
  if substituted then (if good then .computed else .inverted) else .original good

/-- The lane sends a data frame on its way. -/
def Lane.sendsData (l : Lane) (d : Direction) (bytes : List Byte) (check : OutgoingCheck) : Lane :=
  match d with
  | .toDrive => l.sendsDown [.data bytes check]
  | .toServer => l.sendsUp [.data bytes check]

/-- A data frame passes unaltered with its original check (R24, R29). -/
def Lane.relaysData (l : Lane) (f : DataFrame) : Lane := l.sendsData f.direction f.bytes (.original f.checkGood)

/-- Data in the wrong direction, or on a FLUSH entry: the entry is UNTRACKED, a checked sector in progress is dropped, and
the frame passes unaltered (R30, R31, R60). -/
def State.wrongData (s : State) (i : SlotId) (e : EntryId) : State :=
  (s.markUntracked i e).modLane i (fun l => { l with sector := l.sector.filter (·.substitutes) })

/-! ## Completion -/

/-- The histogram bucket of a latency (R39). -/
def latencyBucket (base latency : Nat) : Fin 16 :=
  let q := latency / base
  if q < 2 then 0 else ⟨min 15 (Nat.log2 q), by omega⟩

/-- A latency put in a bucket: slow_count with it where `slow`, and max_latency (R38, R39). -/
def Latency.sample (x : Latency) (bucket : Fin 16) (slow : Bool) (latency : Nat) : Latency :=
  { histogram := x.histogram.set bucket (inc16 x.histogram[bucket])
    slowCount := if slow then inc16 x.slowCount else x.slowCount
    maxLatency := max x.maxLatency latency }

/-- A latency sample of an OPEN entry (R39). -/
def latencySample (p : Profile) (latency : Nat) (r : SlotRecord) : SlotRecord :=
  let b := latencyBucket p.latencyBase latency
  { r with latency := r.latency.sample b (p.slowBucket ≤ b.val) latency }

/-- A late sample (R38). -/
def lateSample (latency : Nat) (r : SlotRecord) : SlotRecord :=
  { r with
    latency := r.latency.sample 15 true latency
    counters := { r.counters with late := inc16 r.counters.late } }

/-- The capacity a snoop buffer holds (R43). -/
def Snoop.capacityValue (sn : Snoop) : Nat := fromLe sn.capacity.toList

/-- The identity a snoop buffer gives (R43). -/
def Snoop.identity (sn : Snoop) : Identity :=
  { valid := 1 ≤ sn.capacityValue, serial := sn.serial, capacity := sn.capacityValue }

/-- The offer of a snoop buffer compared with a frozen identity (R44). -/
def State.compareIdentity (s : State) (i : SlotId) (sn : Snoop) : State :=
  let id := (s.slot i).identity
  let sd := sn.serial != id.serial
  let cd := sn.capacityValue != id.capacity
  if sd || cd then
    (s.report i (SlotRecord.count TestCounters.anomaly)).capturing
      { slot := i, tag := untagged, lba := 0, time := s.timebase, detail := .anomaly sd cd sn.capacityValue }
  else s

/-- The offer of a successful IDENT's snoop buffer (R43, R44): made where the block was fully received with correct checks
and the entry is not UNTRACKED, and taken by the slot's phase at the completion. -/
def State.offerSnoop (s : State) (i : SlotId) (t : TagEntry) : State :=
  if t.done = 1 && t.snoop.intact && !t.untracked then
    match (s.slot i).phase with
    | .empty => s
    | .idle => if (s.slot i).orphaned then s else s.modSlot i (fun r => { r with identity := t.snoop.identity })
    | .burn | .scan | .gradeWait | .graded | .ship | .sealed | .hold _ _ _ => s.compareIdentity i t.snoop
  else s

/-- The sample a successful completion gives (R33, R38, R39). -/
def State.sampleEntry (s : State) (i : SlotId) (t : TagEntry) : State :=
  if t.issuePhase.isTest && t.cls.isData then
    let latency := s.elapsed t.issueTime
    s.report i (if t.late then lateSample latency else latencySample s.profile latency)
  else s

/-- A success closes an entry that is OPEN or LATE; a FREE one is passed over (R33). -/
def State.closeSuccess (s : State) (i : SlotId) (e : EntryId) : State :=
  match (s.lane i).entry e with
  | none => s
  | some t =>
    let s1 := s.sampleEntry i t
    let s2 := if t.cls = .ident then s1.offerSnoop i t else s1
    s2.modLane i (·.free e)

/-- The effects of a MEDIA error on a failing entry (R36). -/
def State.mediaError (s : State) (i : SlotId) (e : EntryId) (t : TagEntry) (lba : Option (BitVec 48)) : State :=
  match t.issuePhase with
  | .burn | .scan =>
    let s1 := s.report i (SlotRecord.count (fun c => { c with media := inc16 c.media }))
    let s2 := match lba with
      | none => s1
      | some l => s1.insertDefect i l.toNat .media t.pass
    s2.capturing
      { slot := i, tag := e, lba := (lba.map BitVec.toNat).getD t.lba, time := s.timebase
        detail := .media t.cls t.lba t.count lba.isSome t.errorSectors }
  | .ship => s.report i SlotRecord.shipBad
  | .empty | .idle | .gradeWait | .graded | .sealed | .hold => s

/-- An error status closes the failing entry without a sample (R34). -/
def State.closeError (s : State) (i : SlotId) (report : ErrorReport) : State :=
  let e := entryOf report.tag
  match (s.lane i).entry e with
  | none => s
  | some t =>
    let s1 := match report.kind with
      | .media lba => s.mediaError i e t lba
      | .abort => s
      | .interface => s
    s1.modLane i (·.free e)

/-- A sibling of a failed queued command closes as aborted (R35). -/
def State.abortSibling (i : SlotId) (s : State) (t : Fin 32) : State :=
  if ((s.lane i).entry (tagEntry t)).isSome then
    (s.report i (SlotRecord.count (fun c => { c with aborted := inc16 c.aborted }))).modLane i (·.free (tagEntry t))
  else s

/-! ## Timeouts -/

/-- An OPEN timed entry whose age reaches the command timeout in force (R37). -/
def State.timeoutDue (s : State) (i : SlotId) (e : EntryId) : Bool :=
  match (s.lane i).entry e with
  | none => false
  | some t =>
    !s.bypassed i && !t.late && t.issuePhase.isTimed && s.profile.commandTimeout * 1000 ≤ s.elapsed t.issueTime

/-- The timeout of an OPEN timed entry (R37): LATE, counted by issue phase, and a TIMEOUT capture event. -/
def State.expireEntry (s : State) (i : SlotId) (e : EntryId) : State :=
  match (s.lane i).entry e with
  | none => s
  | some t =>
    let s1 := s.modLane i (·.setEntry e (some { t with late := true }))
    let s2 :=
      if t.issuePhase = .ship then s1.report i SlotRecord.shipBad
      else s1.report i (SlotRecord.count (fun c => { c with timeouts := inc16 c.timeouts }))
    s2.capturing
      { slot := i, tag := e, lba := t.lba, time := s.timebase
        detail := .timeout t.cls t.count t.done t.errorSectors }

/-- Every OPEN timed entry of a slot whose age reaches the timeout becomes LATE, in entry order (R37). -/
def State.expireSlot (s : State) (i : SlotId) : State :=
  allEntries.foldl (fun s e => if s.timeoutDue i e then s.expireEntry i e else s) s

end Sys2Proof.Machine
end

