-- ==== Sys2Proof/WellFormed.lean ====
section
/-!
DEFINITION. The checks a command term passes when some input of the part could be it. A management command with any
number of argument bytes is well formed: the part answers a wrong number itself (R159).
-/
namespace Sys2Proof

/-- R23: a data frame carries 1 to 8192 bytes. -/
def DataFrame.wf (f : DataFrame) : Bool := 1 ≤ f.bytes.length && f.bytes.length ≤ 8192

/-- R23: a queued success names one or more tags. -/
def Success.wf : Success → Bool
  | .nonQueued => true
  | .queued tags => tags != 0#32

/-- A command some input of the part could be: an UNKNOWN_COMMAND names no command of Table 12-2, a data frame and a
queued success are of the kinds of R23. -/
def Instr.wf : Instr → Bool
  | .unknownCommand code args => decodeCommand code args == .unknownCommand code args
  | .dataFrame _ f => f.wf
  | .successStatus _ st => st.wf
  | _ => true

end Sys2Proof
end

