-- ==== Sys2Proof/Machine/Link.lean ====
section
/-!
DEFINITION. The commands of the drive links (02_command_tracking_on_the_drive_links.md). In bypass every frame passes
unaltered and no event is taken (R45). A data frame of no byte or of more than 8192, and a queued success that names no
tag, are none of the kinds of R23: they pass unaltered with no effect on the tag table (log entry 8).
-/
namespace Sys2Proof.Machine

/-- COMMAND_FRAME (R22, R27, R28, R40). -/
def execCommandFrame (slot : SlotId) (frame : CommandFrame) (s : State) : Host.Outcome State Fault Refusal :=
  if s.bypassed slot || (s.slot slot).phase == .empty then .next (s.modLane slot (·.sendsDown [.command frame]))
  else
    let e := commandEntry frame.kind
    let s1 := s.collide slot e
    .next
      (if withholds (s.slot slot).phase.name (commandClass frame.kind) then s1.withhold slot e
       else s1.openEntry slot frame)

/-- PENDING_STATUS_SEND (R40): nothing where the list is empty. -/
def execPendingStatusSend (slot : SlotId) (s : State) : Host.Outcome State Fault Refusal :=
  .next (s.modLane slot Lane.sendNext)

/-- DATA_SETUP_NOTICE (R29). -/
def execDataSetupNotice (slot : SlotId) (notice : SetupNotice) (s : State) : Host.Outcome State Fault Refusal :=
  let s1 := s.modLane slot (·.sendsUp [.setup notice])
  if s.bypassed slot then .next s1
  else
    let e := entryOf notice.tag
    match (s1.lane slot).entry e with
    | none => .next (s1.modLane slot (·.moveTo none))
    | some t =>
      if notice.offset = 0 && t.cls.agrees notice.direction then
        .next (s1.modLane slot (·.moveTo (some { entry := e, offset := t.done * s.sectorSize.bytes })))
      else
        .next ((s1.markUntracked slot e).modLane slot (·.moveTo (some { entry := e, offset := notice.offset })))

/-- DATA_FRAME (R24, R30, R31, R32). -/
def execDataFrame (slot : SlotId) (frame : DataFrame) (s : State) : Host.Outcome State Fault Refusal :=
  if s.bypassed slot || !frame.wf then .next (s.modLane slot (·.relaysData frame))
  else
    match (s.lane slot).position with
    | none => .next (s.modLane slot (·.relaysData frame))
    | some p =>
      match (s.lane slot).entry p.entry with
      | none => .next (s.modLane slot (·.relaysData frame))
      | some t =>
        if t.cls.agrees frame.direction then
          let r := s.passBytes slot frame.checkGood frame.bytes
          .next (r.1.modLane slot (·.sendsData frame.direction r.2.1 (outgoingCheck r.2.2 frame.checkGood)))
        else .next ((s.wrongData slot p.entry).modLane slot (·.relaysData frame))

/-- SUCCESS_STATUS (R33). -/
def execSuccessStatus (slot : SlotId) (status : Success) (s : State) : Host.Outcome State Fault Refusal :=
  let s1 := s.modLane slot (·.relayStatus (.success status))
  if s.bypassed slot then .next s1
  else
    match status with
    | .nonQueued => .next (s1.closeSuccess slot untagged)
    | .queued tags =>
      .next (allTags.foldl (fun u t => if tags.getLsbD t.val then u.closeSuccess slot (tagEntry t) else u) s1)

/-- ERROR_STATUS (R34, R35, R36). -/
def execErrorStatus (slot : SlotId) (report : ErrorReport) (s : State) : Host.Outcome State Fault Refusal :=
  let s1 := s.modLane slot (·.relayStatus (.error report))
  if s.bypassed slot then .next s1
  else
    let s2 := s1.closeError slot report
    match report.tag with
    | none => .next s2
    | some _ => .next (allTags.foldl (State.abortSibling slot) s2)

/-- COMMAND_TIMEOUT (R37): nothing where the entry is not one that times out now. -/
def execCommandTimeout (slot : SlotId) (entry : EntryId) (s : State) : Host.Outcome State Fault Refusal :=
  .next (if s.timeoutDue slot entry then s.expireEntry slot entry else s)

/-- DRIVE_LINK_RESET (R42): every OPEN or LATE entry abandoned and counted (R26), the pending list emptied (R40). -/
def execDriveLinkReset (slot : SlotId) (s : State) : Host.Outcome State Fault Refusal :=
  if s.bypassed slot then .next s
  else
    let n := (s.lane slot).openEntries.length
    .next ((s.report slot (SlotRecord.count (TestCounters.abandonMany n))).modLane slot
      (fun l => l.forgotten.dropPending))

end Sys2Proof.Machine
end

