-- ==== Sys2Proof/Machine/PhaseCommands.lean ====
section
/-!
DEFINITION. The ten phase commands (01_slot_runs.md, R8 to R21), each decided in the order of R9: the loader, the slot
number, the phase condition, then its further conditions.
-/
namespace Sys2Proof.Machine

/-- START (R10): seven argument bytes, slot, seed and G. -/
def State.startRun (s : State) (i : SlotId) (seed : Word32) (g : Nat) : Answer :=
  let r := s.slot i
  if r.phase = .idle then
    if r.orphaned || !r.identity.valid then .no .refused
    else .ok ((s.returnExtents i).modSlot i (·.started seed g)) []
  else .no .refused

/-- START (R10). -/
def execStart (args : List Byte) (s : State) : Host.Outcome State Fault Refusal :=
  .next (s.command fun s =>
    match args with
    | [b, s0, s1, s2, s3, g0, g1] =>
      match slotArg b with
      | some i => s.startRun i (s3 ++ s2 ++ s1 ++ s0) (fromLe [g0, g1])
      | none => .no .range
    | _ => .no .range)

/-- ADVANCE_PASS is taken in a phase (R11). -/
def Phase.advances : Phase → Bool
  | .burn => true
  | .scan => true
  | .hold .burn _ _ => true
  | .hold .scan _ _ => true
  | .hold .ship _ _ => false
  | .empty | .idle | .gradeWait | .graded | .ship | .sealed => false

/-- ADVANCE_PASS (R11). -/
def execAdvancePass (args : List Byte) (s : State) : Host.Outcome State Fault Refusal :=
  .next (s.command fun s => slotCommand args fun i =>
    if (s.slot i).phase.advances then
      if (s.slot i).pass = max16 then .no .range else .ok (s.modSlot i (fun r => { r with pass := r.pass + 1 })) []
    else .no .refused)

/-- The phase END_BURN leaves, none where it is refused (R12). -/
def Phase.endBurn : Phase → Option Phase
  | .burn => some .scan
  | .hold .burn m t => some (.hold .scan m t)
  | .hold .scan _ _ => none
  | .hold .ship _ _ => none
  | .empty | .idle | .scan | .gradeWait | .graded | .ship | .sealed => none

/-- A command that changes a slot's phase where the phase allows it, and is refused elsewhere (R9). -/
def State.phaseChange (s : State) (i : SlotId) (p : Option Phase) : Answer :=
  match p with
  | some q => .ok (s.setPhase i q) []
  | none => .no .refused

/-- END_BURN (R12). -/
def execEndBurn (args : List Byte) (s : State) : Host.Outcome State Fault Refusal :=
  .next (s.command fun s => slotCommand args fun i => s.phaseChange i (s.slot i).phase.endBurn)

/-- The phase PAUSE leaves, none where it is refused (R14). -/
def Phase.pause : Phase → Option Phase
  | .burn => some (.hold .burn true false)
  | .scan => some (.hold .scan true false)
  | .ship => some (.hold .ship true false)
  | .hold p _ t => some (.hold p true t)
  | .empty | .idle | .gradeWait | .graded | .sealed => none

/-- PAUSE (R14). -/
def execPause (args : List Byte) (s : State) : Host.Outcome State Fault Refusal :=
  .next (s.command fun s => slotCommand args fun i => s.phaseChange i (s.slot i).phase.pause)

/-- The phase RESUME leaves, none where it is refused (R15). -/
def Phase.resume : Phase → Option Phase
  | .hold p _ t => some (Phase.held p false t)
  | .empty | .idle | .burn | .scan | .gradeWait | .graded | .ship | .sealed => none

/-- RESUME (R15). -/
def execResume (args : List Byte) (s : State) : Host.Outcome State Fault Refusal :=
  .next (s.command fun s => slotCommand args fun i => s.phaseChange i (s.slot i).phase.resume)

/-- GRADE (R17): the slot joins the tail of the grade queue; the engine's take is an event of its own (GRADE_TAKE). -/
def execGrade (args : List Byte) (s : State) : Host.Outcome State Fault Refusal :=
  .next (s.command fun s => slotCommand args fun i =>
    if (s.slot i).phase = .scan then
      if s.hasOpen i then .no .busy
      else .ok { s.setPhase i .gradeWait with gradeQueue := s.gradeQueue ++ [i] } []
    else .no .refused)

/-- The slot's grade result has bin 4 (REJECT). -/
def SlotRecord.rejected (r : SlotRecord) : Bool := (r.grade.map (·.bin)) == some .reject

/-- The number n of record sectors of a slot (R148). -/
def State.recordSectors (s : State) (i : SlotId) : Nat :=
  recordSectorCount s.sectorSize (s.slot i).defects.extents.length

/-- The record region of a slot is at least n sectors long (R19, R53). -/
def State.regionFits (s : State) (i : SlotId) : Bool :=
  match recordRegion s.windows i (s.slot i).identity with
  | none => false
  | some r => s.recordSectors i ≤ rangeSectors r

/-- SHIP (R19): the ship state emptied, the pad byte latched (R149). -/
def execShip (args : List Byte) (s : State) : Host.Outcome State Fault Refusal :=
  .next (s.command fun s => slotCommand args fun i =>
    if (s.slot i).phase = .graded then
      if (s.slot i).rejected then .no .refused
      else if s.hasOpen i then .no .busy
      else if s.regionFits i then
        .ok (s.modSlot i (fun r => { r with phase := .ship, ship := ShipState.emptied s.profile.shipFill })) []
      else .no .refused
    else .no .refused)

/-- SEAL (R20). -/
def execSeal (args : List Byte) (s : State) : Host.Outcome State Fault Refusal :=
  .next (s.command fun s => slotCommand args fun i =>
    if (s.slot i).phase = .ship then
      if s.hasOpen i then .no .busy
      else if allRecordsVerified (s.recordSectors i) (s.slot i).ship && (s.slot i).ship.bad = 0 then
        .ok ((s.setPhase i .sealed).postNotice i) []
      else .no .refused
    else .no .refused)

/-- The slot record RELEASE leaves, none where it is refused (R21). -/
def SlotRecord.releasedRun (r : SlotRecord) : Option SlotRecord :=
  let abandoned : SlotRecord :=
    { r with phase := .sealed, grade := r.grade.map (fun g => { g with bin := .reject, reason := .shipAbandoned }) }
  match r.phase with
  | .graded => if r.rejected then some { r with phase := .sealed } else none
  | .ship => some abandoned
  | .hold .ship _ _ => some abandoned
  | .hold .burn _ _ => none
  | .hold .scan _ _ => none
  | .empty | .idle | .burn | .scan | .gradeWait | .sealed => none

/-- RELEASE (R21). -/
def execRelease (args : List Byte) (s : State) : Host.Outcome State Fault Refusal :=
  .next (s.command fun s => slotCommand args fun i =>
    match (s.slot i).releasedRun with
    | some r => .ok ((s.modSlot i (fun _ => r)).postNotice i) []
    | none => .no .refused)

/-- CLEAR_SLOT (R8): taken in every phase. -/
def execClearSlot (args : List Byte) (s : State) : Host.Outcome State Fault Refusal :=
  .next (s.command fun s => slotCommand args fun i => .ok (s.slotClear i) [])

end Sys2Proof.Machine
end

