-- ==== Sys2Proof/Machine/Presence.lean ====
section
/-!
DEFINITION. The presence inputs and their debounce (01_slot_runs.md, R3 to R7).
-/
namespace Sys2Proof.Machine

/-- The presence inputs of a slot are followed: not in reset, and not under SLOTS4 for slots 4 to 7 (R3). -/
def State.followed (s : State) (i : SlotId) : Bool := !s.inReset && !s.strappedOff i

/-- RAW_PRESENCE_CHANGE (R3): an interval begins where the level leaves the debounced presence, and is abandoned where it
returns to it. -/
def execRawPresenceChange (slot : SlotId) (level : Bool) (s : State) : Host.Outcome State Fault Refusal :=
  let p := s.presenceOf slot
  .next
    (if p.raw = level then s
     else if s.followed slot then
      s.setPresence slot
        { p with raw := level, interval := if level = p.debounced then none else some s.timebase }
     else s.setPresence slot { p with raw := level })

/-- A debounce interval has lasted 100 ms with the raw level still changed (R3). -/
def State.debounceDue (s : State) (i : SlotId) : Bool :=
  match (s.presenceOf i).interval with
  | none => false
  | some t =>
    s.followed i && (s.presenceOf i).raw != (s.presenceOf i).debounced && Config.debounceTime ≤ s.elapsed t

/-- The phase a presence-gained event leaves (R4). -/
def Phase.gained : Phase → Phase
  | .empty => .idle
  | .idle => .idle
  | .burn => .burn
  | .scan => .scan
  | .gradeWait => .gradeWait
  | .graded => .graded
  | .ship => .ship
  | .sealed => .sealed
  | .hold p m t => .hold p m t

/-- The debounced presence takes the raw level, and the slot takes the presence event (R3 to R7). -/
def State.debounced (s : State) (i : SlotId) : State :=
  let p := s.presenceOf i
  let s1 := s.setPresence i { p with debounced := p.raw, interval := none }
  (if p.raw then s1.setPhase i (s1.slot i).phase.gained else s1.removed i).raise (.slotAttn i)

/-- DEBOUNCE_END (R3): nothing where no interval has ended. -/
def execDebounceEnd (slot : SlotId) (s : State) : Host.Outcome State Fault Refusal :=
  .next (if s.debounceDue slot then s.debounced slot else s)

end Sys2Proof.Machine
end

