-- ==== Sys2Proof/Machine/Sort.lean ====
section
/-!
DEFINITION. The commands of the sort port (09_sort_port.md, Table 9-1). While the reset input is asserted an input only
takes its level (R145).
-/
namespace Sys2Proof.Machine

/-- The offer stalls (R140): STALLED, with SORT_STALLED set. -/
def State.stallOffer (s : State) : State :=
  State.raise { s with sort := { s.sort with handshake := .stalled } } .sortStalled

/-- An offer is in progress. -/
def Handshake.isOffer : Handshake → Bool
  | .offer _ => true
  | .idle => false
  | .release _ _ => false
  | .stalled => false

/-- The offer timer reaches the sort offer timeout in OFFER (R140). -/
def State.offerDue (s : State) : Bool :=
  match s.sort.handshake with
  | .offer t => !s.inReset && s.profile.offerTimeout * 1000000 ≤ s.elapsed t
  | .idle => false
  | .release _ _ => false
  | .stalled => false

/-- The robot's TAKE in OFFER (R139): RELEASE with the head notice, and its slot's SORTED flag set. -/
def State.acceptOffer (s : State) (n : Notice) : State :=
  State.modSlot { s with sort := { s.sort with take := true, handshake := .release n true } } n.slot
    (fun r => { r with sorted := true })

/-- TAKE_ASSERTED (R139, R142). -/
def execTakeAsserted (s : State) : Host.Outcome State Fault Refusal :=
  match s.sort.handshake, s.sort.queue with
  | .offer _, n :: _ => .next (s.acceptOffer n)
  | .offer _, [] => .next { s with sort := { s.sort with take := true } }
  | .idle, _ => .next { s with sort := { s.sort with take := true } }
  | .release _ _, _ => .next { s with sort := { s.sort with take := true } }
  | .stalled, _ => .next { s with sort := { s.sort with take := true } }

/-- The sort port at the deassertion of TAKE, before R138 is applied (R141). -/
def SortPort.takeDropped (p : SortPort) : SortPort :=
  match p.handshake with
  | .release _ queued => { p with take := false, handshake := .idle, queue := if queued then p.queue.tail else p.queue }
  | .idle => { p with take := false }
  | .offer _ => { p with take := false }
  | .stalled => { p with take := false }

/-- TAKE_DEASSERTED (R138, R141). -/
def execTakeDeasserted (s : State) : Host.Outcome State Fault Refusal := .next (s.putSort s.sort.takeDropped)

/-- FAULT_ASSERTED (R140): it ends an offer in progress. -/
def execFaultAsserted (s : State) : Host.Outcome State Fault Refusal :=
  let s1 := { s with sort := { s.sort with fault := true } }
  .next (if s.sort.handshake.isOffer then s1.stallOffer else s1)

/-- FAULT_DEASSERTED (R138). -/
def execFaultDeasserted (s : State) : Host.Outcome State Fault Refusal := .next (s.putSort { s.sort with fault := false })

/-- BUSY_ASSERTED (R137, R140): the level is taken, and an offer in progress goes on. -/
def execBusyAsserted (s : State) : Host.Outcome State Fault Refusal :=
  .next { s with sort := { s.sort with busy := true } }

/-- BUSY_DEASSERTED (R138). -/
def execBusyDeasserted (s : State) : Host.Outcome State Fault Refusal := .next (s.putSort { s.sort with busy := false })

/-- OFFER_TIMER_EXPIRY (R140): nothing before the timeout is reached, and nothing outside OFFER. -/
def execOfferTimerExpiry (s : State) : Host.Outcome State Fault Refusal :=
  .next (if s.offerDue then s.stallOffer else s)

/-- SORT_RESUME (R142). -/
def execSortResume (args : List Byte) (s : State) : Host.Outcome State Fault Refusal :=
  .next (s.command fun s =>
    plainCommand args
      (if s.sort.handshake = .stalled then .ok (s.putSort { s.sort with handshake := .idle }) []
       else .no .refused))

end Sys2Proof.Machine
end

