-- ==== Sys2Proof/Machine/ProfileOps.lean ====
section
/-!
DEFINITION. The profile (11_management_line_alerts_and_start_up.md R166 to R168, 12_formats.md R173): the validation of an
image, its items, the store of a load with its clamping and result, and PROFILE_SET's store of one item.
-/
namespace Sys2Proof.Machine

/-! ## The image -/

/-- One bit of the CRC-16 shift (R166). -/
def crc16Shift (r : BitVec 16) : BitVec 16 := if r.getLsbD 15 then (r <<< 1) ^^^ 0x1021#16 else r <<< 1

/-- The CRC-16 register after one byte, XORed into the high eight bits (R166). -/
def crc16Byte (r : BitVec 16) (b : Byte) : BitVec 16 :=
  crc16Shift (crc16Shift (crc16Shift (crc16Shift (crc16Shift (crc16Shift (crc16Shift (crc16Shift
    (r ^^^ (b ++ 0#8)))))))))

/-- The CRC-16 of bytes (R166). -/
def crc16 (bs : List Byte) : BitVec 16 := bs.foldl crc16Byte 0xFFFF#16

/-- An item of an image: its code and its data (R173). -/
structure ProfileItem where
  code : Nat
  data : List Byte
  deriving DecidableEq, Repr

/-- The items of the space between the header and the CRC, none where they do not exactly fill it (R166, R173). `fuel` is
at least the number of bytes. -/
def parseItems : Nat → List Byte → Option (List ProfileItem)
  | _, [] => some []
  | fuel + 1, c0 :: c1 :: d :: rest =>
    if d.toNat ≤ rest.length then
      (parseItems fuel (rest.drop d.toNat)).map ({ code := fromLe [c0, c1], data := rest.take d.toNat } :: ·)
    else none
  | _, _ => none

/-- The tests of an image of a stated length, signature and length passed (R166). -/
def checkImage (image : List Byte) : LoadSource × List ProfileItem :=
  let body := image.take (image.length - 2)
  if crc16 body ≠ BitVec.ofNat 16 (fromLe (image.drop (image.length - 2))) then (.badCrc, [])
  else
    match parseItems image.length (body.drop 6) with
    | none => (.badFormat, [])
    | some items => (.eeprom, items)

/-- The source of a load and the items it supplies (R166). A memory that ends before the bytes to be read is a transfer
that failed part way, ABSENT (log entry 4). -/
def loadImage (noload : Bool) (eeprom : Option (List Byte)) : LoadSource × List ProfileItem :=
  if noload then (.noload, [])
  else
    match eeprom with
    | none => (.absent, [])
    | some bytes =>
      let len := fromLe ((bytes.drop 4).take 2)
      if bytes.length < 6 then (.absent, [])
      else if bytes.take 4 ≠ [0x5A#8, 0x57#8, 0x50#8, 0x31#8] then (.badSignature, [])
      else if len < 8 || 8192 < len then (.badLength, [])
      else if bytes.length < len then (.absent, [])
      else checkImage (bytes.take len)

/-! ## Item codes (Table 12-10) -/

/-- The data size of an item of an image, none for a code an image does not know; the pattern table range is apart. -/
def itemSize (code : Nat) : Option Nat :=
  if code = 0x0001 then some 2
  else if code = 0x0002 then some 3
  else if code = 0x0003 ∨ code = 0x0004 then some 2
  else if code = 0x0005 ∨ code = 0x0006 ∨ code = 0x0007 then some 1
  else if code = 0x0008 ∨ code = 0x0009 then some 2
  else if code = 0x000A ∨ code = 0x000B ∨ code = 0x000C ∨ code = 0x000D then some 1
  else if 0x0010 ≤ code ∧ code ≤ 0x0017 then some 2
  else if 0x0018 ≤ code ∧ code ≤ 0x001A then some 4
  else if code = 0x001B then some 2
  else if code = 0x001C then some 1
  else if code = 0x0020 then some 27
  else if 0x0100 ≤ code ∧ code ≤ 0x010F then some 22
  else if 0x0200 ≤ code ∧ code ≤ 0x020F then some 2
  else none

/-- The word range of a pattern table item: its d is 2 + 4k with k from 1 to 63, and it stays below word 1024 (R173). -/
def tableItemOk (data : List Byte) : Bool :=
  let k := (data.length - 2) / 4
  data.length = 2 + 4 * k && 1 ≤ k && k ≤ 63 && fromLe (data.take 2) + k ≤ 1024

/-- The item is stored and not skipped (R173). -/
def ProfileItem.taken (x : ProfileItem) : Bool :=
  if x.code = 0x0300 then tableItemOk x.data else itemSize x.code == some x.data.length

/-- A value clamped to a range (Table 11-3). -/
def clampTo (lo hi v : Nat) : Nat := max lo (min v hi)

/-- A numeric item of the profile with its value, ordered items and the knot table apart: clamped to its range
(Table 11-3, R134). -/
def Profile.storeNumber (p : Profile) (code v : Nat) : Profile :=
  let g := p.grading
  match code with
  | 0x0003 => { p with commandTimeout := clampTo 1 60000 v }
  | 0x0004 => { p with latencyBase := clampTo 1 65535 v }
  | 0x0005 => { p with slowBucket := clampTo 1 15 v }
  | 0x0006 => { p with slipReach := clampTo 1 255 v }
  | 0x0007 => { p with shipFill := BitVec.ofNat 8 (clampTo 0 255 v) }
  | 0x0009 => { p with divisor := clampTo 0 4095 v }
  | 0x000A => { p with staleTimeout := clampTo 1 60 v }
  | 0x000D => { p with offerTimeout := clampTo 1 255 v }
  | 0x0010 => { p with grading := { g with wDefsec := clampTo 0 65535 v } }
  | 0x0011 => { p with grading := { g with wExtent := clampTo 0 65535 v } }
  | 0x0012 => { p with grading := { g with wStale := clampTo 0 65535 v } }
  | 0x0013 => { p with grading := { g with wSlip := clampTo 0 65535 v } }
  | 0x0014 => { p with grading := { g with wTimeout := clampTo 0 65535 v } }
  | 0x0015 => { p with grading := { g with wSlow := clampTo 0 65535 v } }
  | 0x0016 => { p with grading := { g with wShort := clampTo 0 65535 v } }
  | 0x0017 => { p with grading := { g with wHot := clampTo 0 65535 v } }
  | 0x001B => { p with grading := { g with slipLimit := clampTo 1 65535 v } }
  | 0x001C => { p with grading := { g with strictSoak := v != 0 } }
  | _ => p

/-- The value an item of the profile holds, in the form PROFILE_SET returns (R172). -/
def Profile.number (p : Profile) (code : Nat) : Nat :=
  match code with
  | 0x0003 => p.commandTimeout
  | 0x0004 => p.latencyBase
  | 0x0005 => p.slowBucket
  | 0x0006 => p.slipReach
  | 0x0007 => p.shipFill.toNat
  | 0x0008 => p.defectCap
  | 0x0009 => p.divisor
  | 0x000A => p.staleTimeout
  | 0x000B => p.h1
  | 0x000C => p.h2
  | 0x000D => p.offerTimeout
  | 0x0010 => p.grading.wDefsec
  | 0x0011 => p.grading.wExtent
  | 0x0012 => p.grading.wStale
  | 0x0013 => p.grading.wSlip
  | 0x0014 => p.grading.wTimeout
  | 0x0015 => p.grading.wSlow
  | 0x0016 => p.grading.wShort
  | 0x0017 => p.grading.wHot
  | 0x0018 => p.grading.b1
  | 0x0019 => p.grading.b2
  | 0x001A => p.grading.b3
  | 0x001B => p.grading.slipLimit
  | 0x001C => if p.grading.strictSoak then 1 else 0
  | _ => if code < 0x002A then p.knots.toList.getD (code - 0x0021) 0 else p.factors.toList.getD (code - 0x0031) 0

/-! ## A load -/

/-- What a load gathers from its items, in image order, before its last clamps. -/
structure Load where
  profile : Profile
  size : Option SectorSize
  windows : Vector Window 16
  table : List Host.Cell
  filters : Vector (BitVec 8 × BitVec 6) 16
  mask : BitVec 17

/-- A load of no items: built-in values (Table 11-3, R59). -/
def Load.builtIn : Load :=
  { profile := Profile.builtIn, size := none, windows := Vector.replicate 16 Window.builtIn, table := []
    filters := Vector.replicate 16 (0#8, 0#6), mask := BitVec.allOnes 17 }

/-- The sector size a value names (Table 11-3). -/
def sizeOf (v : Nat) : Option SectorSize :=
  if v = 512 then some .s512 else if v = 4096 then some .s4096 else none

/-- Nine numbers of a list. -/
def nine (l : List Nat) : Vector Nat 9 :=
  ⟨#[l.getD 0 0, l.getD 1 0, l.getD 2 0, l.getD 3 0, l.getD 4 0, l.getD 5 0, l.getD 6 0, l.getD 7 0, l.getD 8 0], rfl⟩

/-- Knots are strictly increasing (R113). -/
def rising : List Nat → Bool
  | a :: b :: l => a < b && rising (b :: l)
  | _ => true

/-- The knots of a knot table item, one byte each (Table 12-10). -/
def itemKnots (data : List Byte) : List Nat := (data.take 9).map BitVec.toNat

/-- The factors of a knot table item, two bytes each (Table 12-10). -/
def itemFactors : List Byte → List Nat
  | b0 :: b1 :: bs => fromLe [b0, b1] :: itemFactors bs
  | _ => []

/-- The knots of an item are each 0 to 250 and strictly increasing (R113). -/
def knotsOk (knots : List Nat) : Bool := rising knots && knots.all (· ≤ 250)

/-- The knot table of an item stored, or the built-in table where its knots do not do (R113). -/
def Profile.storeKnots (p : Profile) (data : List Byte) : Profile :=
  if knotsOk (itemKnots data) then
    { p with knots := nine (itemKnots data), factors := nine ((itemFactors (data.drop 9)).map (min · 4095)) }
  else { p with knots := builtInKnots, factors := builtInFactors }

/-- The window of an item as stored: the built-in disabled window where a code names no value (R47). -/
def itemWindow (data : List Byte) : Window := ((RawWindow.parse data).bind RawWindow.stored).getD Window.builtIn

/-- One item of the image stored (R167). H1, H2, the thresholds and the cap are brought into order after the last item. -/
def Load.store (l : Load) (x : ProfileItem) : Load :=
  let v := fromLe x.data
  if !x.taken then l
  else if x.code = 0x0001 then { l with size := sizeOf v }
  else if x.code = 0x0002 then { l with mask := BitVec.ofNat 17 v }
  else if x.code = 0x0008 then { l with profile := { l.profile with defectCap := clampTo 1 512 v } }
  else if x.code = 0x000B then { l with profile := { l.profile with h1 := clampTo 0 249 v } }
  else if x.code = 0x000C then { l with profile := { l.profile with h2 := clampTo 1 250 v } }
  else if x.code = 0x0018 then { l with profile := { l.profile with grading := { l.profile.grading with b1 := v } } }
  else if x.code = 0x0019 then { l with profile := { l.profile with grading := { l.profile.grading with b2 := v } } }
  else if x.code = 0x001A then { l with profile := { l.profile with grading := { l.profile.grading with b3 := v } } }
  else if x.code = 0x0020 then { l with profile := l.profile.storeKnots x.data }
  else if x.code = 0x0300 then
    { l with table := writeTableWords l.table (fromLe (x.data.take 2)) (wordsOf (x.data.drop 2)) }
  else if 0x0200 ≤ x.code then
    { l with filters := l.filters.setIfInBounds (x.code - 0x0200) (BitVec.ofNat 8 v, BitVec.ofNat 6 (v / 256)) }
  else if 0x0100 ≤ x.code then { l with windows := l.windows.setIfInBounds (x.code - 0x0100) (itemWindow x.data) }
  else { l with profile := l.profile.storeNumber x.code v }

/-- The last clamps of a load: H1 below H2 (R112), the thresholds in order (R130), the cap not below the largest extent
count of a slot (R79). -/
def Profile.settled (p : Profile) (largest : Nat) : Profile :=
  { p with
    defectCap := max p.defectCap largest
    h1 := if p.h1 < p.h2 then p.h1 else p.h2 - 1
    grading := { p.grading with
      b2 := max p.grading.b1 p.grading.b2
      b3 := max (max p.grading.b1 p.grading.b2) p.grading.b3 } }

/-- The largest extent count that any slot holds (R79). -/
def State.largestCount (s : State) : Nat := allSlots.foldl (fun n i => max n (s.slot i).defects.extents.length) 0

/-- An item's stored value differs from the image's value (R167). Filters and the alert mask are not counted at a
PROFILE_RELOAD. -/
def ProfileItem.clamped (x : ProfileItem) (stored : Profile) (kind : LoadKind) : Bool :=
  let v := fromLe x.data
  if x.code = 0x0001 then (sizeOf v).isNone
  else if x.code = 0x0002 then false
  else if x.code = 0x001C then false
  else if x.code = 0x0020 then
    !knotsOk (itemKnots x.data) || (itemFactors (x.data.drop 9)).any (4095 < ·)
  else if x.code = 0x0300 then false
  else if 0x0200 ≤ x.code then kind == .afterReset && 64 ≤ v / 256
  else if 0x0100 ≤ x.code then
    match RawWindow.parse x.data with
    | none => false
    | some raw =>
      match raw.stored with
      | none => true
      | some w => raw.clamped w
  else stored.number x.code != v

/-- The items whose value stands: of two with the same code the later one (R167). -/
def lastItems : List ProfileItem → List ProfileItem
  | [] => []
  | x :: xs => if xs.any (fun y => y.code == x.code) then lastItems xs else x :: lastItems xs

/-- The items that a last clamp can change though the image does not supply them: cap, H1, B2 and B3. -/
def raisedCodes : List Nat := [0x0008, 0x000B, 0x0019, 0x001A]

/-- The codes of the clamped items of a load, in image order, then those the image did not supply (R167, log entry 9). -/
def clampedCodes (taken : List ProfileItem) (stored : Profile) (kind : LoadKind) : List Nat :=
  ((lastItems taken).filter (fun x => x.clamped stored kind)).map (·.code) ++
    raisedCodes.filter (fun c => !taken.any (fun x => x.code == c) && stored.number c != Profile.builtIn.number c)

/-- The loader result of a load (R167). Every item that is not skipped counts as stored (R173), also the filter and mask items
that a PROFILE_RELOAD reads and validates but does not store (log entry 21). -/
def loaderResultOf (source : LoadSource) (items : List ProfileItem) (stored : Profile) (kind : LoadKind) : LoaderResult :=
  let taken := items.filter ProfileItem.taken
  let codes := clampedCodes taken stored kind
  { source := source, stored := taken.length, skipped := items.length - taken.length, clamped := min codes.length 255
    firstClamped := codes.head? }

/-- What a load that follows a reset also does at READY: filters and mask stored, stale timer and soak tick timer started
(R101, R163, R167), and the loaded H1 in effect (R119; a PROFILE_RELOAD leaves that to the next completed frame, R112). -/
def State.readyAfterReset (s : State) (l : Load) : State :=
  { s with
    capture := { s.capture with
      records := allSixteen.foldl
        (fun (v : Vector CaptureRecord 16) (n : Fin 16) =>
          v.set n (CaptureRecord.filtered l.filters[n].1 l.filters[n].2)) s.capture.records }
    alertMask := l.mask
    chamber := { s.chamber with staleTimer := some s.timebase, h1InEffect := s.profile.h1 }
    soakTimer := some s.timebase }

/-- The READY event of a load (R166, R167). -/
def State.profileLoaded (s : State) (kind : LoadKind) (eeprom : Option (List Byte)) : State :=
  let image := loadImage s.straps.noload eeprom
  let l := image.2.foldl Load.store Load.builtIn
  let p := l.profile.settled s.largestCount
  let s1 : State :=
    { s with
      profile := p
      sectorSize := l.size.getD (strappedSize s.straps)
      windows := l.windows
      patternTable := l.table
      loader := .ready
      loaderResult := loaderResultOf image.1 image.2 p kind }
  (match kind with
    | .afterReset => s1.readyAfterReset l
    | .reload => s1).raise .loaderDone

/-! ## PROFILE_SET -/

/-- A knot clamped strictly between its neighbours as they stand (R113). -/
def Profile.clampKnot (p : Profile) (i : Fin 9) (v : Nat) : Nat :=
  clampTo (if i.val = 0 then 0 else p.knots.toList.getD (i.val - 1) 0 + 1)
    (if i.val = 8 then 250 else p.knots.toList.getD (i.val + 1) 0 - 1) v

/-- One item of the profile set by PROFILE_SET, clamped against its neighbours as they stand (R79, R112, R113, R130,
R168); none for a code that is not such an item. -/
def Profile.setItem (p : Profile) (largest code v : Nat) : Option Profile :=
  let g := p.grading
  if code = 0x0008 then some { p with defectCap := max (clampTo 1 512 v) largest }
  else if code = 0x000B then some { p with h1 := clampTo 0 (p.h2 - 1) v }
  else if code = 0x000C then some { p with h2 := clampTo (p.h1 + 1) 250 v }
  else if code = 0x0018 then some { p with grading := { g with b1 := clampTo 0 g.b2 v } }
  else if code = 0x0019 then some { p with grading := { g with b2 := clampTo g.b1 g.b3 v } }
  else if code = 0x001A then some { p with grading := { g with b3 := clampTo g.b2 max32 v } }
  else if h : 0x0021 ≤ code ∧ code ≤ 0x0029 then
    let i : Fin 9 := ⟨code - 0x0021, by omega⟩
    some { p with knots := p.knots.set i (p.clampKnot i v) }
  else if h : 0x0031 ≤ code ∧ code ≤ 0x0039 then
    let i : Fin 9 := ⟨code - 0x0031, by omega⟩
    some { p with factors := p.factors.set i (clampTo 0 4095 v) }
  else if 0x0003 ≤ code ∧ code ≤ 0x001C ∧ (itemSize code).isSome then some (p.storeNumber code v)
  else none

/-- A lowered command timeout makes every OPEN timed entry it reaches LATE at once (R37, R168), in slot and entry order
(log entry 7). -/
def State.timeoutsLowered (s : State) (old : Nat) : State :=
  if s.profile.commandTimeout < old then s.forSlots State.expireSlot else s

/-- A new divisor restarts the chamber receiver: character, held-back character and frame discarded (R119). -/
def State.restartReceiver (s : State) : State :=
  s.modChamber (fun c => { c with receiver := c.receiver.discarded, frame := none })

/-- What the change of an item causes at once (R37, R110, R119, R140, R168). -/
def State.itemTakesEffect (s : State) (code oldTimeout : Nat) : State :=
  if code = 0x0003 then s.timeoutsLowered oldTimeout
  else if code = 0x0009 then s.restartReceiver
  else if code = 0x000A then (if s.staleDue then s.expireStale else s)
  else if code = 0x000D then (if s.offerDue then s.stallOffer else s)
  else s

/-- PROFILE_SET of an item code with a 4-byte value (R168, R172). -/
def State.setProfile (s : State) (code v : Nat) : Answer :=
  if code = 0x0001 ∨ code = 0x0020 ∨ code = 0x0300 ∨ (0x0100 ≤ code ∧ code ≤ 0x010F) then .no .refused
  else if code = 0x0002 then
    .ok { s with alertMask := BitVec.ofNat 17 v } (le 4 (v % 131072))
  else if h : 0x0200 ≤ code ∧ code ≤ 0x020F then
    let n : Fin 16 := ⟨code - 0x0200, by omega⟩
    .ok (s.putCapture (s.capture.filterSet n (BitVec.ofNat 8 v) (BitVec.ofNat 6 (v / 256))))
      (le 1 v ++ le 1 (v / 256 % 64) ++ le 2 0)
  else
    match s.profile.setItem s.largestCount code v with
    | some p =>
      .ok (State.itemTakesEffect { s with profile := p } code s.profile.commandTimeout) (le 4 (p.number code))
    | none => .no .range

end Sys2Proof.Machine
end

