-- ==== Sys2Proof/Machine/Profile.lean ====
section
/-!
DEFINITION. The commands of the profile other than its reload (11_management_line_alerts_and_start_up.md, 12_formats.md).
-/
namespace Sys2Proof.Machine

/-- PROFILE_SET (R168, R172): a 2-byte item code and a 4-byte value. -/
def execProfileSet (args : List Byte) (s : State) : Host.Outcome State Fault Refusal :=
  .next (s.command fun s =>
    match args with
    | [c0, c1, v0, v1, v2, v3] => s.setProfile (fromLe [c0, c1]) (fromLe [v0, v1, v2, v3])
    | _ => .no .range)

/-- PROFILE_READY (R166, R167): the load in progress ends with what the EEPROM gave; nothing while no load is in progress. -/
def execProfileReady (eeprom : Option (List Byte)) (s : State) : Host.Outcome State Fault Refusal :=
  .next
    (match s.loader with
      | .ready => s
      | .loading kind _ => if s.inReset then s else s.profileLoaded kind eeprom)

end Sys2Proof.Machine
end

