-- ==== Sys2Proof/Machine/Queries.lean ====
section
/-!
DEFINITION. The queries of the management line and their replies (11_management_line_alerts_and_start_up.md R160 to R162,
05_defect_extents.md R87, the layouts of 12_formats.md).
-/
namespace Sys2Proof.Machine

/-- The strap byte of STATUS (Table 12-4). -/
def strapsByte (t : Straps) : Byte :=
  BitVec.ofNat 8 (t.addr.toNat + 8 * flagBits [t.slots4, t.noload, t.sect4k])

/-- The loader result of STATUS (Table 12-4). -/
def LoaderResult.bytes (r : LoaderResult) : List Byte :=
  le 1 r.source.code ++ le 2 r.stored ++ le 1 (min r.skipped 255) ++ le 1 r.clamped ++ le 2 (r.firstClamped.getD 0xFFFF)

/-- A notice of STATUS: slot in bits 0 to 3, bin in bits 4 to 6 (Table 12-4). -/
def Notice.byte (n : Notice) : Byte := BitVec.ofNat 8 (n.slot.val + 16 * binCode n.bin)

/-- The payload of STATUS (R160, Table 12-4). -/
def State.statusPayload (s : State) : List Byte :=
  [flagByte !s.isLoading] ++ s.loaderResult.bytes ++ [strapsByte s.straps] ++ [flagByte (s.sectorSize == .s4096)] ++
    le 4 s.timebase.toNat ++ le 3 s.alerts.toNat ++ le 2 s.freeExtents ++
    [optByte (s.capture.openRecord.map (·.val)), optByte (s.capture.locked.map (·.val)),
      optByte (s.capture.staging.map (·.aim.val))] ++
    le 2 s.capture.stagedLost ++ le 2 s.capture.unmatched ++
    le 1 (flagBits [s.chamber.frame.isSome, s.chamber.lineBreak, !s.chamber.fresh]) ++
    [s.chamber.status, optByte (s.chamber.prevSeq.map BitVec.toNat)] ++
    le 2 s.chamber.lineErrors ++ le 2 s.chamber.seqGaps ++ le 2 s.chamber.breaks ++ le 4 s.chamber.framesTaken ++
    le 1 s.gradeQueue.length ++ padTo 8 absentByte (s.gradeQueue.map (fun i => BitVec.ofNat 8 i.val)) ++
    [flagByte s.engine.isSome, optByte (s.engine.map (·.slot.val)), flagByte ((s.engine.map (·.void)).getD false)] ++
    le 1 s.sort.handshake.code ++ le 1 s.sort.queue.length ++ padTo 8 absentByte (s.sort.queue.map Notice.byte) ++
    le 1 (flagBits [s.sort.take, s.sort.busy, s.sort.fault])

/-- The prior phase byte of SLOT_STATUS, 0xFF outside HOLD (R171). -/
def Phase.priorByte : Phase → Byte
  | .hold p _ _ => BitVec.ofNat 8 p.phase.name.code
  | .empty | .idle | .burn | .scan | .gradeWait | .graded | .ship | .sealed => absentByte

/-- The hold cause bits, MANUAL 0 and THERMAL 1 (Table 12-1). -/
def Phase.causeBits : Phase → Nat
  | .hold _ m t => flagBits [m, t]
  | .empty | .idle | .burn | .scan | .gradeWait | .graded | .ship | .sealed => 0

/-- The effective reading byte (Table 12-1). -/
def effectiveByte : Option Reading → Byte
  | some (.valid h) => BitVec.ofNat 8 h
  | some .fault => 251#8
  | none => 254#8
  | some .none => 255#8

/-- The number of entries of a lane with the LATE mark given (R161). -/
def Lane.countEntries (l : Lane) (late : Bool) : Nat :=
  (allEntries.filter (fun e => (l.entry e).any (fun t => t.late == late))).length

/-- The payload of SLOT_STATUS (R161, Table 12-5). -/
def State.slotStatusPayload (s : State) (i : SlotId) : List Byte :=
  let r := s.slot i
  let n := s.recordSectors i
  le 1 r.phase.name.code ++ [r.phase.priorByte] ++ le 1 r.phase.causeBits ++
    le 1 (flagBits [r.orphaned, r.sorted, (s.presenceOf i).debounced, r.identity.valid]) ++
    r.identity.serial.toList ++ le 6 r.identity.capacity ++ le 2 r.pass ++ [effectiveByte (s.chamber.effective i)] ++
    le 1 ((s.lane i).countEntries false) ++ le 1 ((s.lane i).countEntries true) ++
    le 1 (binCode (r.grade.map (·.bin))) ++ le 1 ((r.grade.map (fun g => g.reason.code)).getD 0) ++
    le 4 ((r.grade.map (·.score)).getD 0) ++ le 1 n ++ le 3 (reportedSet n r.ship.written) ++
    le 3 (reportedSet n r.ship.verified) ++ le 4 r.ship.filled ++ le 4 r.ship.verifiedFill ++ le 2 r.ship.bad ++
    [r.ship.padByte] ++ le 2 r.shipped

/-- The payload of SLOT_COUNTERS (R162, R172). -/
def SlotRecord.countersPayload (r : SlotRecord) : List Byte :=
  le 4 r.seed.toNat ++ le 4 r.counters.writtenSectors ++ le 4 r.counters.checkedSectors ++ le 2 r.counters.stale ++
    le 2 r.counters.slip ++ le 2 r.counters.corrupt ++ le 2 r.counters.media ++ le 2 r.counters.timeouts ++
    le 2 r.counters.late ++ le 2 r.counters.aborted ++ le 2 r.counters.abandoned ++ le 2 r.counters.withheld ++
    le 2 r.counters.anomalies ++ le 4 r.soak.a ++ le 2 r.soak.target ++ le 4 r.soak.burnSeconds ++
    le 4 r.soak.staleSeconds ++ le 4 r.soak.chamberOffSeconds ++ le 4 r.soak.coldSeconds ++
    le 4 r.soak.excursionSeconds ++ le 4 r.soak.heldSeconds ++ le 1 r.soak.maxH

/-- The payload of HISTOGRAM (R162, R172). -/
def State.histogramPayload (s : State) (i : SlotId) : List Byte :=
  (s.slot i).latency.histogram.toList.flatMap (le 2) ++ le 2 (s.slot i).latency.slowCount ++
    le 4 (s.slot i).latency.maxLatency ++ le 2 s.profile.latencyBase ++ le 1 s.profile.slowBucket

/-- The payload of DEFECT_READ at a list position (R87, Table 12-6). -/
def Defects.payload (d : Defects) (index : Nat) : List Byte :=
  let es := (d.extents.drop index).take 3
  le 2 d.extents.length ++ le 4 d.sectors ++ le 2 d.unrecorded ++ [flagByte d.truncated] ++ le 1 es.length ++
    es.flatMap Extent.bytes

/-- STATUS (R160): answered during a load as well. -/
def execStatus (args : List Byte) (s : State) : Host.Outcome State Fault Refusal :=
  .next (if s.inReset then s else s.concluded (plainCommand args (.ok s s.statusPayload)))

/-- SLOT_STATUS (R161). -/
def execSlotStatus (args : List Byte) (s : State) : Host.Outcome State Fault Refusal :=
  .next (s.command fun s => slotCommand args fun i => .ok s (s.slotStatusPayload i))

/-- SLOT_COUNTERS (R118, R162). -/
def execSlotCounters (args : List Byte) (s : State) : Host.Outcome State Fault Refusal :=
  .next (s.command fun s => slotCommand args fun i => .ok s (s.slot i).countersPayload)

/-- HISTOGRAM (R162). -/
def execHistogram (args : List Byte) (s : State) : Host.Outcome State Fault Refusal :=
  .next (s.command fun s => slotCommand args fun i => .ok s (s.histogramPayload i))

/-- DEFECT_READ (R87): slot and a 2-byte index, RANGE above 511. -/
def execDefectRead (args : List Byte) (s : State) : Host.Outcome State Fault Refusal :=
  .next (s.command fun s =>
    match args with
    | [b, i0, i1] =>
      match slotArg b with
      | some i =>
        if fromLe [i0, i1] ≤ 511 then .ok s ((s.slot i).defects.payload (fromLe [i0, i1])) else .no .range
      | none => .no .range
    | _ => .no .range)

/-- UNKNOWN_COMMAND (R159): UNKNOWN whatever its argument bytes, or NOT_READY during a load. -/
def execUnknownCommand (_code : Byte) (_args : List Byte) (s : State) : Host.Outcome State Fault Refusal :=
  .next (s.command fun _ => .no .unknown)

end Sys2Proof.Machine
end

