-- ==== Sys2Proof/Machine/Resets.lean ====
section
/-!
DEFINITION. The resets and the reload of the profile (R169, R170): chip reset at the assertion and at the release of the
reset input, SOFT_RESET, PROFILE_RELOAD. Each block's values are those its chapter gives (R2, R3, R45, R59, R60, R85,
R101, R119, R121, R123, R145, Table 11-4).
-/
namespace Sys2Proof.Machine

/-- One value for each slot. -/
def perSlot {α : Type} (f : SlotId → α) : Vector α 8 := ⟨#[f 0, f 1, f 2, f 3, f 4, f 5, f 6, f 7], rfl⟩

/-- The presence of a slot restarted from its raw input (R2, R3). -/
def State.presenceRestarted (s : State) (i : SlotId) : Presence :=
  let raw := (s.presenceOf i).raw
  { raw := raw, debounced := false, interval := if raw && s.followed i then some s.timebase else none }

/-- A lane unit that a reset or a reload puts in bypass: entries forgotten without count, pending list emptied (R40, R45). -/
def Lane.bypass (l : Lane) : Lane := l.forgotten.dropPending

/-- Every lane unit put in bypass (R45). -/
def State.lanesBypassed (s : State) : Vector Lane 8 := perSlot (fun i => (s.lane i).bypass)

/-- Every block at its reset values, but for what distinguishes chip reset from soft reset: the straps, the timebase, the
loader result and the reply are left as they are, and the slot records are given. The input levels of the sort port are
those of its pins (R145). The sector size in force stays: it changes only at READY (R167). -/
def State.restarted (s : State) (records : Vector SlotRecord 8) : State :=
  { s with
    soakTimer := none
    loader := .loading .afterReset s.timebase
    alerts := 0#17
    alertMask := BitVec.allOnes 17
    profile := Profile.builtIn
    windows := Vector.replicate 16 Window.builtIn
    patternTable := []
    slots := records
    presence := perSlot s.presenceRestarted
    lanes := s.lanesBypassed
    freeExtents := 512
    capture := CaptureUnit.initial
    chamber := Chamber.initial
    gradeQueue := []
    engine := none
    sort := { s.sort with queue := [], handshake := .idle } }

/-- Chip reset with the level of the reset input and the straps in force given: every block at its chip-reset values, the
timebase at 0, the loader result NOLOAD with counts 0, the reply NOT_READY with length 0 (R158, R167, R170). The sector size
is the built-in one of Table 11-4, which the strap gives: before a power-on there is no size to keep (log entry 20). -/
def State.chipReset (s : State) (asserted : Bool) (straps : Straps) : State :=
  State.restarted
    { s with
      inReset := asserted
      timebase := 0#32
      straps := straps
      sectorSize := strappedSize straps
      loaderResult := LoaderResult.initial
      reply := { status := .notReady, payload := [] } }
    (Vector.replicate 8 (SlotRecord.initial 0))

/-- CHIP_RESET (R170): the reset input is asserted; the straps hold until they are latched at the release. -/
def execChipReset (s : State) : Host.Outcome State Fault Refusal := .next (s.chipReset true s.straps)

/-- CHIP_RESET_RELEASE (R165, R170): the straps are latched, the timebase starts from 0 and the loader begins. -/
def execChipResetRelease (straps : Straps) (s : State) : Host.Outcome State Fault Refusal :=
  .next (s.chipReset false straps)

/-- The slot records of a soft reset: the shipped counters kept (R2). -/
def State.softRecords (s : State) : Vector SlotRecord 8 := perSlot (fun i => SlotRecord.initial (s.slot i).shipped)

/-- SOFT_RESET (R170). -/
def execSoftReset (args : List Byte) (s : State) : Host.Outcome State Fault Refusal :=
  .next (s.command fun s => plainCommand args (.ok (s.restarted s.softRecords) []))

/-- Every slot is EMPTY or IDLE (R169). -/
def State.allAtRest (s : State) : Bool := allSlots.all (fun i => !(s.slot i).phase.counts)

/-- The take of PROFILE_RELOAD: LOADING, every lane in bypass, the character and the frame in progress discarded (R119,
R169). -/
def State.reloading (s : State) : State :=
  { s with
    loader := .loading .reload s.timebase
    lanes := s.lanesBypassed
    chamber := { s.chamber with receiver := s.chamber.receiver.afresh, frame := none } }

/-- PROFILE_RELOAD (R169). -/
def execProfileReload (args : List Byte) (s : State) : Host.Outcome State Fault Refusal :=
  .next (s.command fun s => plainCommand args (if s.allAtRest then .ok s.reloading [] else .no .busy))

end Sys2Proof.Machine
end

