-- ==== Sys2Proof/Machine/WindowCommands.lean ====
section
/-!
DEFINITION. The commands of the window table and the pattern table (03_windows_and_sector_actions.md R56 to R58).
-/
namespace Sys2Proof.Machine

/-- The ship state of a slot in HOLD with prior phase SHIP that a window edit reaches is emptied, and its pad byte takes
the ship fill byte in force (R154). -/
def SlotRecord.shipRestarted (r : SlotRecord) (fill : Byte) : SlotRecord :=
  match r.phase with
  | .hold .ship _ _ => { r with ship := ShipState.emptied fill }
  | .hold .burn _ _ => r
  | .hold .scan _ _ => r
  | .empty | .idle | .burn | .scan | .gradeWait | .graded | .ship | .sealed => r

/-- Every slot set in a mask is quiet (R56). -/
def State.allQuiet (s : State) (mask : BitVec 8) : Bool := allSlots.all (fun i => !mask.getLsbD i.val || s.quiet i)

/-- A window replaced, with the restart of the held ships it reaches (R56, R154). -/
def State.replaceWindow (s : State) (n : Fin 16) (w : Window) : State :=
  let mask := s.windows[n].mask ||| w.mask
  State.forSlots { s with windows := s.windows.set n w } fun s i =>
    if mask.getLsbD i.val then s.modSlot i (·.shipRestarted s.profile.shipFill) else s

/-- WINDOW_WRITE (R47, R56, R154). -/
def execWindowWrite (args : List Byte) (s : State) : Host.Outcome State Fault Refusal :=
  .next (s.command fun s =>
    match args with
    | b :: bytes =>
      match RawWindow.parse bytes with
      | none => .no .range
      | some raw =>
        match sixteenArg b, raw.stored with
        | some n, some w =>
          if s.allQuiet (s.windows[n].mask ||| w.mask) then
            .ok (s.replaceWindow n w) (w.bytes ++ [flagByte (raw.clamped w)])
          else .no .busy
        | _, _ => .no .range
    | [] => .no .range)

/-- The payload of WINDOW_READ (R57, Table 12-3). -/
def State.windowPayload (s : State) (n : Fin 16) (i : SlotId) : List Byte :=
  let range := s.windows[n].resolve (s.slot i).identity
  s.windows[n].bytes ++
    le 1 (flagBits [range.isSome, recordWindow s.windows i (s.slot i).identity == some n]) ++
    le 6 (range.getD (0, 0)).1 ++ le 6 (range.getD (0, 0)).2

/-- WINDOW_READ (R57). -/
def execWindowRead (args : List Byte) (s : State) : Host.Outcome State Fault Refusal :=
  .next (s.command fun s =>
    match args with
    | [b, c] =>
      match sixteenArg b, slotArg c with
      | some n, some i => .ok s (s.windowPayload n i)
      | _, _ => .no .range
    | _ => .no .range)

/-- TABLE_WRITE (R58, R172): a 2-byte index, a word count k of 1 to 15, and k words. -/
def execTableWrite (args : List Byte) (s : State) : Host.Outcome State Fault Refusal :=
  .next (s.command fun s =>
    match args with
    | i0 :: i1 :: k :: bytes =>
      if 1 ≤ k.toNat && k.toNat ≤ 15 && bytes.length = 4 * k.toNat then
        if fromLe [i0, i1] ≤ 1023 && fromLe [i0, i1] + k.toNat ≤ 1024 then
          if allSlots.all s.quiet then
            .ok { s with patternTable := writeTableWords s.patternTable (fromLe [i0, i1]) (wordsOf bytes) } []
          else .no .busy
        else .no .range
      else .no .range
    | _ => .no .range)

end Sys2Proof.Machine
end

