-- ==== Sys2Proof/Machine/Dispatch.lean ====
section
/-!
DEFINITION. The command's effect on everything but the queue: one arm per constructor of Instr, each a call of its meaning.
-/
namespace Sys2Proof.Machine

/-- The effect of a command or event (spec/opcode_table.json). -/
def exec (i : Instr) (s : State) : Host.Outcome State Fault Refusal :=
  match i with
  | .chipReset => Sys2Proof.Machine.execChipReset s
  | .chipResetRelease straps => Sys2Proof.Machine.execChipResetRelease straps s
  | .profileReady eeprom => Sys2Proof.Machine.execProfileReady eeprom s
  | .unknownCommand code args => Sys2Proof.Machine.execUnknownCommand code args s
  | .status args => Sys2Proof.Machine.execStatus args s
  | .slotStatus args => Sys2Proof.Machine.execSlotStatus args s
  | .slotCounters args => Sys2Proof.Machine.execSlotCounters args s
  | .histogram args => Sys2Proof.Machine.execHistogram args s
  | .defectRead args => Sys2Proof.Machine.execDefectRead args s
  | .start args => Sys2Proof.Machine.execStart args s
  | .advancePass args => Sys2Proof.Machine.execAdvancePass args s
  | .endBurn args => Sys2Proof.Machine.execEndBurn args s
  | .pause args => Sys2Proof.Machine.execPause args s
  | .resume args => Sys2Proof.Machine.execResume args s
  | .grade args => Sys2Proof.Machine.execGrade args s
  | .ship args => Sys2Proof.Machine.execShip args s
  | .sealSlot args => Sys2Proof.Machine.execSeal args s
  | .release args => Sys2Proof.Machine.execRelease args s
  | .clearSlot args => Sys2Proof.Machine.execClearSlot args s
  | .windowWrite args => Sys2Proof.Machine.execWindowWrite args s
  | .windowRead args => Sys2Proof.Machine.execWindowRead args s
  | .tableWrite args => Sys2Proof.Machine.execTableWrite args s
  | .captureSet args => Sys2Proof.Machine.execCaptureSet args s
  | .captureOpen args => Sys2Proof.Machine.execCaptureOpen args s
  | .captureRead args => Sys2Proof.Machine.execCaptureRead args s
  | .captureClose args => Sys2Proof.Machine.execCaptureClose args s
  | .alertRead args => Sys2Proof.Machine.execAlertRead args s
  | .alertAck args => Sys2Proof.Machine.execAlertAck args s
  | .alertMask args => Sys2Proof.Machine.execAlertMask args s
  | .sortResume args => Sys2Proof.Machine.execSortResume args s
  | .profileSet args => Sys2Proof.Machine.execProfileSet args s
  | .profileReload args => Sys2Proof.Machine.execProfileReload args s
  | .softReset args => Sys2Proof.Machine.execSoftReset args s
  | .rawPresenceChange slot level => Sys2Proof.Machine.execRawPresenceChange slot level s
  | .debounceEnd slot => Sys2Proof.Machine.execDebounceEnd slot s
  | .commandFrame slot frame => Sys2Proof.Machine.execCommandFrame slot frame s
  | .pendingStatusSend slot => Sys2Proof.Machine.execPendingStatusSend slot s
  | .dataSetupNotice slot notice => Sys2Proof.Machine.execDataSetupNotice slot notice s
  | .dataFrame slot frame => Sys2Proof.Machine.execDataFrame slot frame s
  | .successStatus slot status => Sys2Proof.Machine.execSuccessStatus slot status s
  | .errorStatus slot report => Sys2Proof.Machine.execErrorStatus slot report s
  | .commandTimeout slot entry => Sys2Proof.Machine.execCommandTimeout slot entry s
  | .driveLinkReset slot => Sys2Proof.Machine.execDriveLinkReset slot s
  | .soakTick => Sys2Proof.Machine.execSoakTick s
  | .chamberByte levels => Sys2Proof.Machine.execChamberByte levels s
  | .chamberCharacterError => Sys2Proof.Machine.execChamberCharacterError s
  | .chamberBreak => Sys2Proof.Machine.execChamberBreak s
  | .lineBreakClear => Sys2Proof.Machine.execLineBreakClear s
  | .staleTimerExpiry => Sys2Proof.Machine.execStaleTimerExpiry s
  | .gradeTake => Sys2Proof.Machine.execGradeTake s
  | .gradeCompletion => Sys2Proof.Machine.execGradeCompletion s
  | .takeAsserted => Sys2Proof.Machine.execTakeAsserted s
  | .takeDeasserted => Sys2Proof.Machine.execTakeDeasserted s
  | .faultAsserted => Sys2Proof.Machine.execFaultAsserted s
  | .faultDeasserted => Sys2Proof.Machine.execFaultDeasserted s
  | .busyAsserted => Sys2Proof.Machine.execBusyAsserted s
  | .busyDeasserted => Sys2Proof.Machine.execBusyDeasserted s
  | .offerTimerExpiry => Sys2Proof.Machine.execOfferTimerExpiry s

end Sys2Proof.Machine
end

