-- ==== Sys2Proof/Machine/Timebase.lean ====
section
/-!
DEFINITION. Time: what the part does when its queue is empty (log entry 2). The events its own timers bring are found
from the state; one that is due is taken, and where none is due the timebase goes one microsecond on.
-/
namespace Sys2Proof.Machine

/-- The timebase one microsecond on; it stands while the reset input is asserted (R170). -/
def State.tick (s : State) : State := if s.inReset then s else { s with timebase := s.timebase + 1#32 }

/-- An event, where its condition holds. -/
def eventIf (due : Bool) (c : Instr) : List Instr := if due then [c] else []

/-- The load in progress has lasted its longest time (R166). -/
def State.loadDue (s : State) : Bool :=
  match s.loader with
  | .ready => false
  | .loading _ began =>
    !s.inReset && (if s.straps.noload then Config.loadLimitNoload else Config.loadLimitEeprom) ≤ s.elapsed began

/-- The PROFILE_READY that ends a load by its time limit: what the EEPROM gave is a free value (log entry 4). -/
def State.lateReady (s : State) : Instr := .profileReady (if s.straps.noload then none else Config.eepromRead s.tieCount)

/-- The computation has lasted its longest time (R126). -/
def State.completionDue (s : State) : Bool :=
  match s.engine with
  | none => false
  | some c => !s.inReset && Config.computationLimit ≤ s.elapsed c.takeTime

/-- The engine is IDLE and a slot waits, so the head of the queue is taken (R124). -/
def State.takeDue (s : State) : Bool := s.engine.isNone && !s.gradeQueue.isEmpty

/-- The part's own events that are due now, in the order of the table; the choice among them is free (log entry 3). -/
def State.dueEvents (s : State) : List Instr :=
  eventIf s.loadDue s.lateReady ++
    allSlots.flatMap (fun i => eventIf (s.debounceDue i) (.debounceEnd i)) ++
    allSlots.flatMap (fun i => allEntries.flatMap (fun e => eventIf (s.timeoutDue i e) (.commandTimeout i e))) ++
    eventIf s.soakDue .soakTick ++ eventIf s.staleDue .staleTimerExpiry ++ eventIf s.takeDue .gradeTake ++
    eventIf s.completionDue .gradeCompletion ++ eventIf s.offerDue .offerTimerExpiry

/-- One of a list of due events: the only one, or the one the free value picks (log entry 3). -/
def chooseEvent (count : Nat) : List Instr → Option Instr
  | [] => none
  | [c] => some c
  | c :: d :: rest => (c :: d :: rest)[Config.tieBreak count % (rest.length + 2)]?

/-- The own event the part takes now, and the state it is taken in, none where no event is due. -/
def State.ownEvent (s : State) : Option (Instr × State) :=
  (chooseEvent s.tieCount s.dueEvents).map (fun c => (c, { s with tieCount := s.tieCount + 1 }))

end Sys2Proof.Machine
end

