-- ==== Sys2Proof/Laws/PerInstr.lean ====
section
/-!
SUPPORT. The family of facts that is said for every command: the write transaction of a management command reads back as that
command (R158, Table 12-2), and an event that does not come over the management line has none.
-/
namespace Sys2Proof.Laws.RoundTrip

/-- The write transaction of a well-formed command, where it has one, decodes to the command. -/
def Statement (i : Instr) : Prop :=
  i.wf = true → ∀ bs, encodeTransaction i = some bs → decodeTransaction bs = some i

theorem chipReset : Statement .chipReset := by
  intro _ bs hb; cases hb

theorem chipResetRelease (straps : Straps) : Statement (.chipResetRelease straps) := by
  intro _ bs hb; cases hb

theorem profileReady (eeprom : Option (List Byte)) : Statement (.profileReady eeprom) := by
  intro _ bs hb; cases hb

theorem unknownCommand (code : Byte) (args : List Byte) : Statement (.unknownCommand code args) := by
  intro h bs hb
  cases hb
  simp only [Instr.wf, beq_iff_eq] at h
  simp [decodeTransaction, h]

theorem status (args : List Byte) : Statement (.status args) := by
  intro _ bs hb; cases hb; rfl

theorem slotStatus (args : List Byte) : Statement (.slotStatus args) := by
  intro _ bs hb; cases hb; rfl

theorem slotCounters (args : List Byte) : Statement (.slotCounters args) := by
  intro _ bs hb; cases hb; rfl

theorem histogram (args : List Byte) : Statement (.histogram args) := by
  intro _ bs hb; cases hb; rfl

theorem defectRead (args : List Byte) : Statement (.defectRead args) := by
  intro _ bs hb; cases hb; rfl

theorem start (args : List Byte) : Statement (.start args) := by
  intro _ bs hb; cases hb; rfl

theorem advancePass (args : List Byte) : Statement (.advancePass args) := by
  intro _ bs hb; cases hb; rfl

theorem endBurn (args : List Byte) : Statement (.endBurn args) := by
  intro _ bs hb; cases hb; rfl

theorem pause (args : List Byte) : Statement (.pause args) := by
  intro _ bs hb; cases hb; rfl

theorem resume (args : List Byte) : Statement (.resume args) := by
  intro _ bs hb; cases hb; rfl

theorem grade (args : List Byte) : Statement (.grade args) := by
  intro _ bs hb; cases hb; rfl

theorem ship (args : List Byte) : Statement (.ship args) := by
  intro _ bs hb; cases hb; rfl

theorem sealSlot (args : List Byte) : Statement (.sealSlot args) := by
  intro _ bs hb; cases hb; rfl

theorem release (args : List Byte) : Statement (.release args) := by
  intro _ bs hb; cases hb; rfl

theorem clearSlot (args : List Byte) : Statement (.clearSlot args) := by
  intro _ bs hb; cases hb; rfl

theorem windowWrite (args : List Byte) : Statement (.windowWrite args) := by
  intro _ bs hb; cases hb; rfl

theorem windowRead (args : List Byte) : Statement (.windowRead args) := by
  intro _ bs hb; cases hb; rfl

theorem tableWrite (args : List Byte) : Statement (.tableWrite args) := by
  intro _ bs hb; cases hb; rfl

theorem captureSet (args : List Byte) : Statement (.captureSet args) := by
  intro _ bs hb; cases hb; rfl

theorem captureOpen (args : List Byte) : Statement (.captureOpen args) := by
  intro _ bs hb; cases hb; rfl

theorem captureRead (args : List Byte) : Statement (.captureRead args) := by
  intro _ bs hb; cases hb; rfl

theorem captureClose (args : List Byte) : Statement (.captureClose args) := by
  intro _ bs hb; cases hb; rfl

theorem alertRead (args : List Byte) : Statement (.alertRead args) := by
  intro _ bs hb; cases hb; rfl

theorem alertAck (args : List Byte) : Statement (.alertAck args) := by
  intro _ bs hb; cases hb; rfl

theorem alertMask (args : List Byte) : Statement (.alertMask args) := by
  intro _ bs hb; cases hb; rfl

theorem sortResume (args : List Byte) : Statement (.sortResume args) := by
  intro _ bs hb; cases hb; rfl

theorem profileSet (args : List Byte) : Statement (.profileSet args) := by
  intro _ bs hb; cases hb; rfl

theorem profileReload (args : List Byte) : Statement (.profileReload args) := by
  intro _ bs hb; cases hb; rfl

theorem softReset (args : List Byte) : Statement (.softReset args) := by
  intro _ bs hb; cases hb; rfl

theorem rawPresenceChange (slot : SlotId) (level : Bool) : Statement (.rawPresenceChange slot level) := by
  intro _ bs hb; cases hb

theorem debounceEnd (slot : SlotId) : Statement (.debounceEnd slot) := by
  intro _ bs hb; cases hb

theorem commandFrame (slot : SlotId) (frame : CommandFrame) : Statement (.commandFrame slot frame) := by
  intro _ bs hb; cases hb

theorem pendingStatusSend (slot : SlotId) : Statement (.pendingStatusSend slot) := by
  intro _ bs hb; cases hb

theorem dataSetupNotice (slot : SlotId) (notice : SetupNotice) : Statement (.dataSetupNotice slot notice) := by
  intro _ bs hb; cases hb

theorem dataFrame (slot : SlotId) (frame : DataFrame) : Statement (.dataFrame slot frame) := by
  intro _ bs hb; cases hb

theorem successStatus (slot : SlotId) (status : Success) : Statement (.successStatus slot status) := by
  intro _ bs hb; cases hb

theorem errorStatus (slot : SlotId) (report : ErrorReport) : Statement (.errorStatus slot report) := by
  intro _ bs hb; cases hb

theorem commandTimeout (slot : SlotId) (entry : EntryId) : Statement (.commandTimeout slot entry) := by
  intro _ bs hb; cases hb

theorem driveLinkReset (slot : SlotId) : Statement (.driveLinkReset slot) := by
  intro _ bs hb; cases hb

theorem soakTick : Statement .soakTick := by
  intro _ bs hb; cases hb

theorem chamberByte (levels : List Bool) : Statement (.chamberByte levels) := by
  intro _ bs hb; cases hb

theorem chamberCharacterError : Statement .chamberCharacterError := by
  intro _ bs hb; cases hb

theorem chamberBreak : Statement .chamberBreak := by
  intro _ bs hb; cases hb

theorem lineBreakClear : Statement .lineBreakClear := by
  intro _ bs hb; cases hb

theorem staleTimerExpiry : Statement .staleTimerExpiry := by
  intro _ bs hb; cases hb

theorem gradeTake : Statement .gradeTake := by
  intro _ bs hb; cases hb

theorem gradeCompletion : Statement .gradeCompletion := by
  intro _ bs hb; cases hb

theorem takeAsserted : Statement .takeAsserted := by
  intro _ bs hb; cases hb

theorem takeDeasserted : Statement .takeDeasserted := by
  intro _ bs hb; cases hb

theorem faultAsserted : Statement .faultAsserted := by
  intro _ bs hb; cases hb

theorem faultDeasserted : Statement .faultDeasserted := by
  intro _ bs hb; cases hb

theorem busyAsserted : Statement .busyAsserted := by
  intro _ bs hb; cases hb

theorem busyDeasserted : Statement .busyDeasserted := by
  intro _ bs hb; cases hb

theorem offerTimerExpiry : Statement .offerTimerExpiry := by
  intro _ bs hb; cases hb

end Sys2Proof.Laws.RoundTrip
end

