-- ==== Sys2Proof/Machine/ProfileImage.lean ====
section
/-!
DEFINITION. The writer of a profile image (12_formats.md, 12.4): what a maker of an EEPROM puts at its address 0 for a list of
items. The loader reads it back (`loadImage`).
-/
namespace Sys2Proof.Machine

/-- An item of the image: code, data length, data (R173). -/
def encodeItem (x : ProfileItem) : List Byte := le 2 x.code ++ le 1 x.data.length ++ x.data

/-- The bytes of the items in order. -/
def encodeItems (items : List ProfileItem) : List Byte := items.flatMap encodeItem

/-- The image before its CRC: signature, image length, items. -/
def imageBody (items : List ProfileItem) : List Byte :=
  [0x5A#8, 0x57#8, 0x50#8, 0x31#8] ++ le 2 (8 + (encodeItems items).length) ++ encodeItems items

/-- The image of a list of items, with its CRC-16 (R166). -/
def encodeImage (items : List ProfileItem) : List Byte := imageBody items ++ le 2 (crc16 (imageBody items)).toNat

end Sys2Proof.Machine
end

