-- ==== Sys2Proof/Safety.lean ====
section
/-!
DEFINITION. What holds of the part between two steps, in the terms the statements use: the part is ready for management
commands, and the properties of its state that the manual promises and every step keeps.
-/
namespace Sys2Proof.Machine

/-- The part is out of reset and its loader is READY: the management line decides commands, the lanes are not in bypass for a
load (R45, R158, R159). -/
def State.ready (s : State) : Prop := s.inReset = false ∧ s.loader = .ready

/-- The argument byte of a slot number. -/
def slotByte (i : SlotId) : Byte := BitVec.ofNat 8 i.val

/-- The argument byte of a window or capture record number. -/
def sixteenByte (n : Fin 16) : Byte := BitVec.ofNat 8 n.val

/-- The pattern table holds words 0 to 1023 only, in canonical form (R46). -/
def State.tableSafe (s : State) : Prop := Memory.wf s.patternTable = true ∧ ∀ c ∈ s.patternTable, c.1 < 4096

/-- The number of extents in the eight lists. -/
def State.extentTotal (s : State) : Nat := (allSlots.map (fun i => (s.slot i).defects.extents.length)).sum

/-- A defect summary as R78 keeps it: the list in order and apart, defect_sectors the exact sum of the lengths, TRUNCATED set
exactly where an insertion was unrecorded. -/
def Defects.whole (d : Defects) : Prop :=
  extentsOk d.extents = true ∧ d.sectors = sectorSum d.extents ∧ (d.truncated = true ↔ 0 < d.unrecorded)

/-- Every extent record is on the free list or in one list, no list is longer than the cap in force (R76, R79), every slot's
list is as R78 keeps it, and a sector in progress has an LBA. -/
def State.poolSafe (s : State) : Prop :=
  s.freeExtents + s.extentTotal = 512 ∧ 1 ≤ s.profile.defectCap ∧ s.profile.defectCap ≤ 512 ∧
    ∀ i : SlotId, (s.slot i).defects.extents.length ≤ s.profile.defectCap ∧ (s.slot i).defects.whole ∧
      ∀ x, (s.lane i).sector = some x → x.lba < Config.lbaEnd

/-- A slot outside EMPTY has its presence debounced, an EMPTY one has not (R4, R5); an orphaned slot is EMPTY or IDLE (R7, R10);
a slot in HOLD has a hold cause (R1, R15, R16). -/
def State.phaseSafe (s : State) : Prop :=
  ∀ i : SlotId, ((s.slot i).phase ≠ .empty ↔ (s.presenceOf i).debounced = true) ∧
    ((s.slot i).orphaned = true → (s.slot i).phase = .empty ∨ (s.slot i).phase = .idle) ∧
    ∀ p, (s.slot i).phase ≠ .hold p false false

/-- The current data position of a lane names an entry that is OPEN or LATE, and a sector in progress belongs to the entry at
the position (R25, R60). -/
def State.laneSafe (s : State) : Prop :=
  ∀ i : SlotId, (∀ p, (s.lane i).position = some p → ((s.lane i).entry p.entry).isSome = true) ∧
    ∀ x, (s.lane i).sector = some x → ∃ p, (s.lane i).position = some p ∧ p.entry = x.entry

/-- A staged event aims at the locked record, a locked record is unread, and a load that follows a reset finds neither (R88,
R92, R93, R95, R101). -/
def State.captureSafe (s : State) : Prop :=
  (∀ st, s.capture.staging = some st → s.capture.locked = some st.aim) ∧
    (∀ n, s.capture.locked = some n → s.capture.records[n].state.isUnread = true) ∧
    ∀ t, s.loader = .loading .afterReset t → s.capture.locked = none ∧ s.capture.staging = none

/-- Every slot in the grade queue is in GRADE_WAIT and appears there once, and a slot being computed with the void mark clear
is in GRADE_WAIT and not in the queue (R121, R126). -/
def State.gradeSafe (s : State) : Prop :=
  s.gradeQueue.Nodup ∧ (∀ i ∈ s.gradeQueue, (s.slot i).phase = .gradeWait) ∧
    ∀ c, s.engine = some c → c.void = false → c.slot ∉ s.gradeQueue ∧ (s.slot c.slot).phase = .gradeWait

/-- Every notice in the sort queue belongs to a slot in SEALED, holds the bin of its grade result, and no slot has two; an
offer has a notice to offer, and a notice being released that is still queued is the head (R136, R137, R141). -/
def State.sortSafe (s : State) : Prop :=
  (s.sort.queue.map (·.slot)).Nodup ∧
    (∀ n ∈ s.sort.queue, (s.slot n.slot).phase = .sealed ∧ n.bin = (s.slot n.slot).grade.map (·.bin)) ∧
    (∀ t, s.sort.handshake = .offer t → s.sort.queue ≠ []) ∧
    ∀ n, s.sort.handshake = .release n true → s.sort.queue.head? = some n

/-- Every item of the profile is in its range, and the ordered ones in their order (Table 11-3, R79, R112, R113, R130, R134). The
ship fill byte and STRICT_SOAK have no value out of range. -/
def Profile.inRange (p : Profile) : Prop :=
  (1 ≤ p.commandTimeout ∧ p.commandTimeout ≤ 60000) ∧ (1 ≤ p.latencyBase ∧ p.latencyBase ≤ 65535) ∧
    (1 ≤ p.slowBucket ∧ p.slowBucket ≤ 15) ∧ (1 ≤ p.slipReach ∧ p.slipReach ≤ 255) ∧
    (1 ≤ p.defectCap ∧ p.defectCap ≤ 512) ∧ p.divisor ≤ 4095 ∧
    (1 ≤ p.staleTimeout ∧ p.staleTimeout ≤ 60) ∧ (p.h1 < p.h2 ∧ p.h2 ≤ 250) ∧
    (rising p.knots.toList = true ∧ p.knots[8] ≤ 250) ∧ (∀ i : Fin 9, p.factors[i] ≤ 4095) ∧
    (1 ≤ p.offerTimeout ∧ p.offerTimeout ≤ 255) ∧
    (p.grading.wDefsec ≤ 65535 ∧ p.grading.wExtent ≤ 65535 ∧ p.grading.wStale ≤ 65535 ∧ p.grading.wSlip ≤ 65535) ∧
    (p.grading.wTimeout ≤ 65535 ∧ p.grading.wSlow ≤ 65535 ∧ p.grading.wShort ≤ 65535 ∧ p.grading.wHot ≤ 65535) ∧
    (p.grading.b1 ≤ p.grading.b2 ∧ p.grading.b2 ≤ p.grading.b3 ∧ p.grading.b3 ≤ max32) ∧
    (1 ≤ p.grading.slipLimit ∧ p.grading.slipLimit ≤ 65535)

/-- The counts of a slot record stay within their widths (00_scope.md, Table 3), histogram buckets and extent hits among them, G and
max_h within theirs, and the three results that are no match together stay at or below checked_sectors (R70). -/
def SlotRecord.countsInRange (r : SlotRecord) : Prop :=
  (r.counters.writtenSectors ≤ max32 ∧ r.counters.checkedSectors ≤ max32) ∧
    (r.counters.stale ≤ max16 ∧ r.counters.slip ≤ max16 ∧ r.counters.corrupt ≤ max16 ∧ r.counters.media ≤ max16) ∧
    (r.counters.timeouts ≤ max16 ∧ r.counters.late ≤ max16 ∧ r.counters.aborted ≤ max16) ∧
    (r.counters.abandoned ≤ max16 ∧ r.counters.withheld ≤ max16 ∧ r.counters.anomalies ≤ max16) ∧
    (r.latency.slowCount ≤ max16 ∧ r.latency.maxLatency ≤ max32 ∧ ∀ b : Fin 16, r.latency.histogram[b] ≤ max16) ∧
    (r.soak.a ≤ max32 ∧ r.soak.burnSeconds ≤ max32 ∧ r.soak.staleSeconds ≤ max32 ∧ r.soak.chamberOffSeconds ≤ max32) ∧
    (r.soak.coldSeconds ≤ max32 ∧ r.soak.excursionSeconds ≤ max32 ∧ r.soak.heldSeconds ≤ max32) ∧
    (r.soak.target ≤ max16 ∧ r.soak.maxH ≤ 250) ∧
    (r.defects.sectors ≤ max32 ∧ r.defects.unrecorded ≤ max16 ∧ ∀ x ∈ r.defects.extents, x.hits ≤ 255) ∧
    r.counters.stale + r.counters.slip + r.counters.corrupt ≤ r.counters.checkedSectors ∧
    (r.ship.filled ≤ max32 ∧ r.ship.verifiedFill ≤ max32 ∧ r.ship.bad ≤ max16) ∧ r.shipped ≤ max16 ∧ r.pass ≤ max16

/-- The counts of the capture unit stay within their widths (R88). -/
def CaptureUnit.countsInRange (u : CaptureUnit) : Prop :=
  (∀ n : Fin 16, u.records[n].arrivals ≤ max16) ∧ u.stagedLost ≤ max16 ∧ u.unmatched ≤ max16

/-- The counts of the chamber receiver stay within their widths (R105, R107, R108), and a VALID reading is one of R109. -/
def Chamber.countsInRange (c : Chamber) : Prop :=
  (c.lineErrors ≤ max16 ∧ c.seqGaps ≤ max16 ∧ c.breaks ≤ max16 ∧ c.framesTaken ≤ max32) ∧
    ∀ (i : SlotId) (h : Nat), c.readings[i] = .valid h → h ≤ 250

/-- The counts of every slot record, of the capture unit, of the chamber receiver and of every tag entry stay within their
widths. -/
def State.countsSafe (s : State) : Prop :=
  (∀ i : SlotId, (s.slot i).countsInRange) ∧ s.capture.countsInRange ∧ s.chamber.countsInRange ∧
    ∀ (i : SlotId) (e : EntryId) (t : TagEntry), (s.lane i).entry e = some t → t.errorSectors ≤ max16

/-- The phases from the take of GRADE to the end of the run (01_slot_runs.md, frozen fields). -/
def Phase.frozen : Phase → Bool
  | .gradeWait => true
  | .graded => true
  | .ship => true
  | .sealed => true
  | .hold .ship _ _ => true
  | .hold .burn _ _ => false
  | .hold .scan _ _ => false
  | .empty => false
  | .idle => false
  | .burn => false
  | .scan => false

/-- A slot in a frozen phase has no OPEN or LATE entry issued in BURN or SCAN (R17). -/
def State.frozenSafe (s : State) : Prop :=
  ∀ (i : SlotId) (e : EntryId) (t : TagEntry), (s.slot i).phase.frozen = true → (s.lane i).entry e = some t →
    t.issuePhase.isTest = false

/-- The frozen fields of two slot records agree: what the grade engine and the ship record read (01_slot_runs.md). -/
def SlotRecord.sameFrozen (r q : SlotRecord) : Prop :=
  r.identity = q.identity ∧ r.pass = q.pass ∧ r.soak.target = q.soak.target ∧ r.soak.a = q.soak.a ∧
    r.soak.excursionSeconds = q.soak.excursionSeconds ∧ r.defects = q.defects ∧ r.counters.stale = q.counters.stale ∧
    r.counters.slip = q.counters.slip ∧ r.counters.timeouts = q.counters.timeouts ∧
    r.latency.slowCount = q.latency.slowCount

/-! ## Terms of the statements -/

/-- The levels of the chamber line that spell bits, sixteen samples each (R103, R104). -/
def lineLevels (bits : List Bool) : List Bool := bits.flatMap (List.replicate 16)

/-- The levels of a character, from the leading edge of its start bit to the end of its stop bit (R103). -/
def characterLevels (data : Byte) (parity stop : Bool) : List Bool :=
  lineLevels ([false] ++ (List.range 8).map data.getLsbD ++ [parity, stop])

/-- The bytes `bs` stand at an offset of a payload. -/
def hasField (payload : List Byte) (off : Nat) (bs : List Byte) : Prop := (payload.drop off).take bs.length = bs

/-- A flag as 0 or 1. -/
def bit (b : Bool) : Nat := if b then 1 else 0

/-- Every block is at its reset values but for the shipped counters, which are given (R2, R25, R45, R59, R85, R101, R119, R121,
R123, R145, Table 11-4): nothing runs, nothing is open, nothing is held. -/
def State.blocksReset (v : State) (shipped : SlotId → Nat) : Prop :=
  (∀ i, v.slot i = SlotRecord.initial (shipped i)) ∧ (∀ i, (v.presenceOf i).debounced = false) ∧
    (∀ i, (∀ e, (v.lane i).entry e = none) ∧ (v.lane i).position = none ∧ (v.lane i).sector = none ∧
      (v.lane i).upstream = []) ∧
    v.freeExtents = 512 ∧ v.capture = CaptureUnit.initial ∧ v.chamber = Chamber.initial ∧ v.soakTimer = none ∧
    v.gradeQueue = [] ∧ v.engine = none ∧ v.sort.queue = [] ∧ v.sort.handshake = .idle ∧ v.alerts = 0#17 ∧
    v.alertMask = BitVec.allOnes 17 ∧ v.profile = Profile.builtIn ∧
    v.windows = Vector.replicate 16 Window.builtIn ∧ v.patternTable = []

/-- A capture unit and the alert flags after an event is delivered: the flag its delivery sets joins the flags set before (R90 to
R94, R100). -/
def delivered (c : CaptureUnit × BitVec 17) (e : CaptureEvent) : CaptureUnit × BitVec 17 :=
  ((c.1.deliver e).1, match (c.1.deliver e).2 with
    | none => c.2
    | some g => c.2 ||| (1#17 <<< g.bit))

/-- Of two states, what the result of a checked sector of BURN or SCAN changes outside the lanes (R26, R70, R71): nothing in a
phase that does not count; else checked_sectors, and by the result stale, slip or corrupt, the inserted defect, and the capture
event with the flag its delivery sets. -/
def State.sectorJudged (s t : State) (i : SlotId) (e : EntryId) (lba pass : Nat) (c : CheckResult) : Prop :=
  let q := (s.slot i).counters
  let checked : TestCounters := { q with checkedSectors := min (q.checkedSectors + 1) 4294967295 }
  let raises (d : CaptureDetail) : Prop := (t.capture, t.alerts) = delivered (s.capture, s.alerts)
    { slot := i, tag := e, lba := lba, time := s.timebase, detail := d }
  let counted (n : TestCounters) : Prop :=
    t.slot i = { s.slot i with counters := n } ∧ t.freeExtents = s.freeExtents
  ((s.slot i).phase = .empty ∨ (s.slot i).phase = .idle → t = { s with lanes := t.lanes }) ∧
    ((s.slot i).phase ≠ .empty → (s.slot i).phase ≠ .idle →
      (c = .isMatch → counted checked ∧ t.capture = s.capture ∧ t.alerts = s.alerts) ∧
      (∀ p, c = .stale p → counted { checked with stale := min (q.stale + 1) 65535 } ∧ raises (.stale p pass)) ∧
      (∀ offset, c = .slip offset → counted { checked with slip := min (q.slip + 1) 65535 } ∧
        raises (.slip offset pass)) ∧
      ∀ first expected actual n, c = .corrupt first expected actual n →
        t.slot i = { s.slot i with
          counters := { checked with corrupt := min (q.corrupt + 1) 65535 }, defects := (t.slot i).defects } ∧
        ((t.slot i).defects, t.freeExtents) =
          Machine.insertDefect s.profile.defectCap lba .corrupt pass (s.slot i).defects s.freeExtents ∧
        raises (.corrupt first expected actual n)) ∧
    (∀ j, j ≠ i → t.slot j = s.slot j) ∧
    t = { s with
      lanes := t.lanes, slots := t.slots, freeExtents := t.freeExtents, capture := t.capture, alerts := t.alerts }

/-- The EEPROM gives no valid image, and why (R166): the source of the load. -/
def noImage (noload : Bool) (eeprom : Option (List Byte)) (src : LoadSource) : Prop :=
  let signature : List Byte := [0x5A#8, 0x57#8, 0x50#8, 0x31#8]
  let length (bytes : List Byte) : Nat := fromLe ((bytes.drop 4).take 2)
  let whole (bytes : List Byte) : Prop :=
    6 ≤ bytes.length ∧ bytes.take 4 = signature ∧ 8 ≤ length bytes ∧ length bytes ≤ 8192 ∧ length bytes ≤ bytes.length
  let crcGood (bytes : List Byte) : Prop :=
    fromLe ((bytes.drop (length bytes - 2)).take 2) = (crc16 (bytes.take (length bytes - 2))).toNat
  (noload = true ∧ src = .noload) ∨
    (noload = false ∧ eeprom = none ∧ src = .absent) ∨
    ∃ bytes, noload = false ∧ eeprom = some bytes ∧
      ((6 ≤ bytes.length ∧ bytes.take 4 ≠ signature ∧ src = .badSignature) ∨
        (6 ≤ bytes.length ∧ bytes.take 4 = signature ∧ (length bytes < 8 ∨ 8192 < length bytes) ∧ src = .badLength) ∨
        (whole bytes ∧ ¬crcGood bytes ∧ src = .badCrc) ∨
        (whole bytes ∧ crcGood bytes ∧ src = .badFormat ∧
          ∀ items : List ProfileItem, (∀ x ∈ items, x.code < 65536 ∧ x.data.length < 256) →
            encodeItems items ≠ (bytes.take (length bytes - 2)).drop 6))

/-- The items of the profile that are numbers with a fixed range: code, lowest and highest value (Table 11-3, Table 12-10). -/
def rangeItems : List (Nat × Nat × Nat) :=
  [(0x0003, 1, 60000), (0x0004, 1, 65535), (0x0005, 1, 15), (0x0006, 1, 255), (0x0007, 0, 255), (0x0009, 0, 4095),
    (0x000A, 1, 60), (0x000D, 1, 255), (0x0010, 0, 65535), (0x0011, 0, 65535), (0x0012, 0, 65535), (0x0013, 0, 65535),
    (0x0014, 0, 65535), (0x0015, 0, 65535), (0x0016, 0, 65535), (0x0017, 0, 65535), (0x001B, 1, 65535)]

/-- The codes of the items whose value is one number: those of `rangeItems`, the ordered ones, the knots and the factors. -/
def numberCodes : List Nat :=
  rangeItems.map (·.1) ++ [0x0008, 0x000B, 0x000C, 0x0018, 0x0019, 0x001A, 0x001C] ++ (List.range 9).map (0x0021 + ·) ++
    (List.range 9).map (0x0031 + ·)

/-- The codes of Table 12-10. -/
def knownCodes : List Nat :=
  numberCodes ++ [0x0001, 0x0002, 0x0020, 0x0300] ++ (List.range 16).map (0x0100 + ·) ++ (List.range 16).map (0x0200 + ·)

/-- The number of argument bytes of a command of fixed length, by its command byte (Table 12-2). -/
def commandArity : Nat → Option Nat
  | 0x01 => some 0
  | 0x02 => some 1
  | 0x03 => some 1
  | 0x04 => some 1
  | 0x05 => some 3
  | 0x10 => some 7
  | 0x11 => some 1
  | 0x12 => some 1
  | 0x13 => some 1
  | 0x14 => some 1
  | 0x15 => some 1
  | 0x16 => some 1
  | 0x17 => some 1
  | 0x18 => some 1
  | 0x19 => some 1
  | 0x20 => some 23
  | 0x21 => some 2
  | 0x30 => some 3
  | 0x31 => some 1
  | 0x32 => some 0
  | 0x33 => some 0
  | 0x40 => some 0
  | 0x41 => some 3
  | 0x42 => some 3
  | 0x50 => some 0
  | 0x60 => some 6
  | 0x61 => some 0
  | 0x70 => some 0
  | _ => none

/-- The payload length of an OK reply, by the command byte; DEFECT_READ apart (Table 12-2). -/
def okLength : Nat → Option Nat
  | 0x01 => some 62
  | 0x02 => some 61
  | 0x03 => some 63
  | 0x04 => some 41
  | 0x10 => some 0
  | 0x11 => some 0
  | 0x12 => some 0
  | 0x13 => some 0
  | 0x14 => some 0
  | 0x15 => some 0
  | 0x16 => some 0
  | 0x17 => some 0
  | 0x18 => some 0
  | 0x19 => some 0
  | 0x20 => some 23
  | 0x21 => some 35
  | 0x22 => some 0
  | 0x30 => some 0
  | 0x31 => some 8
  | 0x32 => some 30
  | 0x33 => some 0
  | 0x40 => some 6
  | 0x41 => some 0
  | 0x42 => some 0
  | 0x50 => some 0
  | 0x60 => some 4
  | 0x61 => some 0
  | 0x70 => some 0
  | _ => none

end Sys2Proof.Machine
end

