-- ==== Sys2Proof/Certificates/Slice0/Obligations.lean ====
section
/-!
DEFINITION. The statements for the provers. Each docstring names the rules of spec/ it rests on, and the log entry where a clause
is the model's own choice. A statement of the form 'exec answers next t' says where its command completes.
-/
open Sys2Proof Sys2Proof.Machine

/-! ## The queue -/

/-- A step takes the command at the front of the queue and runs its meaning with the queue's rest. -/
def Obligations.StepRunsFrontCommand : Prop :=
  ∀ (c : Instr) (rest : List Instr) (s : State), step { s with pending := c :: rest } = exec c { s with pending := rest }

/-- Every command and event of the table ends in a next state, in every state of the part, and leaves the queue alone: no fault,
no refusal (95_what_each_step_holds.md: each step is whole and indivisible). -/
def Obligations.EveryCommandEndsInNextState : Prop :=
  ∀ (c : Instr) (s : State), ∃ t, exec c s = .next t ∧ t.pending = s.pending

/-- THE MODEL'S CHOICE (log entries 2 and 3): on an empty queue the part takes one of its own events that are due, or, where
none is, its timebase goes one microsecond on, which it does not while the reset input is asserted. -/
def Obligations.EmptyQueueTakesDueEventOrTicks : Prop :=
  ∀ s : State, s.pending = [] →
    (s.dueEvents = [] → step s = .next (if s.inReset then s else { s with timebase := s.timebase + 1#32 })) ∧
      (s.dueEvents ≠ [] → ∃ c ∈ s.dueEvents, step s = exec c { s with tieCount := s.tieCount + 1 })

/-! ## Resets and loads -/

/-- CHIP_RESET and CHIP_RESET_RELEASE, from every state: every block at its chip-reset values, the timebase at 0, the loader begun
at 0 with its result NOLOAD and counts 0, the reply NOT_READY with length 0; while the input is asserted nothing is acknowledged,
the straps hold and every lane is in bypass; at the release the straps are latched, the address 0x38 + ADDR is acknowledged, and
the debouncer of each followed slot restarts from its raw input (R2, R3, R45, R158, R165, R167, R170). The input levels are those
of the pins (R145). The release with every strap low takes a state whose pins are low and where nothing waits to go upstream to
State.reset. THE MODEL'S CHOICES: that pins and straps are low at State.reset is log entry 1; that a release where the reset input
was not asserted is a power-on and does the same is log entry 11; that the chamber receiver waits for a first mark is log entry 5;
that the sector size is the strapped one from the reset on is log entry 20. -/
def Obligations.ChipResetSetsEveryBlock : Prop :=
  (∀ s : State, s.pending = [] → s.tieCount = 0 → (∀ i, (s.presenceOf i).raw = false) →
    (∀ i, (s.lane i).upstream = []) → s.sort.take = false → s.sort.busy = false → s.sort.fault = false →
    exec (.chipResetRelease lowStraps) s = .next State.reset) ∧
  ∀ (s : State) (straps : Straps), ∃ t u,
    exec .chipReset s = .next t ∧ exec (.chipResetRelease straps) s = .next u ∧
      (∀ v, v = t ∨ v = u → v.blocksReset (fun _ => 0) ∧ v.sectorSize = strappedSize v.straps ∧ v.timebase = 0#32 ∧
        v.loader = .loading .afterReset 0#32 ∧
        v.loaderResult = { source := .noload, stored := 0, skipped := 0, clamped := 0, firstClamped := none } ∧
        v.reply = { status := .notReady, payload := [] } ∧ (∀ i, v.bypassed i = true) ∧
        (∀ i, (v.presenceOf i).raw = (s.presenceOf i).raw) ∧
        (v.sort.take = s.sort.take ∧ v.sort.busy = s.sort.busy ∧ v.sort.fault = s.sort.fault) ∧
        v.pending = s.pending ∧ v.tieCount = s.tieCount) ∧
      (t.inReset = true ∧ t.straps = s.straps ∧ (∀ a, t.acknowledges a = false) ∧
        ∀ i, (t.presenceOf i).interval = none) ∧
      (u.inReset = false ∧ u.straps = straps ∧ (∀ a, u.acknowledges a = true ↔ a = 0x38#7 + straps.addr.setWidth 7) ∧
        ∀ i, (u.presenceOf i).interval =
          if (s.presenceOf i).raw = true ∧ ¬(straps.slots4 = true ∧ 4 ≤ i.val) then some 0#32 else none)

/-- SOFT_RESET outside a load: what the chip reset sets, but for the latched straps, the shipped counters, the timebase and the loader
result, which are kept, and the sector size in force, which changes only at READY; the reply is OK with length 0 and the loader begins
(R2, R167, R170, Table 11-4). PROFILE_RELOAD: BUSY unless every slot is EMPTY or IDLE; taken, the loader begins, every lane is in bypass
with its entries forgotten and its pending list empty, the character and the frame in progress are discarded with LINE_BREAK as it was,
and everything else is kept, the sector size among it (R40, R45, R119, R167, R169). Of all commands only PROFILE_READY, and by log entry
20 the two rows of the chip reset, change the sector size in force (R167). THE MODEL'S CHOICE, log entry 5: that the chamber receiver, out
of a break, waits for a first mark after both, also where the line was at mark. -/
def Obligations.SoftResetAndProfileReload : Prop :=
  (∀ (c : Instr) (s t : State), c ≠ .chipReset → (∀ straps, c ≠ .chipResetRelease straps) →
    (∀ eeprom, c ≠ .profileReady eeprom) → exec c s = .next t → t.sectorSize = s.sectorSize) ∧
  ∀ s : State, s.ready →
    (∃ t, exec (.softReset []) s = .next t ∧ t.blocksReset (fun i => (s.slot i).shipped) ∧
      t.reply = { status := .ok, payload := [] } ∧ t.loader = .loading .afterReset s.timebase ∧
      (t.straps = s.straps ∧ t.timebase = s.timebase ∧ t.loaderResult = s.loaderResult ∧ t.inReset = false ∧
        t.sectorSize = s.sectorSize) ∧
      (∀ i, (t.presenceOf i).raw = (s.presenceOf i).raw ∧ (t.presenceOf i).interval =
        if (s.presenceOf i).raw = true ∧ ¬(s.straps.slots4 = true ∧ 4 ≤ i.val) then some s.timebase else none) ∧
      (t.sort.take = s.sort.take ∧ t.sort.busy = s.sort.busy ∧ t.sort.fault = s.sort.fault) ∧
      t.pending = s.pending ∧ t.tieCount = s.tieCount) ∧
    ((∀ i, (s.slot i).phase = .empty ∨ (s.slot i).phase = .idle) →
      ∃ t, exec (.profileReload []) s = .next t ∧
        (∀ i, t.bypassed i = true ∧ (∀ e, (t.lane i).entry e = none) ∧ (t.lane i).position = none ∧
          (t.lane i).sector = none ∧ (t.lane i).upstream = []) ∧
        t = { s with
          loader := .loading .reload s.timebase
          lanes := t.lanes
          chamber := { s.chamber with
            frame := none, receiver := if s.chamber.receiver = .inBreak then .inBreak else .waiting false }
          reply := { status := .ok, payload := [] } }) ∧
    ((∃ i, (s.slot i).phase ≠ .empty ∧ (s.slot i).phase ≠ .idle) →
      exec (.profileReload []) s = .next { s with reply := { status := .busy, payload := [] } })

/-- PROFILE_READY of a load whose source is not a valid image, the source found by the tests of R166 in their order: every item takes its
built-in value and the sector size the latched strap's, the cap raised to the largest extent count; the part is READY with LOADER_DONE
set. After a reset the stale timer and the soak tick timer start, the built-in H1 is in effect, the filters are zero and every record OFF;
a reload keeps the capture unit, the chamber unit, the mask and the soak tick timer; that the H1 in effect stays then too, until the next
completed frame, is log entry 19. With a valid image of one ranged item, the item is stored clamped to its range and counted as such, and
every other number takes its built-in value (R59, R79, R101, R115, R119, R163, R166, R167, R169). -/
def Obligations.ProfileReadyStoresProfile : Prop :=
  (∀ (s : State) (kind : LoadKind) (began : Time) (eeprom : Option (List Byte)) (src : LoadSource),
    s.inReset = false → s.loader = .loading kind began → noImage s.straps.noload eeprom src →
      ∃ t, exec (.profileReady eeprom) s = .next t ∧ t.loader = .ready ∧
        (t.loaderResult.source = src ∧ t.loaderResult.stored = 0 ∧ t.loaderResult.skipped = 0) ∧
        t.profile = { Profile.builtIn with defectCap := max 64 s.largestCount } ∧
        t.sectorSize = (if s.straps.sect4k then .s4096 else .s512) ∧
        t.windows = Vector.replicate 16 Window.builtIn ∧ t.patternTable = [] ∧
        t.alerts = s.alerts ||| (1#17 <<< 8) ∧
        (kind = .afterReset → t.soakTimer = some s.timebase ∧
          t.chamber = { s.chamber with staleTimer := some s.timebase, h1InEffect := 156 } ∧
          t.alertMask = BitVec.allOnes 17 ∧
          ∃ records, (∀ n : Fin 16, records[n] = CaptureRecord.initial) ∧
            t.capture = { s.capture with records := records }) ∧
        (kind = .reload → t.soakTimer = s.soakTimer ∧ t.chamber = s.chamber ∧ t.alertMask = s.alertMask ∧
          t.capture = s.capture) ∧
        t = { s with
          loader := t.loader, loaderResult := t.loaderResult, profile := t.profile, sectorSize := t.sectorSize
          windows := t.windows, patternTable := t.patternTable, alerts := t.alerts, soakTimer := t.soakTimer
          chamber := t.chamber, alertMask := t.alertMask, capture := t.capture }) ∧
  ∀ (s : State) (kind : LoadKind) (began : Time) (code lo hi n v : Nat), s.inReset = false →
    s.loader = .loading kind began → s.straps.noload = false → s.largestCount ≤ 64 → (code, lo, hi) ∈ rangeItems →
    itemSize code = some n → v < 256 ^ n →
      ∃ t, exec (.profileReady (some (encodeImage [{ code := code, data := le n v }]))) s = .next t ∧ t.loader = .ready ∧
        t.loaderResult = { source := .eeprom, stored := 1, skipped := 0
                           clamped := if lo ≤ v ∧ v ≤ hi then 0 else 1
                           firstClamped := if lo ≤ v ∧ v ≤ hi then none else some code } ∧
        t.profile.number code = max lo (min v hi) ∧
        (∀ other ∈ numberCodes, other ≠ code → t.profile.number other = Profile.builtIn.number other) ∧
        t.alertSet .loaderDone = true

/-- What PROFILE_READY stores of an image that supplies one item, the others at their built-in values (the numbers:
ProfileReadyStoresProfile): the sector size, 512 or 4096, else the strapped one; a window clamped as R47 says, the built-in one where a
code names no value; the words of a pattern table range; a capture filter and the alert mask, after a reset only; the knot table, built-in
as a whole where its knots do not rise or pass 250; H1 below H2, in effect at READY after a reset (R119) and after a reload not before the
next completed frame (R112; that a reload's change waits so too is log entry 19); the thresholds in order; the cap raised to the largest
extent count. Of two items with one code the later stands (R47, R59, R79, R101, R112, R113, R130, R163, R167, Table 12-10). -/
def Obligations.ProfileImageItemsStored : Prop :=
  ∀ (s : State) (kind : LoadKind) (began : Time), s.inReset = false → s.loader = .loading kind began →
    s.straps.noload = false →
    let loads (items : List ProfileItem) (holds : State → Prop) : Prop :=
      ∃ t, exec (.profileReady (some (encodeImage items))) s = .next t ∧ t.loader = .ready ∧
        t.loaderResult.source = .eeprom ∧ holds t
    (∀ v, v < 65536 → loads [⟨0x0001, le 2 v⟩] fun t =>
      t.sectorSize = if v = 512 then .s512 else if v = 4096 then .s4096 else if s.straps.sect4k then .s4096 else .s512) ∧
    (∀ (n : Fin 16) (en mask an ac ki fill : Byte) (base len start tlen : Nat), base < 2 ^ 48 → len < 2 ^ 48 →
      start < 65536 → tlen < 65536 →
      loads [⟨0x0100 + n.val, [en, mask, an, ac, ki, fill] ++ le 6 base ++ le 6 len ++ le 2 start ++ le 2 tlen⟩] fun t =>
        let valid := an.toNat ≤ 1 ∧ ac.toNat ≤ 3 ∧ ki.toNat ≤ 2
        ∃ w : Window, t.windows = (Vector.replicate 16 Window.builtIn).set n w ∧ (¬valid → w = Window.builtIn) ∧
          (valid → w.enabled = (en != 0#8) ∧ w.mask = mask ∧ w.anchor.code = an.toNat ∧ w.action.code = ac.toNat ∧
            w.kind.code = ki.toNat ∧ w.fill = fill ∧ w.base = base ∧ w.length = max 1 len ∧
            w.tableStart = min start 1023 ∧ w.tableLength = min (max 1 (min tlen 1024)) (1024 - min start 1023))) ∧
    (∀ (index : Nat) (words : List Word32), 1 ≤ words.length → words.length ≤ 63 → index + words.length ≤ 1024 →
      loads [⟨0x0300, le 2 index ++ words.flatMap (fun x => le 4 x.toNat)⟩] fun t =>
        (∀ (k : Nat) (x : Word32), words[k]? = some x → readTableWord t.patternTable (index + k) = x) ∧
        ∀ w, w < index ∨ index + words.length ≤ w → readTableWord t.patternTable w = 0#32) ∧
    (∀ (n : Fin 16) (slots kinds : Byte), loads [⟨0x0200 + n.val, [slots, kinds]⟩] fun t =>
      (kind = .reload → t.capture = s.capture) ∧
      (kind = .afterReset → t.capture = { s.capture with
        records := (Vector.replicate 16 CaptureRecord.initial).set n
          { slotMask := slots, kindMask := kinds.setWidth 6, arrivals := 0
            state := if slots = 0#8 ∧ kinds.setWidth 6 = 0#6 then .off else .empty } })) ∧
    (∀ v, v < 16777216 → loads [⟨0x0002, le 3 v⟩] fun t =>
      (kind = .reload → t.alertMask = s.alertMask) ∧ (kind = .afterReset → t.alertMask = BitVec.ofNat 17 v)) ∧
    (∀ (knots : Vector Byte 9) (factors : Vector Nat 9), (∀ i : Fin 9, factors[i] < 65536) →
      loads [⟨0x0020, knots.toList ++ factors.toList.flatMap (le 2)⟩] fun t =>
        let rise := (∀ i : Fin 8, knots[i.castSucc].toNat < knots[i.succ].toNat) ∧ knots[8].toNat ≤ 250
        (rise → ∀ i : Fin 9, t.profile.knots[i] = knots[i].toNat ∧ t.profile.factors[i] = min factors[i] 4095) ∧
        (¬rise → t.profile.knots = builtInKnots ∧ t.profile.factors = builtInFactors)) ∧
    (∀ a b : Byte, loads [⟨0x000B, [a]⟩, ⟨0x000C, [b]⟩] fun t =>
      t.profile.h2 = max 1 (min b.toNat 250) ∧ t.profile.h1 = min (min a.toNat 249) (t.profile.h2 - 1) ∧
      t.chamber.h1InEffect = if kind = .afterReset then t.profile.h1 else s.chamber.h1InEffect) ∧
    (∀ b1 b2 b3 : Nat, b1 < 2 ^ 32 → b2 < 2 ^ 32 → b3 < 2 ^ 32 →
      loads [⟨0x0018, le 4 b1⟩, ⟨0x0019, le 4 b2⟩, ⟨0x001A, le 4 b3⟩] fun t =>
        t.profile.grading = { GradingItems.builtIn with b1 := b1, b2 := max b1 b2, b3 := max (max b1 b2) b3 }) ∧
    (∀ v, v < 65536 → loads [⟨0x0008, le 2 v⟩] fun t =>
      t.profile.defectCap = max (max 1 (min v 512)) s.largestCount) ∧
    ∀ x y : ProfileItem, x.code = y.code → x.taken = true → y.taken = true →
      (x.code = 0x0300 → x.data.take 2 = y.data.take 2 ∧ x.data.length = y.data.length) →
      loads [x, y] fun t => ∃ u, exec (.profileReady (some (encodeImage [y]))) s = .next u ∧
        t = { u with loaderResult := t.loaderResult }

/-- THE HEADLINE OF THE PROFILE IMAGE: the loader reads back exactly the items an image was written with, whatever bytes follow
it in the EEPROM (R166, R173: signature, length, CRC-16, items that fill the space). -/
def Obligations.ProfileImageRoundTrip : Prop :=
  ∀ (items : List ProfileItem) (extra : List Byte), (∀ x ∈ items, x.code < 65536 ∧ x.data.length < 256) →
    8 + (encodeItems items).length ≤ 8192 → loadImage false (some (encodeImage items ++ extra)) = (.eeprom, items)

/-! ## PROFILE_SET -/

/-- PROFILE_SET of an item with a fixed range: the value clamped to the range is stored and returned, no other number of the
profile changes, and for the items with no effect at once nothing else of the part changes (R168, R172, Table 11-3). -/
def Obligations.ProfileSetClampsToRange : Prop :=
  ∀ (s : State) (code lo hi v : Nat), s.ready → (code, lo, hi) ∈ rangeItems → v < 4294967296 →
    ∃ t, exec (.profileSet (le 2 code ++ le 4 v)) s = .next t ∧ t.profile.number code = max lo (min v hi) ∧
      t.reply = { status := .ok, payload := le 4 (max lo (min v hi)) } ∧
      (∀ other ∈ numberCodes, other ≠ code → t.profile.number other = s.profile.number other) ∧
      (code ∉ [0x0003, 0x0009, 0x000A, 0x000D] → t = { s with profile := t.profile, reply := t.reply })

/-- PROFILE_SET of an item that is ordered against others, clamped against its neighbours as they stand: H1, H2 (R112), the
thresholds (R130), a knot (R113); of a factor (R113), of the cap, raised to the largest extent count (R79), of STRICT_SOAK (R172).
The stored value is returned and nothing else changes, the H1 in effect among it, which the next completed frame changes (R112, R168). -/
def Obligations.ProfileSetKeepsOrder : Prop :=
  ∀ (s : State) (v : Nat), s.ready → v < 4294967296 →
    let stores (code stored : Nat) (p : Profile) : Prop :=
      exec (.profileSet (le 2 code ++ le 4 v)) s =
        .next { s with profile := p, reply := { status := .ok, payload := le 4 stored } }
    let p := s.profile
    let g := p.grading
    stores 0x000B (min v (p.h2 - 1)) { p with h1 := min v (p.h2 - 1) } ∧
      stores 0x000C (max (p.h1 + 1) (min v 250)) { p with h2 := max (p.h1 + 1) (min v 250) } ∧
      stores 0x0018 (min v g.b2) { p with grading := { g with b1 := min v g.b2 } } ∧
      stores 0x0019 (max g.b1 (min v g.b3)) { p with grading := { g with b2 := max g.b1 (min v g.b3) } } ∧
      stores 0x001A (max g.b2 v) { p with grading := { g with b3 := max g.b2 v } } ∧
      stores 0x001C (if v = 0 then 0 else 1) { p with grading := { g with strictSoak := v != 0 } } ∧
      stores 0x0008 (max (max 1 (min v 512)) s.largestCount)
        { p with defectCap := max (max 1 (min v 512)) s.largestCount } ∧
      (∀ i : Fin 9, stores (0x0031 + i.val) (min v 4095) { p with factors := p.factors.set i (min v 4095) }) ∧
      ∀ i : Fin 9,
        let lower := if i.val = 0 then 0 else p.knots.toList.getD (i.val - 1) 0 + 1
        let upper := if i.val = 8 then 250 else p.knots.toList.getD (i.val + 1) 0 - 1
        stores (0x0021 + i.val) (max lower (min v upper)) { p with knots := p.knots.set i (max lower (min v upper)) }

/-- What a PROFILE_SET causes at once (R168): a lowered command timeout makes LATE every OPEN timed entry whose age reaches it and
no other, and leaves none that is due; in a phase that counts each adds one to timeouts, or to ship_bad where it was issued in SHIP,
and raises a TIMEOUT event, and the slot records, the capture unit and the alert flags change in nothing else (R26, R37); the order
of the events, by slot and entry, is the model's choice (log entry 7). A timeout that is not lowered changes only the item. A lowered
stale timeout expires the running timer it reaches (R110); a lowered offer timeout stalls the offer it reaches (R140); a new divisor
discards the character, the held-back character and the frame in progress, LINE_BREAK as it was (R119); that the receiver then waits
for a mark is log entry 5. -/
def Obligations.ProfileSetActsAtOnce : Prop :=
  ∀ (s : State) (v : Nat), s.ready → v < 4294967296 →
    let timeout := max 1 (min v 60000)
    let reached (i : SlotId) (x : TagEntry) : Bool :=
      !s.bypassed i && !x.late && (x.issuePhase == .burn || x.issuePhase == .scan || x.issuePhase == .ship) &&
        timeout * 1000 ≤ s.elapsed x.issueTime
    let number (i : SlotId) (test : TagEntry → Bool) : Nat :=
      allEntries.countP (fun e => ((s.lane i).entry e).any (fun x => reached i x && test x))
    let raised (n by' : Nat) : Nat := if by' = 0 then n else min (n + by') 65535
    let counts (i : SlotId) : Prop := (s.slot i).phase ≠ .empty ∧ (s.slot i).phase ≠ .idle
    let event (i : SlotId) (e : EntryId) (x : TagEntry) : CaptureEvent :=
      { slot := i, tag := e, lba := x.lba, time := s.timebase
        detail := .timeout x.cls x.count x.done x.errorSectors }
    let events : List CaptureEvent :=
      allSlots.flatMap (fun i =>
        if (s.slot i).phase.name = .empty ∨ (s.slot i).phase.name = .idle then []
        else allEntries.filterMap (fun e => (((s.lane i).entry e).filter (reached i)).map (event i e)))
    (timeout < s.profile.commandTimeout →
      ∃ t, exec (.profileSet (le 2 0x0003 ++ le 4 v)) s = .next t ∧ t.reply = { status := .ok, payload := le 4 timeout } ∧
        (∀ (i : SlotId) (e : EntryId), t.timeoutDue i e = false ∧
          (t.lane i).entry e = ((s.lane i).entry e).map (fun x => if reached i x then { x with late := true } else x)) ∧
        (∀ i, t.lane i = { s.lane i with tags := (t.lane i).tags }) ∧
        (∀ i, counts i → t.slot i = { s.slot i with
          counters := { (s.slot i).counters with
            timeouts := raised (s.slot i).counters.timeouts (number i (fun x => x.issuePhase != .ship)) }
          ship := { (s.slot i).ship with
            bad := raised (s.slot i).ship.bad (number i (fun x => x.issuePhase == .ship)) } }) ∧
        (∀ i, ¬counts i → t.slot i = s.slot i) ∧
        (t.capture, t.alerts) = events.foldl delivered (s.capture, s.alerts) ∧
        t = { s with
          profile := { s.profile with commandTimeout := timeout }, lanes := t.lanes, slots := t.slots
          capture := t.capture, alerts := t.alerts, reply := t.reply }) ∧
      (s.profile.commandTimeout ≤ timeout → exec (.profileSet (le 2 0x0003 ++ le 4 v)) s = .next { s with
        profile := { s.profile with commandTimeout := timeout }, reply := { status := .ok, payload := le 4 timeout } }) ∧
      (∃ t, exec (.profileSet (le 2 0x0009 ++ le 4 v)) s = .next t ∧ t.reply.status = .ok ∧
        t = { s with
          profile := { s.profile with divisor := min v 4095 }, reply := t.reply
          chamber := { s.chamber with
            frame := none
            receiver := match s.chamber.receiver with
              | .waiting mark => .waiting mark
              | .character _ _ _ => .waiting false
              | .heldBack _ _ => .waiting false
              | .inBreak => .inBreak } }) ∧
      (∃ t, exec (.profileSet (le 2 0x000A ++ le 4 v)) s = .next t ∧ t.reply.status = .ok ∧
        t.profile = { s.profile with staleTimeout := max 1 (min v 60) } ∧
        ((∃ began, s.chamber.staleTimer = some began ∧ max 1 (min v 60) * 1000000 ≤ s.elapsed began) →
          t = { s with
            profile := t.profile, reply := t.reply, alerts := s.alerts ||| (1#17 <<< 3)
            chamber := { s.chamber with fresh := false, staleTimer := none } }) ∧
        ((∀ began, s.chamber.staleTimer = some began → s.elapsed began < max 1 (min v 60) * 1000000) →
          t = { s with profile := t.profile, reply := t.reply })) ∧
      ∃ t, exec (.profileSet (le 2 0x000D ++ le 4 v)) s = .next t ∧ t.reply.status = .ok ∧
        t.profile = { s.profile with offerTimeout := max 1 (min v 255) } ∧
        ((∃ began, s.sort.handshake = .offer began ∧ max 1 (min v 255) * 1000000 ≤ s.elapsed began) →
          t = { s with
            profile := t.profile, reply := t.reply, alerts := s.alerts ||| (1#17 <<< 5)
            sort := { s.sort with handshake := .stalled } }) ∧
        ((∀ began, s.sort.handshake = .offer began → s.elapsed began < max 1 (min v 255) * 1000000) →
          t = { s with profile := t.profile, reply := t.reply })

/-- PROFILE_SET of the remaining codes (R168, R172): a code that Table 12-10 does not give answers RANGE; the sector size, the
windows, the whole knot table and the pattern table range answer REFUSED; the alert mask item replaces the mask with bits 0 to 16
of the value; a capture filter item does to the part what CAPTURE_SET does, kind mask bits beyond the six cleared. -/
def Obligations.ProfileSetOtherCodes : Prop :=
  ∀ (s : State) (v : Nat), s.ready → v < 4294967296 →
    (∀ code, code < 65536 → code ∉ knownCodes →
      exec (.profileSet (le 2 code ++ le 4 v)) s = .next { s with reply := { status := .range, payload := [] } }) ∧
    (∀ code ∈ [0x0001, 0x0020, 0x0300] ++ (List.range 16).map (0x0100 + ·),
      exec (.profileSet (le 2 code ++ le 4 v)) s = .next { s with reply := { status := .refused, payload := [] } }) ∧
    exec (.profileSet (le 2 0x0002 ++ le 4 v)) s =
      .next { s with alertMask := BitVec.ofNat 17 v, reply := { status := .ok, payload := le 4 (v % 131072) } } ∧
    ∀ n : Fin 16, ∃ t u, exec (.profileSet (le 2 (0x0200 + n.val) ++ le 4 v)) s = .next t ∧
      exec (.captureSet [sixteenByte n, BitVec.ofNat 8 v, BitVec.ofNat 8 (v / 256 % 64)]) s = .next u ∧
      t = { u with reply := { status := .ok, payload := le 1 v ++ le 1 (v / 256 % 64) ++ le 2 0 } }

/-! ## Management transactions -/

/-- The first checks of every management command, in order (R159, R172): while the loader is running every command but STATUS, an unknown
byte included, answers NOT_READY; outside a load a byte that names no command answers UNKNOWN, and a command with a wrong number of
argument bytes answers RANGE, TABLE_WRITE with k outside 1 to 15 or another total than 3 + 4k. Nothing else changes. And whatever a
management command answers other than OK, it has no effect but the reply, whose payload is empty. -/
def Obligations.ManagementChecksInOrder : Prop :=
  (∀ (c : Instr) (s : State) (code : Byte) (args : List Byte), s.inReset = false → c.wf = true →
    encodeTransaction c = some (code :: args) →
    let only (st : Status) : Prop := exec c s = .next { s with reply := { status := st, payload := [] } }
    (s.loader ≠ .ready → c ≠ .status args → only .notReady) ∧
    (s.loader = .ready → c = .unknownCommand code args → only .unknown) ∧
    (s.loader = .ready → ∀ n, commandArity code.toNat = some n → args.length ≠ n → only .range) ∧
    (s.loader = .ready → c = .tableWrite args →
      (args.length < 3 ∨ (args.getD 2 0#8).toNat < 1 ∨ 15 < (args.getD 2 0#8).toNat ∨
        args.length ≠ 3 + 4 * (args.getD 2 0#8).toNat) → only .range)) ∧
  ∀ (c : Instr) (s t : State) (bytes : List Byte), s.inReset = false → encodeTransaction c = some bytes →
    exec c s = .next t → t.reply.status ≠ .ok → t = { s with reply := { status := t.reply.status, payload := [] } }

/-- Write transactions and commands stand for each other: the transaction of every well-formed management command decodes to it,
and every transaction of at least one byte is the transaction of the command it decodes to, which is well formed (R158, R159,
Table 12-2). An OK reply has the payload length Table 12-2 gives its command, DEFECT_READ 10 + 16m bytes with m from 0 to 3 (R172).
A read transaction returns the status byte, the length byte, the payload, then 0x00 (R158). -/
def Obligations.TransactionsAndReplies : Prop :=
  ((∀ i : Instr, Sys2Proof.Laws.RoundTrip.Statement i) ∧
    ∀ (code : Byte) (args : List Byte), ∃ i, decodeTransaction (code :: args) = some i ∧ i.wf = true ∧
      encodeTransaction i = some (code :: args)) ∧
  (∀ (c : Instr) (s t : State) (code : Byte) (args : List Byte), s.inReset = false → c.wf = true →
    encodeTransaction c = some (code :: args) → exec c s = .next t → t.reply.status = .ok →
    (∀ n, okLength code.toNat = some n → t.reply.payload.length = n) ∧
      (c = .defectRead args → ∃ m, m ≤ 3 ∧ t.reply.payload.length = 10 + 16 * m)) ∧
  ∀ (s : State) (k : Nat), s.readTransaction (2 + s.reply.payload.length + k) =
    s.reply.status.code :: BitVec.ofNat 8 s.reply.payload.length :: s.reply.payload ++ List.replicate k 0#8

/-! ## Queries -/

/-- STATUS with no argument byte, also during a load: OK, nothing else changes, and every field of Table 12-4 stands at its offset
(R160, R146, R171). -/
def Obligations.StatusReply : Prop :=
  ∀ s : State, s.inReset = false → ∃ t, exec (.status []) s = .next t ∧ t = { s with reply := t.reply } ∧
    t.reply.status = .ok ∧
    let p := t.reply.payload
    hasField p 0 (le 1 (bit (s.loader == .ready))) ∧
      (hasField p 1 (le 1 s.loaderResult.source.code) ∧ hasField p 2 (le 2 s.loaderResult.stored) ∧
        hasField p 4 (le 1 (min s.loaderResult.skipped 255)) ∧ hasField p 5 (le 1 s.loaderResult.clamped) ∧
        hasField p 6 (le 2 (s.loaderResult.firstClamped.getD 65535))) ∧
      hasField p 8 (le 1
        (s.straps.addr.toNat + 8 * bit s.straps.slots4 + 16 * bit s.straps.noload + 32 * bit s.straps.sect4k)) ∧
      hasField p 9 (le 1 (bit (s.sectorSize == .s4096))) ∧ hasField p 10 (le 4 s.timebase.toNat) ∧
      hasField p 14 (le 3 s.alerts.toNat) ∧ hasField p 17 (le 2 s.freeExtents) ∧
      (hasField p 19 (le 1 ((s.capture.openRecord.map (·.val)).getD 255)) ∧
        hasField p 20 (le 1 ((s.capture.locked.map (·.val)).getD 255)) ∧
        hasField p 21 (le 1 ((s.capture.staging.map (·.aim.val)).getD 255)) ∧
        hasField p 22 (le 2 s.capture.stagedLost) ∧ hasField p 24 (le 2 s.capture.unmatched)) ∧
      (hasField p 26 (le 1 (bit s.chamber.frame.isSome + 2 * bit s.chamber.lineBreak + 4 * bit (!s.chamber.fresh))) ∧
        hasField p 27 [s.chamber.status] ∧ hasField p 28 (le 1 ((s.chamber.prevSeq.map BitVec.toNat).getD 255)) ∧
        hasField p 29 (le 2 s.chamber.lineErrors) ∧ hasField p 31 (le 2 s.chamber.seqGaps) ∧
        hasField p 33 (le 2 s.chamber.breaks) ∧ hasField p 35 (le 4 s.chamber.framesTaken)) ∧
      (hasField p 39 (le 1 s.gradeQueue.length) ∧
        (∀ k < 8, hasField p (40 + k) (le 1 ((s.gradeQueue[k]?.map (·.val)).getD 255))) ∧
        hasField p 48 (le 1 (bit s.engine.isSome)) ∧
        hasField p 49 (le 1 ((s.engine.map (·.slot.val)).getD 255)) ∧
        hasField p 50 (le 1 (bit ((s.engine.map (·.void)).getD false)))) ∧
      (hasField p 51 (le 1 s.sort.handshake.code) ∧ hasField p 52 (le 1 s.sort.queue.length) ∧
        (∀ k < 8, hasField p (53 + k)
          (le 1 ((s.sort.queue[k]?.map (fun n => n.slot.val + 16 * binCode n.bin)).getD 255))) ∧
        hasField p 61 (le 1 (bit s.sort.take + 2 * bit s.sort.busy + 4 * bit s.sort.fault)))

/-- SLOT_STATUS of a slot, in every phase: OK, nothing else changes, and every field of Table 12-5 stands at its offset (R161,
R75, R157, R171). For a slot above 7 it answers RANGE. -/
def Obligations.SlotStatusReply : Prop :=
  (∀ (s : State) (b : Byte), s.ready → 8 ≤ b.toNat →
    exec (.slotStatus [b]) s = .next { s with reply := { status := .range, payload := [] } }) ∧
  ∀ (s : State) (i : SlotId), s.ready → ∃ t, exec (.slotStatus [slotByte i]) s = .next t ∧
    t = { s with reply := t.reply } ∧ t.reply.status = .ok ∧
    let p := t.reply.payload
    let r := s.slot i
    let n := (64 + 16 * r.defects.extents.length + 4 + (s.sectorSize.bytes - 1)) / s.sectorSize.bytes
    hasField p 0 (le 1 r.phase.name.code) ∧
      (∀ prior m th, r.phase = .hold prior m th →
        hasField p 1 (le 1 prior.phase.name.code) ∧ hasField p 2 (le 1 (bit m + 2 * bit th))) ∧
      (r.phase.name ≠ .hold → hasField p 1 [0xFF#8, 0#8]) ∧
      hasField p 3 (le 1 (bit r.orphaned + 2 * bit r.sorted + 4 * bit (s.presenceOf i).debounced +
        8 * bit r.identity.valid)) ∧
      hasField p 4 r.identity.serial.toList ∧ hasField p 24 (le 6 r.identity.capacity) ∧ hasField p 30 (le 2 r.pass) ∧
      (s.chamber.fresh = false → hasField p 32 [254#8]) ∧
      (s.chamber.fresh = true →
        (∀ h, s.chamber.readings[i] = .valid h → hasField p 32 (le 1 h)) ∧
        (s.chamber.readings[i] = .fault → hasField p 32 [251#8]) ∧
        (s.chamber.readings[i] = .none → hasField p 32 [255#8])) ∧
      hasField p 33 (le 1 (allEntries.countP (fun e => ((s.lane i).entry e).any (fun x => !x.late)))) ∧
      hasField p 34 (le 1 (allEntries.countP (fun e => ((s.lane i).entry e).any (fun x => x.late)))) ∧
      (r.grade = none → hasField p 35 (le 6 0)) ∧
      (∀ g, r.grade = some g → hasField p 35 (le 1 g.bin.code) ∧ hasField p 36 (le 1 g.reason.code) ∧
        hasField p 37 (le 4 g.score)) ∧
      hasField p 41 (le 1 n) ∧ hasField p 42 (le 3 (r.ship.written.toNat % 2 ^ n)) ∧
      hasField p 45 (le 3 (r.ship.verified.toNat % 2 ^ n)) ∧ hasField p 48 (le 4 r.ship.filled) ∧
      hasField p 52 (le 4 r.ship.verifiedFill) ∧ hasField p 56 (le 2 r.ship.bad) ∧ hasField p 58 [r.ship.padByte] ∧
      hasField p 59 (le 2 r.shipped)

/-- SLOT_COUNTERS, HISTOGRAM and DEFECT_READ of a slot, in every phase: OK, nothing else changes, and every field stands at its
offset (R87, R118, R162, R172, Table 12-6, Table 12-7). For a slot above 7, and DEFECT_READ for an index above 511, they answer
RANGE. -/
def Obligations.CountersHistogramDefectReplies : Prop :=
  (∀ s : State, s.ready →
    let range (c : Instr) : Prop := exec c s = .next { s with reply := { status := .range, payload := [] } }
    (∀ b : Byte, 8 ≤ b.toNat → range (.slotCounters [b]) ∧ range (.histogram [b]) ∧
      ∀ index : Nat, range (.defectRead (b :: le 2 index))) ∧
    ∀ (b : Byte) (index : Nat), 511 < index → index < 65536 → range (.defectRead (b :: le 2 index))) ∧
  ∀ (s : State) (i : SlotId), s.ready →
    let r := s.slot i
    (∃ t, exec (.slotCounters [slotByte i]) s = .next t ∧ t = { s with reply := t.reply } ∧ t.reply.status = .ok ∧
      let p := t.reply.payload
      hasField p 0 (le 4 r.seed.toNat ++ le 4 r.counters.writtenSectors ++ le 4 r.counters.checkedSectors) ∧
        hasField p 12 (le 2 r.counters.stale ++ le 2 r.counters.slip ++ le 2 r.counters.corrupt ++
          le 2 r.counters.media ++ le 2 r.counters.timeouts ++ le 2 r.counters.late) ∧
        hasField p 24 (le 2 r.counters.aborted ++ le 2 r.counters.abandoned ++ le 2 r.counters.withheld ++
          le 2 r.counters.anomalies) ∧
        hasField p 32 (le 4 r.soak.a ++ le 2 r.soak.target ++ le 4 r.soak.burnSeconds ++ le 4 r.soak.staleSeconds) ∧
        hasField p 46 (le 4 r.soak.chamberOffSeconds ++ le 4 r.soak.coldSeconds ++ le 4 r.soak.excursionSeconds ++
          le 4 r.soak.heldSeconds ++ le 1 r.soak.maxH)) ∧
    (∃ t, exec (.histogram [slotByte i]) s = .next t ∧ t = { s with reply := t.reply } ∧ t.reply.status = .ok ∧
      let p := t.reply.payload
      (∀ b : Fin 16, hasField p (2 * b.val) (le 2 r.latency.histogram[b])) ∧
        hasField p 32 (le 2 r.latency.slowCount ++ le 4 r.latency.maxLatency ++ le 2 s.profile.latencyBase ++
          le 1 s.profile.slowBucket)) ∧
    ∀ index : Nat, index ≤ 511 →
      ∃ t, exec (.defectRead (slotByte i :: le 2 index)) s = .next t ∧ t = { s with reply := t.reply } ∧
        t.reply.status = .ok ∧
        let p := t.reply.payload
        let shown := (r.defects.extents.drop index).take 3
        hasField p 0 (le 2 r.defects.extents.length ++ le 4 r.defects.sectors ++ le 2 r.defects.unrecorded ++
          le 1 (bit r.defects.truncated) ++ le 1 shown.length) ∧
        (∀ (k : Nat) (x : Extent), shown[k]? = some x → hasField p (10 + 16 * k)
          (le 6 x.start ++ le 2 x.length ++ le 1 (bit x.corrupt + 2 * bit x.media) ++ le 1 x.hits ++ le 2 x.firstPass ++
            le 4 0)) ∧
        p.length = 10 + 16 * shown.length

/-! ## Alerts -/

/-- The alert commands outside a load: ALERT_READ returns the 17 flags and the 17 mask bits and changes nothing; ALERT_ACK clears the
flags named in bits 0 to 16 of its set and no other; ALERT_MASK replaces the mask; nothing else changes. The alert output is
asserted exactly while some flag is set whose mask bit is set (R163, R164, R171). -/
def Obligations.AlertCommandsAndOutput : Prop :=
  (∀ (s : State) (named : Nat), s.ready → named < 16777216 →
    exec (.alertRead []) s =
        .next { s with reply := { status := .ok, payload := le 3 s.alerts.toNat ++ le 3 s.alertMask.toNat } } ∧
      (∃ t, exec (.alertAck (le 3 named)) s = .next t ∧
        t = { s with alerts := t.alerts, reply := { status := .ok, payload := [] } } ∧
        ∀ f : AlertFlag, t.alertSet f = (s.alertSet f && !named.testBit f.bit)) ∧
      ∃ t, exec (.alertMask (le 3 named)) s = .next t ∧
        t = { s with alertMask := t.alertMask, reply := { status := .ok, payload := [] } } ∧
        ∀ f : AlertFlag, t.alertMask.getLsbD f.bit = named.testBit f.bit) ∧
  ∀ s : State, s.alertOutput = true ↔ ∃ f : AlertFlag, s.alertSet f = true ∧ s.alertMask.getLsbD f.bit = true

/-! ## Phase commands -/

/-- START in IDLE with ORPHANED clear and valid identity: the slot's extents go back to the pool and its record takes the START
column of Table 1-3, with the seed given, pass 1 and G, 0 taken as 1; nothing else changes (R2, R10, R85). CLEAR_SLOT, in every
phase: the record takes the slot-clear column, the lane's entries, position and sector in progress are gone and nothing is
counted, the grade queue and the sort queue hold the slot no more, an offer of its notice falls and the next head may be offered, a
computation for it is void, its extents are free; other slots,
the other lanes, windows, pattern table, capture unit, chamber unit and alerts are as they were (R2, R8, R41, R85, R122, R126,
R143). -/
def Obligations.StartAndClearSlot : Prop :=
  (∀ (s : State) (i : SlotId) (seed : Word32) (g : Nat), s.ready → g < 65536 → (s.slot i).phase = .idle →
    (s.slot i).orphaned = false → (s.slot i).identity.valid = true →
      exec (.start (slotByte i :: le 4 seed.toNat ++ le 2 g)) s = .next { s with
        slots := s.slots.set i
          { phase := .burn, orphaned := false, sorted := false, identity := (s.slot i).identity, seed := seed, pass := 1
            counters := TestCounters.zero, latency := Latency.zero
            soak := { SoakBlock.withTarget 0 with target := if g = 0 then 1 else g }
            defects := { extents := [], sectors := 0, unrecorded := 0, truncated := false }, grade := none
            ship := { written := 0#17, verified := 0#17, filled := 0, verifiedFill := 0, bad := 0, padByte := 0#8 }
            shipped := (s.slot i).shipped }
        freeExtents := s.freeExtents + (s.slot i).defects.extents.length
        reply := { status := .ok, payload := [] } }) ∧
  ∀ (s : State) (i : SlotId), s.ready → ∃ t, exec (.clearSlot [slotByte i]) s = .next t ∧
    t.reply = { status := .ok, payload := [] } ∧
    t.slot i = { SlotRecord.initial (s.slot i).shipped with
      phase := if (s.presenceOf i).debounced then .idle else .empty
      identity := if (s.presenceOf i).debounced then (s.slot i).identity else Identity.invalid } ∧
    (∀ j, j ≠ i → t.slot j = s.slot j ∧ t.lane j = s.lane j) ∧
    ((∀ e, (t.lane i).entry e = none) ∧ (t.lane i).position = none ∧ (t.lane i).sector = none ∧
      (t.lane i).upstream = (s.lane i).upstream) ∧
    t.gradeQueue = s.gradeQueue.filter (fun j => j ≠ i) ∧
    t.engine = s.engine.map (fun c => if c.slot = i then { c with void := true } else c) ∧
    (let q := s.sort.queue.filter (fun n => n.slot ≠ i)
      let isHead := s.sort.queue.head?.any (fun n => n.slot == i)
      let left : SortPort := { s.sort with
        queue := q
        handshake := match s.sort.handshake with
          | .idle => .idle
          | .offer b => if isHead then .idle else .offer b
          | .release n queued => .release n (queued && !isHead)
          | .stalled => .stalled }
      t.sort =
        if s.sort.queue.any (fun n => n.slot == i) = false then s.sort
        else if left.handshake = .idle ∧ q ≠ [] ∧ left.take = false ∧ left.busy = false ∧ left.fault = false then
          { left with handshake := .offer s.timebase }
        else left) ∧
    t.freeExtents = s.freeExtents + (s.slot i).defects.extents.length ∧
    t = { s with
      slots := t.slots, lanes := t.lanes, gradeQueue := t.gradeQueue, engine := t.engine, sort := t.sort
      freeExtents := t.freeExtents, reply := t.reply }

/-- ADVANCE_PASS in BURN, SCAN or HOLD over either adds one to a pass below 65535 and answers RANGE at 65535 (R11). END_BURN takes
BURN to SCAN, also as the prior phase of HOLD, the causes unchanged (R12). PAUSE enters HOLD with the MANUAL cause, or adds it
(R14). RESUME removes MANUAL and leaves HOLD for the prior phase when no cause is left (R15). Nothing else changes. -/
def Obligations.PassAndHoldCommands : Prop :=
  ∀ (s : State) (i : SlotId), s.ready →
    let ok : Reply := { status := .ok, payload := [] }
    let turned (p : Phase) : State :=
      { s with slots := s.slots.set i { s.slot i with phase := p }, reply := ok }
    ((s.slot i).phase.name = .burn ∨ (s.slot i).phase.name = .scan ∨
        (∃ m th, (s.slot i).phase = .hold .burn m th ∨ (s.slot i).phase = .hold .scan m th) →
      ((s.slot i).pass ≠ 65535 → exec (.advancePass [slotByte i]) s = .next
        { s with slots := s.slots.set i { s.slot i with pass := (s.slot i).pass + 1 }, reply := ok }) ∧
      ((s.slot i).pass = 65535 →
        exec (.advancePass [slotByte i]) s = .next { s with reply := { status := .range, payload := [] } })) ∧
    ((s.slot i).phase = .burn → exec (.endBurn [slotByte i]) s = .next (turned .scan)) ∧
    (∀ m th, (s.slot i).phase = .hold .burn m th →
      exec (.endBurn [slotByte i]) s = .next (turned (.hold .scan m th))) ∧
    (∀ a : ActivePhase, (s.slot i).phase = a.phase →
      exec (.pause [slotByte i]) s = .next (turned (.hold a true false))) ∧
    (∀ a m th, (s.slot i).phase = .hold a m th →
      exec (.pause [slotByte i]) s = .next (turned (.hold a true th)) ∧
        exec (.resume [slotByte i]) s = .next (turned (if th then .hold a false true else a.phase)))

/-- GRADE in SCAN: BUSY with an OPEN or LATE entry, else the phase becomes GRADE_WAIT and the slot joins the tail of the grade queue
(R17, R121). SHIP in GRADED with a bin other than REJECT: BUSY with an open entry, else REFUSED without an enabled RECORD window that
covers the slot, or with a record region, the range of the lowest-numbered one, shorter than n; else the ship state is emptied, the
pad byte latched from the ship fill byte, the phase SHIP (R19, R148, R149). SEAL in SHIP: BUSY with an open entry, else REFUSED
where a record sector is not in both sets or ship_bad is not 0; else SEALED, with a notice of the slot and its bin at the tail of
the sort queue, which an idle port with its inputs low then offers (R20, R136, R138). Nothing else of the part changes. -/
def Obligations.GradeShipSeal : Prop :=
  ∀ (s : State) (i : SlotId), s.ready →
    let r := s.slot i
    let ok : Reply := { status := .ok, payload := [] }
    let turnedAway (st : Status) : State := { s with reply := { status := st, payload := [] } }
    let isOpen := ∃ e, (s.lane i).entry e ≠ none
    let n := (64 + 16 * r.defects.extents.length + 4 + (s.sectorSize.bytes - 1)) / s.sectorSize.bytes
    let covers (k : Fin 16) (first last : Nat) : Prop :=
      s.windows[k].enabled = true ∧ s.windows[k].mask.getLsbD i.val = true ∧ s.windows[k].action = .record ∧
        s.windows[k].resolve r.identity = some (first, last)
    let region (first last : Nat) : Prop :=
      ∃ k, covers k first last ∧ ∀ j, j < k → ∀ x y, ¬covers j x y
    (r.phase = .scan →
      (isOpen → exec (.grade [slotByte i]) s = .next (turnedAway .busy)) ∧
      (¬isOpen → exec (.grade [slotByte i]) s = .next { s with
        slots := s.slots.set i { r with phase := .gradeWait }, gradeQueue := s.gradeQueue ++ [i], reply := ok })) ∧
    (r.phase = .graded → (∀ g, r.grade = some g → g.bin ≠ .reject) →
      (isOpen → exec (.ship [slotByte i]) s = .next (turnedAway .busy)) ∧
      (¬isOpen → (∀ k x y, ¬covers k x y) → exec (.ship [slotByte i]) s = .next (turnedAway .refused)) ∧
      (¬isOpen → ∀ first last, region first last →
        (last - first + 1 < n → exec (.ship [slotByte i]) s = .next (turnedAway .refused)) ∧
        (n ≤ last - first + 1 → exec (.ship [slotByte i]) s = .next { s with
          slots := s.slots.set i { r with
            phase := .ship
            ship := { written := 0#17, verified := 0#17, filled := 0, verifiedFill := 0, bad := 0
                      padByte := s.profile.shipFill } }
          reply := ok }))) ∧
    (r.phase = .ship →
      let sealable := (∀ k < n, r.ship.written.getLsbD k = true ∧ r.ship.verified.getLsbD k = true) ∧ r.ship.bad = 0
      (isOpen → exec (.sealSlot [slotByte i]) s = .next (turnedAway .busy)) ∧
      (¬isOpen → ¬sealable → exec (.sealSlot [slotByte i]) s = .next (turnedAway .refused)) ∧
      (¬isOpen → sealable → ∃ t, exec (.sealSlot [slotByte i]) s = .next t ∧
        t.sort.queue = s.sort.queue ++ [{ slot := i, bin := r.grade.map (·.bin) }] ∧
        t.sort.handshake = (if s.sort.handshake = .idle ∧ s.sort.take = false ∧ s.sort.busy = false ∧
          s.sort.fault = false then .offer s.timebase else s.sort.handshake) ∧
        t = { s with
          slots := s.slots.set i { r with phase := .sealed }
          sort := { s.sort with queue := t.sort.queue, handshake := t.sort.handshake }, reply := ok }))

/-- RELEASE in GRADED with bin REJECT, or in SHIP or HOLD over SHIP, where the bin becomes REJECT and the reason SHIP_ABANDONED with
the score kept: the phase becomes SEALED and a notice with bin REJECT joins the tail of the sort queue, open entries or not; an
idle port with all three inputs deasserted then offers the head (R21, R136, R138, R155). -/
def Obligations.ReleaseSealsAsReject : Prop :=
  ∀ (s : State) (i : SlotId) (g : GradeResult), s.ready → (s.slot i).grade = some g →
    ((s.slot i).phase = .graded ∧ g.bin = .reject) ∨ (s.slot i).phase = .ship ∨
      (∃ m th, (s.slot i).phase = .hold .ship m th) →
      ∃ t, exec (.release [slotByte i]) s = .next t ∧
        t.sort.queue = s.sort.queue ++ [{ slot := i, bin := some .reject }] ∧
        t.sort.handshake = (if s.sort.handshake = .idle ∧ s.sort.take = false ∧ s.sort.busy = false ∧
          s.sort.fault = false then .offer s.timebase else s.sort.handshake) ∧
        t = { s with
          slots := s.slots.set i { s.slot i with
            phase := .sealed
            grade := some (if (s.slot i).phase = .graded then g
              else { score := g.score, bin := .reject, reason := .shipAbandoned }) }
          sort := { s.sort with queue := t.sort.queue, handshake := t.sort.handshake }
          reply := { status := .ok, payload := [] } }

/-- Where the phase condition of a phase command fails it answers REFUSED, and for a slot number above 7 it answers RANGE (R9 to R12,
R14, R15, R17, R19 to R21): the phases of each, START in IDLE with ORPHANED set or identity invalid, and SHIP and RELEASE by bin. -/
def Obligations.PhaseCommandsTurnedAway : Prop :=
  ∀ s : State, s.ready →
    let replies (c : Instr) (st : Status) : Prop := exec c s = .next { s with reply := { status := st, payload := [] } }
    (∀ b : Byte, 8 ≤ b.toNat →
      (∀ seed g : Nat, replies (.start (b :: le 4 seed ++ le 2 g)) .range) ∧ replies (.advancePass [b]) .range ∧
        replies (.endBurn [b]) .range ∧ replies (.pause [b]) .range ∧ replies (.resume [b]) .range ∧ replies (.grade [b]) .range ∧
        replies (.ship [b]) .range ∧ replies (.sealSlot [b]) .range ∧ replies (.release [b]) .range ∧
        replies (.clearSlot [b]) .range) ∧
    ∀ i : SlotId,
      let p := (s.slot i).phase
      let bin := (s.slot i).grade.map (·.bin)
      ((p ≠ .idle ∨ (s.slot i).orphaned = true ∨ (s.slot i).identity.valid = false) →
        ∀ seed g : Nat, replies (.start (slotByte i :: le 4 seed ++ le 2 g)) .refused) ∧
      (p ≠ .burn → p ≠ .scan → (∀ m th, p ≠ .hold .burn m th) → (∀ m th, p ≠ .hold .scan m th) →
        replies (.advancePass [slotByte i]) .refused) ∧
      (p ≠ .burn → (∀ m th, p ≠ .hold .burn m th) → replies (.endBurn [slotByte i]) .refused) ∧
      (p = .empty ∨ p = .idle ∨ p = .gradeWait ∨ p = .graded ∨ p = .sealed → replies (.pause [slotByte i]) .refused) ∧
      (p.name ≠ .hold → replies (.resume [slotByte i]) .refused) ∧
      (p ≠ .scan → replies (.grade [slotByte i]) .refused) ∧
      ((p ≠ .graded ∨ bin = some .reject) → replies (.ship [slotByte i]) .refused) ∧
      (p ≠ .ship → replies (.sealSlot [slotByte i]) .refused) ∧
      ((p ≠ .ship ∧ (∀ m th, p ≠ .hold .ship m th) ∧ ¬(p = .graded ∧ bin = some .reject)) →
        replies (.release [slotByte i]) .refused)

/-! ## Presence -/

/-- A contact that is followed and changes takes its level; it begins a full debounce interval where the level leaves the debounced
presence and abandons the one in progress where it returns to it; nothing else changes. A DEBOUNCE_END of an interval of 100 ms that
has ended with the level still changed gives the debounced presence the level and sets SLOT_ATTN: gained, the slot goes from EMPTY to
IDLE and keeps its record (R3, R4); lost in IDLE, the slot becomes EMPTY, its entries gone uncounted, its identity invalid unless
ORPHANED (R5); lost in SEALED with SORTED, the slot is cleared with one more shipped unless its bin is REJECT (R6); lost in any other
phase, the slot is EMPTY and ORPHANED, the rest of its record kept but the abandoned count (R7). In these last two its entries,
position and sector in progress are gone, the grade queue and a computation leave it, and the sort port withdraws its notice: an
offer of it falls and the next head may be offered, a release of it ends without one; a notice of an orphaned slot sets MISPULL
(R122, R126, R138, R143). -/
def Obligations.PresenceEvents : Prop :=
  (∀ (s : State) (i : SlotId) (level : Bool), s.inReset = false → ¬(s.straps.slots4 = true ∧ 4 ≤ i.val) →
    (s.presenceOf i).raw ≠ level →
      exec (.rawPresenceChange i level) s = .next { s with
        presence := s.presence.set i
          { raw := level, debounced := (s.presenceOf i).debounced
            interval := if level = (s.presenceOf i).debounced then none else some s.timebase } }) ∧
  ∀ (s : State) (i : SlotId) (began : Time), s.inReset = false → ¬(s.straps.slots4 = true ∧ 4 ≤ i.val) →
    (s.presenceOf i).interval = some began → 100000 ≤ s.elapsed began →
    (s.presenceOf i).raw ≠ (s.presenceOf i).debounced →
      let q := s.sort.queue.filter (fun n => n.slot ≠ i)
      let isHead := s.sort.queue.head?.any (fun n => n.slot == i)
      let left : SortPort := { s.sort with
        queue := q
        handshake := match s.sort.handshake with
          | .idle => .idle
          | .offer b => if isHead then .idle else .offer b
          | .release n queued => .release n (queued && !isHead)
          | .stalled => .stalled }
      let withdrawn : SortPort :=
        if s.sort.queue.any (fun n => n.slot == i) = false then s.sort
        else if left.handshake = .idle ∧ q ≠ [] ∧ left.take = false ∧ left.busy = false ∧ left.fault = false then
          { left with handshake := .offer s.timebase }
        else left
      let forgotten : Lane :=
        { s.lane i with tags := Vector.replicate 33 none, position := none, sector := none }
      let goneFromWork (t : State) : Prop :=
        t.lane i = forgotten ∧ t.gradeQueue = s.gradeQueue.filter (fun j => j ≠ i) ∧
          t.engine = s.engine.map (fun c => if c.slot = i then { c with void := true } else c) ∧ t.sort = withdrawn
      ∃ t, exec (.debounceEnd i) s = .next t ∧
        t.presence = s.presence.set i { raw := (s.presenceOf i).raw, debounced := (s.presenceOf i).raw, interval := none } ∧
        t.alertSet (.slotAttn i) = true ∧ (∀ j, j ≠ i → t.slot j = s.slot j ∧ t.lane j = s.lane j) ∧
        (∀ g : AlertFlag, g ≠ .slotAttn i → g ≠ .mispull → t.alertSet g = s.alertSet g) ∧
        t = { s with
          presence := t.presence, slots := t.slots, lanes := t.lanes, gradeQueue := t.gradeQueue, engine := t.engine
          sort := t.sort, freeExtents := t.freeExtents, alerts := t.alerts } ∧
        ((s.presenceOf i).raw = true → (s.slot i).phase = .empty →
          t = { s with
            presence := t.presence, slots := s.slots.set i { s.slot i with phase := .idle }
            alerts := s.alerts ||| (1#17 <<< (9 + i.val)) }) ∧
        ((s.presenceOf i).raw = false → (s.slot i).phase = .idle →
          t.slot i = { s.slot i with
            phase := .empty
            identity := if (s.slot i).orphaned then (s.slot i).identity else Identity.invalid } ∧
          t.lane i = forgotten ∧
          t = { s with
            presence := t.presence, slots := t.slots, lanes := t.lanes
            alerts := s.alerts ||| (1#17 <<< (9 + i.val)) }) ∧
        ((s.presenceOf i).raw = false → (s.slot i).phase = .sealed → (s.slot i).sorted = true →
          t.slot i = SlotRecord.initial
            (if (s.slot i).grade.isSome ∧ (s.slot i).grade.map (·.bin) ≠ some .reject
              then min ((s.slot i).shipped + 1) 65535 else (s.slot i).shipped) ∧
          goneFromWork t ∧ t.freeExtents = s.freeExtents + (s.slot i).defects.extents.length ∧
          t.alertSet .mispull = s.alertSet .mispull) ∧
        ((s.presenceOf i).raw = false → (s.slot i).phase ≠ .empty → (s.slot i).phase ≠ .idle →
          ¬((s.slot i).phase = .sealed ∧ (s.slot i).sorted = true) →
          t.slot i = { s.slot i with
            phase := .empty, orphaned := true
            counters := { (s.slot i).counters with
              abandoned := min ((s.slot i).counters.abandoned +
                allEntries.countP (fun e => ((s.lane i).entry e).isSome)) 65535 } } ∧
          goneFromWork t ∧ t.freeExtents = s.freeExtents ∧
          t.alertSet .mispull = (s.alertSet .mispull || s.sort.queue.any (fun n => n.slot == i)))

/-! ## Drive links -/

/-- A command frame outside bypass and outside EMPTY that the slot's phase does not withhold opens its entry, the tag's for a queued class
and entry 32 otherwise, with the fields of R27; the frame goes to the drive; a non-queued one takes the data position at offset 0, a
sector in progress dropped, and a queued one leaves both. Where the entry was OPEN or LATE, abandoned and anomalies rise by one in a phase
that counts, the position leaves it and a sector in progress on it is dropped (R26, R28, R60). In EMPTY, or in bypass, the frame goes to
the drive and nothing else changes (R22, R27, R45). -/
def Obligations.CommandFrameOpensEntry : Prop :=
  ∀ (s : State) (i : SlotId) (f : CommandFrame),
    let e := commandEntry f.kind
    let c := commandClass f.kind
    let p := (s.slot i).phase
    ((s.bypassed i = true ∨ p = .empty) → ∃ t, exec (.commandFrame i f) s = .next t ∧
      t = { s with lanes := s.lanes.set i { s.lane i with toDrive := [.command f], toServer := [] } }) ∧
    (s.bypassed i = false → p ≠ .empty → ¬(p.name = .hold ∧ (c = .qwrite ∨ c = .write)) →
      ¬(p = .sealed ∧ (c = .qwrite ∨ c = .write ∨ c = .other)) →
      ∃ t, exec (.commandFrame i f) s = .next t ∧
        (t.lane i).entry e = some
          { late := false, cls := c, lba := f.lba.toNat, count := if f.count = 0#16 then 65536 else f.count.toNat
            done := 0, issueTime := s.timebase, issuePhase := p.name, pass := (s.slot i).pass, seed := (s.slot i).seed
            untracked := false, overrunNoted := false, errorSectors := 0, snoop := Snoop.empty } ∧
        (∀ d, d ≠ e → (t.lane i).entry d = (s.lane i).entry d) ∧
        (t.lane i).toDrive = [.command f] ∧ (t.lane i).toServer = [] ∧ (t.lane i).upstream = (s.lane i).upstream ∧
        (c ≠ .qread → c ≠ .qwrite → (t.lane i).position = some { entry := 32, offset := 0 } ∧
          (t.lane i).sector = none) ∧
        (c = .qread ∨ c = .qwrite → (t.lane i).position =
          if (s.lane i).entry e = none then (s.lane i).position
          else (s.lane i).position.filter (fun q => q.entry ≠ e)) ∧
        (c = .qread ∨ c = .qwrite → (t.lane i).sector =
          if (s.lane i).entry e = none then (s.lane i).sector
          else (s.lane i).sector.filter (fun z => z.entry ≠ e)) ∧
        t.slot i = (if (s.lane i).entry e = none ∨ p = .idle then s.slot i
          else { s.slot i with counters := { (s.slot i).counters with
            abandoned := min ((s.slot i).counters.abandoned + 1) 65535
            anomalies := min ((s.slot i).counters.anomalies + 1) 65535 } }) ∧
        (∀ j, j ≠ i → t.slot j = s.slot j ∧ t.lane j = s.lane j) ∧
        t = { s with slots := t.slots, lanes := t.lanes })

/-- A write in HOLD, and a write or OTHER command in SEALED, is withheld: nothing goes to the drive, the entry is FREE, withheld rises by
one, saturating, after a collision has been counted (R28), and the command's ABORT status joins the waiting statuses unless its tag is
listed already; the position and a sector in progress leave the entry (R29, R60). A PENDING_STATUS_SEND then sends the first waiting
status, for a withheld command an error of kind ABORT with its tag; with none waiting nothing changes (R22, R40). That drive statuses wait
behind it is log entry 13. -/
def Obligations.WithheldCommandAndItsStatus : Prop :=
  (∀ (s : State) (i : SlotId) (f : CommandFrame),
    let e := commandEntry f.kind
    let c := commandClass f.kind
    let p := (s.slot i).phase
    s.bypassed i = false →
    (p.name = .hold ∧ (c = .qwrite ∨ c = .write)) ∨ (p = .sealed ∧ (c = .qwrite ∨ c = .write ∨ c = .other)) →
      ∃ t, exec (.commandFrame i f) s = .next t ∧ (t.lane i).entry e = none ∧ (t.lane i).toDrive = [] ∧
        (∀ d, d ≠ e → (t.lane i).entry d = (s.lane i).entry d) ∧
        (t.lane i).upstream = (if UpstreamStatus.synthesized e ∈ (s.lane i).upstream then (s.lane i).upstream
          else (s.lane i).upstream ++ [.synthesized e]) ∧
        (t.lane i).position = (s.lane i).position.filter (fun q => q.entry ≠ e) ∧
        (t.lane i).sector = (s.lane i).sector.filter (fun z => z.entry ≠ e) ∧
        t.slot i = (if (s.lane i).entry e = none then
          { s.slot i with counters := { (s.slot i).counters with
            withheld := min ((s.slot i).counters.withheld + 1) 65535 } }
          else { s.slot i with counters := { (s.slot i).counters with
            withheld := min ((s.slot i).counters.withheld + 1) 65535
            abandoned := min ((s.slot i).counters.abandoned + 1) 65535
            anomalies := min ((s.slot i).counters.anomalies + 1) 65535 } }) ∧
        (∀ j, j ≠ i → t.slot j = s.slot j ∧ t.lane j = s.lane j) ∧
        t = { s with slots := t.slots, lanes := t.lanes }) ∧
  ∀ (s : State) (i : SlotId),
    ((s.lane i).upstream = [] → exec (.pendingStatusSend i) s = .next s) ∧
    ∀ (e : EntryId) (rest : List UpstreamStatus), (s.lane i).upstream = .synthesized e :: rest →
      ∃ t sent, exec (.pendingStatusSend i) s = .next t ∧
        (t.lane i).toServer =
          .status (.error { tag := if h : e.val < 32 then some ⟨e.val, h⟩ else none, kind := .abort }) ::
            sent.map UpstreamStatus.frame ∧
        rest = sent ++ (t.lane i).upstream ∧ (∀ u ∈ sent, u.isDrive = true) ∧
        (∀ u, (t.lane i).upstream.head? = some u → u.isDrive = false) ∧
        (∀ d, (t.lane i).entry d = (s.lane i).entry d) ∧ (t.lane i).position = (s.lane i).position ∧
        (t.lane i).sector = (s.lane i).sector ∧ (∀ j, j ≠ i → t.lane j = s.lane j) ∧ t = { s with lanes := t.lanes }

/-- A data-setup notice passes to the server and, outside bypass, sets the data position: none for a FREE entry; done x S for offset
0 and a direction that agrees with the class; otherwise the offset given, with the entry marked UNTRACKED and one anomaly where the
mark is new and the phase counts. A sector in progress is dropped (R26, R29, R31, R60). -/
def Obligations.DataSetupSetsPosition : Prop :=
  ∀ (s : State) (i : SlotId) (n : SetupNotice),
    let e : EntryId := match n.tag with
      | none => 32
      | some t => ⟨t.val, Nat.lt_succ_of_lt t.isLt⟩
    let agrees (c : CommandClass) : Prop :=
      c = .other ∨ ((c = .qwrite ∨ c = .write) ∧ n.direction = .toDrive) ∨
        ((c = .qread ∨ c = .read ∨ c = .ident) ∧ n.direction = .toServer)
    ∃ t, exec (.dataSetupNotice i n) s = .next t ∧ (t.lane i).toServer = [.setup n] ∧ (t.lane i).toDrive = [] ∧
      (s.bypassed i = true → (t.lane i).position = (s.lane i).position ∧ (t.lane i).tags = (s.lane i).tags ∧
        t.slots = s.slots) ∧
      (s.bypassed i = false → (t.lane i).sector = none ∧
        ((s.lane i).entry e = none → (t.lane i).position = none ∧ (t.lane i).tags = (s.lane i).tags ∧
          t.slots = s.slots) ∧
        ∀ x, (s.lane i).entry e = some x →
          (n.offset = 0 → agrees x.cls → (t.lane i).tags = (s.lane i).tags ∧ t.slots = s.slots ∧
            (t.lane i).position = some { entry := e, offset := x.done * s.sectorSize.bytes }) ∧
          (n.offset ≠ 0 ∨ ¬agrees x.cls →
            (t.lane i).position = some { entry := e, offset := n.offset } ∧
            (t.lane i).entry e =
              some (if x.untracked then x else { x with untracked := true, snoop := Snoop.discarded }) ∧
            t.slot i = (if x.untracked = true ∨ (s.slot i).phase = .empty ∨ (s.slot i).phase = .idle then s.slot i
              else { s.slot i with counters := { (s.slot i).counters with
                anomalies := min ((s.slot i).counters.anomalies + 1) 65535 } }))) ∧
      (∀ d, d ≠ e → (t.lane i).entry d = (s.lane i).entry d) ∧ (t.lane i).upstream = (s.lane i).upstream ∧
      (∀ j, j ≠ i → t.slot j = s.slot j ∧ t.lane j = s.lane j) ∧ t = { s with slots := t.slots, lanes := t.lanes }

/-- Where a data frame passes unaltered with its own check (R24). In bypass, when it is none of R23's (log entry 8), and with the
position none or on a FREE entry, nothing else happens (R29, R45); on an OTHER entry the position advances (R30). Data in the wrong
direction, or on a FLUSH entry, marks the entry UNTRACKED, a checked sector in progress dropped; that the position stays is log entry
14 (R30, R31, R60). On an UNTRACKED entry data that agrees moves the position and no more, but finishes a sector partly substituted
(R31, R60). Data past count x S of a data class or past 512 of an IDENT sets overrun noted and adds one anomaly, once, on an UNTRACKED
entry too (R26, R31). An IDENT's bytes 20 to 39 and 200 to 205 go into its snoop, which a frame with a wrong check empties, and byte
511 makes done 1 (R30, R32, R43); that byte 0 begins the snoop anew is log entry 14. A whole sector of a followed command advances
done with no other effect where its action is PASS, and where it is read in a frame with a wrong check (R30, R32, R51 to R53). -/
def Obligations.DataFramePassesUnaltered : Prop :=
  ∀ (s : State) (i : SlotId) (f : DataFrame),
    let relayed (l : Lane) : Prop :=
      (f.direction = .toDrive → l.toDrive = [.data f.bytes (.original f.checkGood)] ∧ l.toServer = []) ∧
        (f.direction = .toServer → l.toServer = [.data f.bytes (.original f.checkGood)] ∧ l.toDrive = [])
    ((s.bypassed i = true ∨ f.wf = false ∨ (s.lane i).position = none ∨
        (∃ q, (s.lane i).position = some q ∧ (s.lane i).entry q.entry = none)) →
      ∃ t, exec (.dataFrame i f) s = .next t ∧ relayed (t.lane i) ∧ (t.lane i).tags = (s.lane i).tags ∧
        (t.lane i).position = (s.lane i).position ∧ (t.lane i).sector = (s.lane i).sector ∧
        (t.lane i).upstream = (s.lane i).upstream ∧ (∀ j, j ≠ i → t.lane j = s.lane j) ∧ t = { s with lanes := t.lanes }) ∧
    ∀ q x, s.bypassed i = false → f.wf = true → (s.lane i).position = some q → (s.lane i).entry q.entry = some x →
      let size := s.sectorSize.bytes
      let oneAnomaly : SlotRecord :=
        if (s.slot i).phase = .empty ∨ (s.slot i).phase = .idle then s.slot i
        else { s.slot i with counters := { (s.slot i).counters with
          anomalies := min ((s.slot i).counters.anomalies + 1) 65535 } }
      let follows : Prop := (f.direction = .toDrive ∧ (x.cls = .qwrite ∨ x.cls = .write)) ∨
        (f.direction = .toServer ∧ (x.cls = .qread ∨ x.cls = .read ∨ x.cls = .ident))
      let limit : Nat := if x.cls = .ident then 512 else x.count * size
      let moved : Option Position := some { entry := q.entry, offset := q.offset + f.bytes.length }
      let elsewhere (t : State) : Prop :=
        (∀ d, d ≠ q.entry → (t.lane i).entry d = (s.lane i).entry d) ∧ (t.lane i).upstream = (s.lane i).upstream ∧
          ∀ j, j ≠ i → t.slot j = s.slot j ∧ t.lane j = s.lane j
      (x.cls = .other → x.untracked = false → ∃ t, exec (.dataFrame i f) s = .next t ∧ relayed (t.lane i) ∧
        (t.lane i).tags = (s.lane i).tags ∧ (t.lane i).position = moved ∧ elsewhere t ∧ t = { s with lanes := t.lanes }) ∧
      ((x.cls = .flush ∨ ((x.cls = .qwrite ∨ x.cls = .write) ∧ f.direction = .toServer) ∨
          ((x.cls = .qread ∨ x.cls = .read ∨ x.cls = .ident) ∧ f.direction = .toDrive)) →
        ∃ t, exec (.dataFrame i f) s = .next t ∧ relayed (t.lane i) ∧
          (t.lane i).entry q.entry =
            some (if x.untracked then x else { x with untracked := true, snoop := Snoop.discarded }) ∧
          (t.lane i).position = some q ∧
          (t.lane i).sector = (s.lane i).sector.filter (fun z => z.substitutes) ∧
          t.slot i = (if x.untracked then s.slot i else oneAnomaly) ∧ elsewhere t ∧
          t = { s with slots := t.slots, lanes := t.lanes }) ∧
      (x.untracked = true → (x.cls = .other ∨ (follows ∧ q.offset + f.bytes.length ≤ limit)) →
        ((s.lane i).sector = none → ∃ t, exec (.dataFrame i f) s = .next t ∧ relayed (t.lane i) ∧
          (t.lane i).tags = (s.lane i).tags ∧ (t.lane i).position = moved ∧ (t.lane i).sector = none ∧ elsewhere t ∧
          t = { s with lanes := t.lanes }) ∧
        ∀ z, f.direction = .toDrive → (s.lane i).sector = some z → z.substitutes = true → z.received.length < size →
          ∃ t sent, exec (.dataFrame i f) s = .next t ∧ (t.lane i).toServer = [] ∧
            (t.lane i).toDrive = [.data sent (if f.checkGood then .computed else .inverted)] ∧
            sent.length = f.bytes.length ∧
            (∀ k < f.bytes.length, sent[k]? = if z.received.length + k < size
              then some (z.image.byteAt s.patternTable s.sectorSize.words (z.received.length + k)) else f.bytes[k]?) ∧
            (t.lane i).tags = (s.lane i).tags ∧ (t.lane i).position = moved ∧
            (size ≤ z.received.length + f.bytes.length → (t.lane i).sector = none) ∧ elsewhere t ∧
            t = { s with lanes := t.lanes }) ∧
      (follows → limit ≤ q.offset → ∃ t, exec (.dataFrame i f) s = .next t ∧ relayed (t.lane i) ∧
        (t.lane i).entry q.entry = some { x with overrunNoted := true } ∧ (t.lane i).position = moved ∧
        (t.lane i).sector = (s.lane i).sector ∧ t.slot i = (if x.overrunNoted then s.slot i else oneAnomaly) ∧
        elsewhere t ∧ t = { s with slots := t.slots, lanes := t.lanes }) ∧
      (x.cls = .ident → x.untracked = false → f.direction = .toServer → q.offset + f.bytes.length ≤ 512 →
        let passed (n : Nat) : Prop := q.offset ≤ n ∧ n < q.offset + f.bytes.length
        let kept (b : Byte) : Byte := if q.offset = 0 then 0#8 else b
        ∃ t y, exec (.dataFrame i f) s = .next t ∧ relayed (t.lane i) ∧ (t.lane i).entry q.entry = some y ∧
          y = { x with snoop := y.snoop, done := if q.offset + f.bytes.length = 512 then 1 else x.done } ∧
          y.snoop.intact = ((q.offset == 0 || x.snoop.intact) && f.checkGood) ∧
          (∀ k : Fin 20, (passed (20 + k.val) → f.bytes[20 + k.val - q.offset]? = some y.snoop.serial[k]) ∧
            (¬passed (20 + k.val) → y.snoop.serial[k] = kept x.snoop.serial[k])) ∧
          (∀ k : Fin 6, (passed (200 + k.val) → f.bytes[200 + k.val - q.offset]? = some y.snoop.capacity[k]) ∧
            (¬passed (200 + k.val) → y.snoop.capacity[k] = kept x.snoop.capacity[k])) ∧
          (t.lane i).position = moved ∧ elsewhere t ∧ t = { s with lanes := t.lanes }) ∧
      (x.untracked = false → x.cls ≠ .ident → follows → q.offset = x.done * size → x.done < x.count →
        f.bytes.length = size → x.lba + x.done < 2 ^ 48 →
        let writes : Prop := f.direction = .toDrive
        let action : Option WindowAction :=
          (matchingWindow s.windows i (s.slot i).identity (x.lba + x.done)).map (fun k => s.windows[k].action)
        let passes : Prop :=
          (x.issuePhase ≠ .burn ∧ x.issuePhase ≠ .scan ∧ x.issuePhase ≠ .ship) ∨
            (x.issuePhase ≠ .ship ∧ (action = none ∨ action = some .record ∨ action = some .exclude ∨
              (action = some .verify ∧ writes))) ∨
            (x.issuePhase = .ship ∧ action = some .exclude)
        (passes ∨ (¬writes ∧ f.checkGood = false)) →
          ∃ t, exec (.dataFrame i f) s = .next t ∧ relayed (t.lane i) ∧
            (t.lane i).entry q.entry = some { x with done := x.done + 1 } ∧ (t.lane i).position = moved ∧
            (t.lane i).sector = none ∧ elsewhere t ∧ t = { s with lanes := t.lanes })

/-- THE HEADLINE OF THE DATA PATH, WRITING: a frame that carries exactly the next whole sector of a followed write issued in BURN or
SCAN, whose matching window is a TEST window, reaches the drive as the window's image byte for byte, with a check that is correct
exactly where the frame's was; done rises by one, the position moves on by the sector, and written_sectors rises by one where the
check was correct and the phase counts (R24, R26, R30, R52, R65, R72). -/
def Obligations.TestSectorIsSubstituted : Prop :=
  ∀ (s : State) (i : SlotId) (f : DataFrame) (e : EntryId) (x : TagEntry) (k : Fin 16), s.bypassed i = false →
    f.direction = .toDrive → f.bytes.length = s.sectorSize.bytes →
    (s.lane i).position = some { entry := e, offset := x.done * s.sectorSize.bytes } →
    (s.lane i).entry e = some x → (x.cls = .qwrite ∨ x.cls = .write) → x.untracked = false → x.done < x.count →
    (x.issuePhase = .burn ∨ x.issuePhase = .scan) → x.lba + x.done < 2 ^ 48 →
    matchingWindow s.windows i (s.slot i).identity (x.lba + x.done) = some k → s.windows[k].action = .test →
      ∃ t, exec (.dataFrame i f) s = .next t ∧
        (t.lane i).toServer = [] ∧
        (t.lane i).toDrive = [.data
          ((List.range s.sectorSize.bytes).map
            ((s.windows[k].image (x.lba + x.done) x.pass x.seed).byteAt s.patternTable s.sectorSize.words))
          (if f.checkGood then .computed else .inverted)] ∧
        (t.lane i).entry e = some { x with done := x.done + 1 } ∧
        (∀ d, d ≠ e → (t.lane i).entry d = (s.lane i).entry d) ∧ (t.lane i).upstream = (s.lane i).upstream ∧
        (t.lane i).position = some { entry := e, offset := (x.done + 1) * s.sectorSize.bytes } ∧
        (t.lane i).sector = none ∧
        t.slot i = (if f.checkGood = true ∧ (s.slot i).phase ≠ .empty ∧ (s.slot i).phase ≠ .idle
          then { s.slot i with counters := { (s.slot i).counters with
            writtenSectors := min ((s.slot i).counters.writtenSectors + 1) 4294967295 } }
          else s.slot i) ∧
        (∀ j, j ≠ i → t.slot j = s.slot j ∧ t.lane j = s.lane j) ∧
        t = { s with slots := t.slots, lanes := t.lanes }

/-- THE HEADLINE OF THE DATA PATH, READING: a frame with a correct check that carries exactly the next whole sector of a followed read
issued in BURN or SCAN, whose matching window is a TEST or VERIFY window, reaches the server unaltered; done rises by one and the
position moves on. The sector has the result of the classification of its words against the window's image (R66 to R69); one that is no
match adds one to the entry's error sectors. In a phase that counts, checked_sectors rises by one whatever the result, and then: STALE
adds to stale and raises a STALE event with the pass found and the pass read in; SLIP adds to slip and raises a SLIP event with the
offset and the pass; CORRUPT adds to corrupt, inserts the LBA with cause CORRUPT and raises a CORRUPT event with its detail, each event
with the flag its delivery sets; nothing else changes (R26, R30, R52, R70, R71, R100). -/
def Obligations.TestSectorIsChecked : Prop :=
  ∀ (s : State) (i : SlotId) (f : DataFrame) (e : EntryId) (x : TagEntry) (k : Fin 16), s.bypassed i = false →
    f.direction = .toServer → f.checkGood = true → f.bytes.length = s.sectorSize.bytes →
    (s.lane i).position = some { entry := e, offset := x.done * s.sectorSize.bytes } →
    (s.lane i).entry e = some x → (x.cls = .qread ∨ x.cls = .read) → x.untracked = false → x.done < x.count →
    (x.issuePhase = .burn ∨ x.issuePhase = .scan) → x.lba + x.done < 2 ^ 48 →
    matchingWindow s.windows i (s.slot i).identity (x.lba + x.done) = some k →
    (s.windows[k].action = .test ∨ s.windows[k].action = .verify) →
      let c := classify s.patternTable s.sectorSize.words s.profile.slipReach
        (s.windows[k].image (x.lba + x.done) x.pass x.seed) (wordsOf f.bytes)
      ∃ t, exec (.dataFrame i f) s = .next t ∧
        (t.lane i).toServer = [.data f.bytes (.original true)] ∧ (t.lane i).toDrive = [] ∧
        (t.lane i).entry e = some { x with
          done := x.done + 1, errorSectors := if c = .isMatch then x.errorSectors else min (x.errorSectors + 1) 65535 } ∧
        (t.lane i).position = some { entry := e, offset := (x.done + 1) * s.sectorSize.bytes } ∧
        (t.lane i).sector = none ∧ (∀ j, j ≠ i → t.lane j = s.lane j) ∧
        (∀ d, d ≠ e → (t.lane i).entry d = (s.lane i).entry d) ∧ (t.lane i).upstream = (s.lane i).upstream ∧
        s.sectorJudged t i e (x.lba + x.done) x.pass c

/-- THE HEADLINE OF SHIPPING: a frame that carries exactly the next whole sector of a followed command issued in SHIP. Where the matching
window is none, TEST, VERIFY or a RECORD window that is not the slot's record window, the sector is ship fill; in the record window it
is record sector m, the bytes mS to (m+1)S - 1 of the ship record with the record pad byte after its end, for m below n, and ship fill
from n on (R53 to R55, R148, R149, R151). A write sends the drive those bytes in place of its own, and with a correct check, in a phase
that counts, ship_filled rises, and of record sector m bit m joins the written set and leaves the verified set (R24, R65, R73). A read
with a correct check goes to the server unaltered: equal, ship_verified rises for fill, and for record sector m bit m joins the verified
set if it is in the written set; not equal, error sectors and ship_bad rise, and bit m leaves the verified set (R26, R66, R74). Nothing
else changes. The ship record has the layout of Table 12-8 with the CRC-32 of all before it (R147, R150). -/
def Obligations.ShipSectorsAndRecord : Prop :=
  (∀ (s : State) (i : SlotId) (f : DataFrame) (e : EntryId) (x : TagEntry), s.bypassed i = false →
    f.bytes.length = s.sectorSize.bytes →
    (s.lane i).position = some { entry := e, offset := x.done * s.sectorSize.bytes } →
    (s.lane i).entry e = some x → x.untracked = false → x.done < x.count → x.issuePhase = .ship →
    x.lba + x.done < 2 ^ 48 →
      let r := s.slot i
      let size := s.sectorSize.bytes
      let lba := x.lba + x.done
      let n := (64 + 16 * r.defects.extents.length + 4 + (size - 1)) / size
      let win := matchingWindow s.windows i r.identity lba
      let own := recordWindow s.windows i r.identity
      let inRegion (m : Nat) : Prop := ∃ k first last, win = some k ∧ own = some k ∧
        s.windows[k].resolve r.identity = some (first, last) ∧ lba = first + m
      let isFill : Prop := win = none ∨ (∃ k, win = some k ∧ own ≠ some k ∧ s.windows[k].action ≠ .exclude) ∨
        ∃ m, inRegion m ∧ n ≤ m
      let isRecord (m : Nat) : Prop := inRegion m ∧ m < n
      let fill : List Byte := List.replicate size s.profile.shipFill
      let record (m : Nat) : List Byte :=
        (List.range size).map (fun k => (shipRecord r).getD (m * size + k) r.ship.padByte)
      let counts : Prop := r.phase ≠ .empty ∧ r.phase ≠ .idle
      let effect (errors : Nat) (t : State) (ship : ShipState) : Prop :=
        (t.lane i).entry e = some { x with done := x.done + 1, errorSectors := errors } ∧
          (∀ d, d ≠ e → (t.lane i).entry d = (s.lane i).entry d) ∧ (t.lane i).upstream = (s.lane i).upstream ∧
          (t.lane i).position = some { entry := e, offset := (x.done + 1) * size } ∧ (t.lane i).sector = none ∧
          (∀ j, j ≠ i → t.slot j = s.slot j ∧ t.lane j = s.lane j) ∧ t.slot i = { r with ship := ship } ∧
          t = { s with slots := t.slots, lanes := t.lanes }
      let wrote (content : List Byte) (ship : ShipState) : Prop := ∃ t, exec (.dataFrame i f) s = .next t ∧
        (t.lane i).toDrive = [.data content (if f.checkGood then .computed else .inverted)] ∧
        (t.lane i).toServer = [] ∧
        (f.checkGood = true ∧ counts → effect x.errorSectors t ship) ∧
        (¬(f.checkGood = true ∧ counts) → effect x.errorSectors t r.ship)
      let read (content : List Byte) (good bad : ShipState) : Prop := ∃ t, exec (.dataFrame i f) s = .next t ∧
        (t.lane i).toServer = [.data f.bytes (.original true)] ∧ (t.lane i).toDrive = [] ∧
        (f.bytes = content → effect x.errorSectors t (if r.phase.name = .empty ∨ r.phase.name = .idle then r.ship else good)) ∧
        (f.bytes ≠ content → effect (min (x.errorSectors + 1) 65535) t
          (if r.phase.name = .empty ∨ r.phase.name = .idle then r.ship else bad))
      let filled : ShipState := { r.ship with filled := min (r.ship.filled + 1) 4294967295 }
      let worse : ShipState := { r.ship with bad := min (r.ship.bad + 1) 65535 }
      (f.direction = .toDrive → (x.cls = .qwrite ∨ x.cls = .write) →
        (isFill → wrote fill filled) ∧
        ∀ m, isRecord m → wrote (record m) { filled with
          written := r.ship.written ||| (1#17 <<< m), verified := r.ship.verified &&& ~~~(1#17 <<< m) }) ∧
      (f.direction = .toServer → f.checkGood = true → (x.cls = .qread ∨ x.cls = .read) →
        (isFill → read fill { r.ship with verifiedFill := min (r.ship.verifiedFill + 1) 4294967295 } worse) ∧
        ∀ m, isRecord m → read (record m)
          (if r.ship.written.getLsbD m then { r.ship with verified := r.ship.verified ||| (1#17 <<< m) } else r.ship)
          { worse with verified := r.ship.verified &&& ~~~(1#17 <<< m) })) ∧
  ∀ r : SlotRecord,
    let p := shipRecord r
    let count := r.defects.extents.length
    p.length = 64 + 16 * count + 4 ∧
      hasField p 0 ([0x5A#8, 0x57#8, 0x52#8, 0x31#8] ++ le 4 p.length ++ r.identity.serial.toList ++
        le 6 r.identity.capacity) ∧
      (r.grade = none → hasField p 34 (le 6 0)) ∧
      (∀ g, r.grade = some g → hasField p 34 (le 1 g.bin.code ++ le 1 g.reason.code ++ le 4 g.score)) ∧
      hasField p 40 (le 4 r.soak.a ++ le 2 r.soak.target ++ le 2 r.pass ++ le 4 r.defects.sectors ++ le 2 count ++
        le 2 r.defects.unrecorded) ∧
      hasField p 56 (le 2 r.counters.stale ++ le 2 r.counters.slip ++ le 2 r.counters.timeouts ++
        le 2 r.latency.slowCount) ∧
      (∀ (k : Nat) (y : Extent), r.defects.extents[k]? = some y → hasField p (64 + 16 * k)
        (le 6 y.start ++ le 2 y.length ++ le 1 (bit y.corrupt + 2 * bit y.media) ++ le 1 y.hits ++ le 2 y.firstPass ++
          le 4 0)) ∧
      hasField p (64 + 16 * count) (le 4 (crc32 (p.take (64 + 16 * count))).toNat)

/-- DATA FRAMES COMPOSE: two frames of one direction and check, sent one after the other, leave what the one frame of their bytes
leaves, of at most 8192: the same entries, position, sector in progress, counts and events; what the one frame sends is what the two
send, joined, and it is substituted where either is (R24, R30). So what the statements say of one sector, or of a part of one, holds
of frames of several sectors and of parts, and of a frame that straddles the end of the command (R31; that such a frame is followed up
to the end is log entry 14). In bypass, or with nothing to follow, the same (R29, R45). -/
def Obligations.DataFramesCompose : Prop :=
  ∀ (s : State) (i : SlotId) (d : Direction) (a b : List Byte) (good : Bool), a ≠ [] → b ≠ [] →
    a.length + b.length ≤ 8192 →
    let sends (v : State) (bytes : List Byte) (substituted : Bool) : Prop :=
      let frame := SentFrame.data bytes
        (if substituted then (if good then .computed else .inverted) else .original good)
      (d = .toDrive → (v.lane i).toDrive = [frame] ∧ (v.lane i).toServer = []) ∧
        (d = .toServer → (v.lane i).toServer = [frame] ∧ (v.lane i).toDrive = [])
    ∃ t u v sentA sentB subA subB,
      exec (.dataFrame i ⟨d, a, good⟩) s = .next t ∧ exec (.dataFrame i ⟨d, b, good⟩) t = .next u ∧
        exec (.dataFrame i ⟨d, a ++ b, good⟩) s = .next v ∧
        sends t sentA subA ∧ sends u sentB subB ∧ sends v (sentA ++ sentB) (subA || subB) ∧
        (sentA.length = a.length ∧ sentB.length = b.length) ∧ (subA = false → sentA = a) ∧ (subB = false → sentB = b) ∧
        v = { u with
          lanes := u.lanes.set i { u.lane i with toDrive := (v.lane i).toDrive, toServer := (v.lane i).toServer } }

/-- THE SECTOR IN PROGRESS: a frame within one sector of a followed data command. Where it brings the sector's first byte a sector in
progress begins by the window's action, its image fixed then, and PASS begins none; else it goes on with the lane's (R30, R51, R60).
A substituted sector sends the drive its image's bytes from where it stands, with a new check; any other goes on unaltered with its
own (R24, R65). Short of the sector's end the bytes and the check join the sector in progress and no count, event or entry changes.
At the end done rises by one and the sector in progress is over; the sector is counted or classified only if EVERY frame that brought
a byte of it had a correct check (R32, R65, R66): a substituted one adds to written_sectors of BURN and SCAN or to the ship state of
SHIP (R72, R73); a checked one is classified by all its words against the image it began with, and a result that is no match adds to
the entry's error sectors; BURN and SCAN judge it (R70, R71), SHIP its ship state (R74), each in a phase that counts (R26). -/
def Obligations.SectorInProgressFollowed : Prop :=
  ∀ (s : State) (i : SlotId) (f : DataFrame) (e : EntryId) (x : TagEntry) (offset : Nat), s.bypassed i = false →
    f.wf = true → (s.lane i).position = some { entry := e, offset := offset } → (s.lane i).entry e = some x →
    x.untracked = false →
    (f.direction = .toDrive ∧ (x.cls = .qwrite ∨ x.cls = .write)) ∨
      (f.direction = .toServer ∧ (x.cls = .qread ∨ x.cls = .read)) →
    let size := s.sectorSize.bytes
    let words := s.sectorSize.words
    let index := offset / size
    let last := offset % size + f.bytes.length
    index < x.count → last ≤ size →
      let begun : Option SectorInProgress :=
        if offset % size = 0 then
          beginSector (sectorAction s.windows s.sectorSize s.profile.shipFill i (s.slot i) x index) e index
            (sectorLba x.lba index)
        else (s.lane i).sector
      let grown : Option SectorInProgress := begun.map (fun z =>
        { z with received := z.received ++ f.bytes, checksGood := z.checksGood && f.checkGood })
      let substituted : Bool := begun.any (·.substitutes)
      let counts : Prop := (s.slot i).phase ≠ .empty ∧ (s.slot i).phase ≠ .idle
      let c := s.slot i
      ∃ t sent, exec (.dataFrame i f) s = .next t ∧
        (let frame := SentFrame.data sent
          (if substituted then (if f.checkGood then .computed else .inverted) else .original f.checkGood)
        (f.direction = .toDrive → (t.lane i).toDrive = [frame] ∧ (t.lane i).toServer = []) ∧
          (f.direction = .toServer → (t.lane i).toServer = [frame] ∧ (t.lane i).toDrive = [])) ∧
        (substituted = false → sent = f.bytes) ∧
        (∀ z, begun = some z → z.substitutes = true → sent =
          (List.range f.bytes.length).map (fun n => z.image.byteAt s.patternTable words (z.received.length + n))) ∧
        (t.lane i).position = some { entry := e, offset := offset + f.bytes.length } ∧
        (t.lane i).upstream = (s.lane i).upstream ∧ (∀ d, d ≠ e → (t.lane i).entry d = (s.lane i).entry d) ∧
        (∀ j, j ≠ i → t.slot j = s.slot j ∧ t.lane j = s.lane j) ∧
        (last < size → (t.lane i).sector = grown ∧ (t.lane i).tags = (s.lane i).tags ∧ t = { s with lanes := t.lanes }) ∧
        (last = size → (t.lane i).sector = none ∧
          ((grown = none ∨ ∃ z, grown = some z ∧ z.checksGood = false) →
            (t.lane i).entry e = some { x with done := x.done + 1 } ∧ t = { s with lanes := t.lanes }) ∧
          (∀ z, grown = some z → z.checksGood = true → z.substitutes = true →
            (t.lane i).entry e = some { x with done := x.done + 1 } ∧
            (counts → x.issuePhase = .burn ∨ x.issuePhase = .scan → t.slot i = { c with
              counters := { c.counters with writtenSectors := min (c.counters.writtenSectors + 1) 4294967295 } }) ∧
            (counts → x.issuePhase = .ship → t.slot i = { c with ship := c.ship.sent z.image }) ∧
            (¬counts ∨ x.issuePhase.isTimed = false → t.slot i = c) ∧
            t = { s with slots := t.slots, lanes := t.lanes }) ∧
          ∀ z, grown = some z → z.checksGood = true → z.substitutes = false →
            let result := classify s.patternTable words s.profile.slipReach z.image (wordsOf z.received)
            (t.lane i).entry e = some { x with
              done := x.done + 1
              errorSectors := if result = .isMatch then x.errorSectors else min (x.errorSectors + 1) 65535 } ∧
            (x.issuePhase = .burn ∨ x.issuePhase = .scan → s.sectorJudged t i e z.lba x.pass result) ∧
            (x.issuePhase = .ship → t.slot i =
                (if c.phase = .empty ∨ c.phase = .idle then c
                else { c with ship := c.ship.checked z.image (result == .isMatch) }) ∧
              t = { s with slots := t.slots, lanes := t.lanes }) ∧
            (x.issuePhase.isTimed = false → t = { s with lanes := t.lanes }))

/-- A success status goes to the server and closes every entry it names, entry 32 for the non-queued one, and no other; the position and a
sector in progress leave a closed entry and no other (R60); without an open IDENT among them identity, anomalies, capture and alerts are
as they were. For one closed entry of another class: in a phase that counts, one of the four data classes, READ and WRITE on entry 32
among them, issued in BURN or SCAN, puts its latency in the bucket R39 gives where it is OPEN, and in bucket 15 with one more late where
it is LATE; slow_count and max_latency follow; any other class, issue phase or phase gives no sample and changes no slot (R26, R33, R38,
R39). -/
def Obligations.SuccessClosesEntries : Prop :=
  (∀ (s : State) (i : SlotId) (st : Success), s.bypassed i = false →
    let named (e : EntryId) : Bool := match st with
      | .nonQueued => e.val == 32
      | .queued tags => tags.getLsbD e.val
    ∃ t, exec (.successStatus i st) s = .next t ∧
      (∀ e, (t.lane i).entry e = if named e then none else (s.lane i).entry e) ∧
      (t.lane i).position = (s.lane i).position.filter (fun p => !(named p.entry && ((s.lane i).entry p.entry).isSome)) ∧
      (t.lane i).sector = (s.lane i).sector.filter (fun z => !(named z.entry && ((s.lane i).entry z.entry).isSome)) ∧
      ((s.lane i).upstream = [] → (t.lane i).toServer = [.status (.success st)]) ∧
      (∀ j, j ≠ i → t.slot j = s.slot j ∧ t.lane j = s.lane j) ∧
      t.slot i = { s.slot i with
        latency := (t.slot i).latency, identity := (t.slot i).identity
        counters := { (s.slot i).counters with
          late := (t.slot i).counters.late, anomalies := (t.slot i).counters.anomalies } } ∧
      ((∀ e, named e = true → ∀ x, (s.lane i).entry e = some x → x.cls ≠ .ident) →
        t.capture = s.capture ∧ t.alerts = s.alerts ∧ (t.slot i).identity = (s.slot i).identity ∧
          (t.slot i).counters.anomalies = (s.slot i).counters.anomalies) ∧
      (∀ g : AlertFlag, g ≠ .captureNew → g ≠ .stagedLost → g ≠ .unmatched → t.alertSet g = s.alertSet g) ∧
      t = { s with slots := t.slots, lanes := t.lanes, capture := t.capture, alerts := t.alerts }) ∧
  ∀ (s : State) (i : SlotId) (st : Success) (e : EntryId) (x : TagEntry), s.bypassed i = false →
    (st = .nonQueued ∧ e = 32) ∨ (∃ tag : Fin 32, st = .queued (1#32 <<< tag.val) ∧ e = tagEntry tag) →
    (s.lane i).entry e = some x → x.cls ≠ .ident →
      let latency := s.elapsed x.issueTime
      let h := (s.slot i).latency
      let sampled : Prop := ((s.slot i).phase ≠ .empty ∧ (s.slot i).phase ≠ .idle) ∧
        (x.cls = .qread ∨ x.cls = .qwrite ∨ x.cls = .read ∨ x.cls = .write) ∧
        (x.issuePhase = .burn ∨ x.issuePhase = .scan)
      ∃ t, exec (.successStatus i st) s = .next t ∧ (t.lane i).entry e = none ∧
        (∀ q, (t.lane i).position = some q → q.entry ≠ e) ∧
        (¬sampled → t = { s with lanes := t.lanes }) ∧
        (sampled → 1 ≤ s.profile.latencyBase → s.profile.slowBucket ≤ 15 → ∃ b : Fin 16,
          (x.late = true → b = 15) ∧
          (x.late = false →
            (b.val = 0 → latency < 2 * s.profile.latencyBase) ∧
            (0 < b.val → s.profile.latencyBase * 2 ^ b.val ≤ latency) ∧
            (0 < b.val → b.val < 15 → latency < s.profile.latencyBase * 2 ^ (b.val + 1))) ∧
          t.slot i = { s.slot i with
            latency :=
              { histogram := h.histogram.set b (min (h.histogram[b] + 1) 65535)
                slowCount := if s.profile.slowBucket ≤ b.val then min (h.slowCount + 1) 65535 else h.slowCount
                maxLatency := max h.maxLatency latency }
            counters := { (s.slot i).counters with
              late := if x.late then min ((s.slot i).counters.late + 1) 65535 else (s.slot i).counters.late } } ∧
          t = { s with slots := t.slots, lanes := t.lanes })

/-- A success that closes an IDENT entry whose block was received whole, every frame of it with a correct check, and which is not
UNTRACKED, offers the snooped identity: in IDLE with ORPHANED clear it becomes the slot's, valid where the capacity is at least 1; in a
run phase it is compared, one anomaly counted and a capture event of kind ANOMALY raised, with the flag its delivery sets, where serial
or capacity differs, and identity is frozen; in IDLE with ORPHANED set, and in EMPTY, nothing. Where the block was not received whole,
or a frame of it had a wrong check, or the entry is UNTRACKED, no offer is made: the entry closes and nothing is set, compared or
counted (R31, R32, R33, R43, R44, R100). -/
def Obligations.IdentSetsOrComparesIdentity : Prop :=
  ∀ (s : State) (i : SlotId) (x : TagEntry), s.bypassed i = false → (s.lane i).entry 32 = some x → x.cls = .ident →
    let cap := fromLe x.snoop.capacity.toList
    let id := (s.slot i).identity
    let sd := decide (x.snoop.serial ≠ id.serial)
    let cd := decide (cap ≠ id.capacity)
    let offered : Prop := x.done = 1 ∧ x.snoop.intact = true ∧ x.untracked = false
    ∃ t, exec (.successStatus i .nonQueued) s = .next t ∧ (t.lane i).entry 32 = none ∧
      (∀ e, e ≠ 32 → (t.lane i).entry e = (s.lane i).entry e) ∧ (∀ j, j ≠ i → t.lane j = s.lane j) ∧
      (¬offered → t = { s with lanes := t.lanes }) ∧
      (offered →
        ((s.slot i).phase = .idle → (s.slot i).orphaned = false → t = { s with
          lanes := t.lanes
          slots := s.slots.set i { s.slot i with
            identity := { valid := decide (1 ≤ cap), serial := x.snoop.serial, capacity := cap } } }) ∧
        ((s.slot i).phase = .empty ∨ ((s.slot i).phase = .idle ∧ (s.slot i).orphaned = true) →
          t = { s with lanes := t.lanes }) ∧
        ((s.slot i).phase ≠ .empty → (s.slot i).phase ≠ .idle → sd = false → cd = false →
          t = { s with lanes := t.lanes }) ∧
        ((s.slot i).phase ≠ .empty → (s.slot i).phase ≠ .idle → sd = true ∨ cd = true →
          t.slots = s.slots.set i { s.slot i with counters := { (s.slot i).counters with
            anomalies := min ((s.slot i).counters.anomalies + 1) 65535 } } ∧
          (t.capture, t.alerts) = delivered (s.capture, s.alerts)
            { slot := i, tag := 32, lba := 0, time := s.timebase, detail := .anomaly sd cd cap } ∧
          t = { s with lanes := t.lanes, slots := t.slots, capture := t.capture, alerts := t.alerts }))

/-- An error status goes to the server and closes its failing entry without a sample; for a queued tag every other queued entry closes as
aborted and is counted, entry 32 left alone. In a phase that counts, MEDIA on a failing entry issued in BURN or SCAN adds one to media,
inserts a reported LBA and raises a MEDIA event with the flag its delivery sets, the ship state as it was; issued in SHIP it adds one to
ship_bad and raises and inserts nothing; issued in another phase it has no effect but the closing. The other kinds, the other phases and a
FREE entry have none either. The position leaves a closed entry, with a sector in progress on it, and no other (R26, R34, R35, R36, R60,
R100). -/
def Obligations.ErrorStatusClosesAndAborts : Prop :=
  ∀ (s : State) (i : SlotId) (r : ErrorReport), s.bypassed i = false →
    let failing : EntryId := match r.tag with
      | none => 32
      | some t => ⟨t.val, Nat.lt_succ_of_lt t.isLt⟩
    let q := s.slot i
    let counts := q.phase ≠ .empty ∧ q.phase ≠ .idle
    let siblings := match r.tag with
      | none => 0
      | some g => allTags.countP (fun t => t ≠ g ∧ ((s.lane i).entry (tagEntry t)).isSome)
    let closed (e : EntryId) : Bool :=
      (e == failing || (r.tag.isSome && decide (e.val < 32))) && ((s.lane i).entry e).isSome
    let onlyCloses (t : State) : Prop := (t.slot i).counters.media = q.counters.media ∧ (t.slot i).ship = q.ship ∧
      (t.slot i).defects = q.defects ∧ t.freeExtents = s.freeExtents ∧ t.capture = s.capture ∧ t.alerts = s.alerts
    ∃ t, exec (.errorStatus i r) s = .next t ∧
      (∀ e, (t.lane i).entry e =
        if e = failing ∨ (r.tag.isSome ∧ e.val < 32) then none else (s.lane i).entry e) ∧
      (t.lane i).position = (s.lane i).position.filter (fun p => !closed p.entry) ∧
      (t.lane i).sector = (s.lane i).sector.filter (fun z => !closed z.entry) ∧
      ((s.lane i).upstream = [] → (t.lane i).toServer = [.status (.error r)]) ∧
      (counts → (t.slot i).counters.aborted =
        if siblings = 0 then q.counters.aborted else min (q.counters.aborted + siblings) 65535) ∧
      (∀ x lba, counts → (s.lane i).entry failing = some x → r.kind = .media lba →
        (x.issuePhase = .burn ∨ x.issuePhase = .scan →
          (t.slot i).counters.media = min (q.counters.media + 1) 65535 ∧ (t.slot i).ship = q.ship ∧
          (lba = none → (t.slot i).defects = q.defects ∧ t.freeExtents = s.freeExtents) ∧
          (∀ l, lba = some l → ((t.slot i).defects, t.freeExtents) =
            insertDefect s.profile.defectCap l.toNat .media x.pass q.defects s.freeExtents) ∧
          (t.capture, t.alerts) = delivered (s.capture, s.alerts)
            { slot := i, tag := failing, lba := (lba.map BitVec.toNat).getD x.lba, time := s.timebase
              detail := .media x.cls x.lba x.count lba.isSome x.errorSectors }) ∧
        (x.issuePhase = .ship → (t.slot i).ship = { q.ship with bad := min (q.ship.bad + 1) 65535 } ∧
          (t.slot i).counters.media = q.counters.media ∧ (t.slot i).defects = q.defects ∧
          t.freeExtents = s.freeExtents ∧ t.capture = s.capture ∧ t.alerts = s.alerts) ∧
        (x.issuePhase ≠ .burn → x.issuePhase ≠ .scan → x.issuePhase ≠ .ship → onlyCloses t)) ∧
      ((∀ lba, r.kind ≠ .media lba) ∨ (s.lane i).entry failing = none ∨ ¬counts → onlyCloses t) ∧
      (¬counts → t.slot i = q) ∧
      t.slot i = { q with
        ship := (t.slot i).ship, defects := (t.slot i).defects
        counters := { q.counters with
          media := (t.slot i).counters.media, aborted := (t.slot i).counters.aborted } } ∧
      (∀ g : AlertFlag, g ≠ .captureNew → g ≠ .stagedLost → g ≠ .unmatched → t.alertSet g = s.alertSet g) ∧
      (∀ j, j ≠ i → t.slot j = s.slot j ∧ t.lane j = s.lane j) ∧
      t = { s with
        slots := t.slots, lanes := t.lanes, freeExtents := t.freeExtents, capture := t.capture, alerts := t.alerts }

/-- COMMAND_TIMEOUT of an OPEN entry issued in BURN, SCAN or SHIP whose age has reached the command timeout: the entry is LATE, timeouts
rises by one, ship_bad for SHIP, and a TIMEOUT event is raised, with the flag its delivery sets, in a phase that counts (R26, R37,
R100). DRIVE_LINK_RESET outside bypass:
every entry FREE, position none, abandoned up by the number of entries in a phase that counts, nothing else changed; that the waiting
statuses, a drive's own among them, leave the list in EMPTY too is the model's choice, log entry 13 (R40, R41, R42). -/
def Obligations.TimeoutAndLinkReset : Prop :=
  (∀ (s : State) (i : SlotId) (e : EntryId) (x : TagEntry), s.bypassed i = false → (s.lane i).entry e = some x →
    x.late = false → (x.issuePhase = .burn ∨ x.issuePhase = .scan ∨ x.issuePhase = .ship) →
    s.profile.commandTimeout * 1000 ≤ s.elapsed x.issueTime →
      let q := s.slot i
      let counts := q.phase ≠ .empty ∧ q.phase ≠ .idle
      ∃ t, exec (.commandTimeout i e) s = .next t ∧
        t.lanes = s.lanes.set i ((s.lane i).setEntry e (some { x with late := true })) ∧
        (counts → x.issuePhase = .ship → t.slots = s.slots.set i
          { q with ship := { q.ship with bad := min (q.ship.bad + 1) 65535 } }) ∧
        (counts → x.issuePhase ≠ .ship → t.slots = s.slots.set i
          { q with counters := { q.counters with timeouts := min (q.counters.timeouts + 1) 65535 } }) ∧
        (counts → (t.capture, t.alerts) = delivered (s.capture, s.alerts)
          { slot := i, tag := e, lba := x.lba, time := s.timebase
            detail := .timeout x.cls x.count x.done x.errorSectors }) ∧
        (¬counts → t = { s with lanes := t.lanes }) ∧
        t = { s with lanes := t.lanes, slots := t.slots, capture := t.capture, alerts := t.alerts }) ∧
  ∀ (s : State) (i : SlotId), s.bypassed i = false →
    ∃ t, exec (.driveLinkReset i) s = .next t ∧
      (∀ e, (t.lane i).entry e = none) ∧ (t.lane i).position = none ∧ (t.lane i).sector = none ∧
      (t.lane i).upstream = [] ∧
      t.slot i = (if (s.slot i).phase = .empty ∨ (s.slot i).phase = .idle then s.slot i
        else { s.slot i with counters := { (s.slot i).counters with
          abandoned := min ((s.slot i).counters.abandoned +
            allEntries.countP (fun e => ((s.lane i).entry e).isSome)) 65535 } }) ∧
      (∀ j, j ≠ i → t.slot j = s.slot j ∧ t.lane j = s.lane j) ∧ t = { s with slots := t.slots, lanes := t.lanes }

/-! ## Windows and the pattern table -/

/-- WINDOW_WRITE of a record with valid codes: BUSY where a slot in the old or the new mask is not quiet; else window n is the record
with the clamping of R47, the reply carries it as stored with the clamped flag, and the ship state of every slot of either mask in
HOLD over SHIP is emptied with the pad byte from the ship fill byte; nothing else changes. A number above 15 or a code that names no
value answers RANGE (R47, R56, R154). WINDOW_READ returns the window as stored, with its resolved range for the slot, 0 and 0 where it
matches nothing, and whether it is the slot's record window, and changes nothing; a window above 15 or a slot above 7 answers RANGE
(R48, R49, R53, R57, Table 12-3). That the resolved bit is set for a window that is disabled or not applied to the slot is log entry
15. -/
def Obligations.WindowWriteAndRead : Prop :=
  (∀ (s : State) (n : Fin 16) (en mask an ac ki fill : Byte) (base len start tlen : Nat), s.ready → base < 2 ^ 48 →
    len < 2 ^ 48 → start < 65536 → tlen < 65536 →
      let record (x y z : Nat) : List Byte := le 6 base ++ le 6 x ++ le 2 y ++ le 2 z
      let c := exec (.windowWrite (sixteenByte n :: [en, mask, an, ac, ki, fill] ++ record len start tlen)) s
      let start' := min start 1023
      let tlen' := min (max 1 (min tlen 1024)) (1024 - start')
      let quiet (i : SlotId) : Prop := (s.slot i).phase ≠ .burn ∧ (s.slot i).phase ≠ .scan ∧ (s.slot i).phase ≠ .ship ∧
        ∀ e, (s.lane i).entry e = none
      let reached (i : SlotId) : Prop := s.windows[n].mask.getLsbD i.val = true ∨ mask.getLsbD i.val = true
      let valid := an.toNat ≤ 1 ∧ ac.toNat ≤ 3 ∧ ki.toNat ≤ 2
      (¬valid → c = .next { s with reply := { status := .range, payload := [] } }) ∧
        (valid → ¬(∀ i, reached i → quiet i) → c = .next { s with reply := { status := .busy, payload := [] } }) ∧
        (valid → (∀ i, reached i → quiet i) → ∃ t w, c = .next t ∧ t.windows = s.windows.set n w ∧
          w.bytes = [flagByte (en != 0#8), mask, an, ac, ki, fill] ++ record (max 1 len) start' tlen' ∧
          (w.enabled = (en != 0#8) ∧ w.mask = mask ∧ w.fill = fill ∧ w.base = base ∧ w.length = max 1 len ∧
            w.tableStart = start' ∧ w.tableLength = tlen') ∧
          t.reply = { status := .ok, payload := w.bytes ++
            [flagByte (len = 0 || start' != start || tlen' != tlen)] } ∧
          (∀ i, (reached i ∧ ∃ m th, (s.slot i).phase = .hold .ship m th) → t.slot i = { s.slot i with
            ship := { written := 0#17, verified := 0#17, filled := 0, verifiedFill := 0, bad := 0
                      padByte := s.profile.shipFill } }) ∧
          (∀ i, ¬(reached i ∧ ∃ m th, (s.slot i).phase = .hold .ship m th) → t.slot i = s.slot i) ∧
          t = { s with windows := t.windows, slots := t.slots, reply := t.reply })) ∧
  (∀ (s : State) (b : Byte) (record : List Byte), s.ready → 16 ≤ b.toNat → record.length = 22 →
    exec (.windowWrite (b :: record)) s = .next { s with reply := { status := .range, payload := [] } }) ∧
  (∀ (s : State) (a b : Byte), s.ready → 16 ≤ a.toNat ∨ 8 ≤ b.toNat →
    exec (.windowRead [a, b]) s = .next { s with reply := { status := .range, payload := [] } }) ∧
  ∀ (s : State) (n : Fin 16) (i : SlotId), s.ready →
    let w := s.windows[n]
    ∃ t, exec (.windowRead [sixteenByte n, slotByte i]) s = .next t ∧ t = { s with reply := t.reply } ∧
      t.reply.status = .ok ∧
      let p := t.reply.payload
      hasField p 0 (flagByte w.enabled :: w.mask :: le 1 w.anchor.code ++ le 1 w.action.code ++ le 1 w.kind.code ++
        [w.fill] ++ le 6 w.base ++ le 6 w.length ++ le 2 w.tableStart ++ le 2 w.tableLength) ∧
      hasField p 22 (le 1 (bit (w.resolve (s.slot i).identity).isSome +
        2 * bit (recordWindow s.windows i (s.slot i).identity == some n))) ∧
      (w.anchor = .fromStart →
        hasField p 23 (le 6 w.base ++ le 6 (min (w.base + w.length - 1) (2 ^ 48 - 1)))) ∧
      (w.anchor = .fromEnd →
        (¬((s.slot i).identity.valid = true ∧ 1 ≤ w.base ∧ w.base ≤ (s.slot i).identity.capacity) →
          hasField p 22 (le 1 (2 * bit (recordWindow s.windows i (s.slot i).identity == some n)) ++ le 12 0)) ∧
        ((s.slot i).identity.valid = true → 1 ≤ w.base → w.base ≤ (s.slot i).identity.capacity →
          let first := (s.slot i).identity.capacity - w.base
          hasField p 23 (le 6 first ++ le 6 (min (first + w.length - 1) ((s.slot i).identity.capacity - 1)))))

/-- TABLE_WRITE of k words, 1 to 15, that stay below word 1024: BUSY where a slot of the part is not quiet; else the words replace
those from the index on, every other word reads as before, the table stays in canonical form and nothing else changes. An index and a
count that run past word 1023 answer RANGE (R58, R172). -/
def Obligations.TableWriteStoresWords : Prop :=
  ∀ (s : State) (index : Nat) (words : List Word32), s.ready → index < 65536 → 1 ≤ words.length → words.length ≤ 15 →
    let c := exec (.tableWrite (le 2 index ++ le 1 words.length ++ words.flatMap (fun x => le 4 x.toNat))) s
    let quiet (i : SlotId) : Prop := (s.slot i).phase ≠ .burn ∧ (s.slot i).phase ≠ .scan ∧ (s.slot i).phase ≠ .ship ∧
      ∀ e, (s.lane i).entry e = none
    (1024 < index + words.length → c = .next { s with reply := { status := .range, payload := [] } }) ∧
      (index + words.length ≤ 1024 → ¬(∀ i, quiet i) →
        c = .next { s with reply := { status := .busy, payload := [] } }) ∧
      (index + words.length ≤ 1024 → (∀ i, quiet i) → Memory.wf s.patternTable = true → ∃ t, c = .next t ∧
        Memory.wf t.patternTable = true ∧
        (∀ (k : Nat) (x : Word32), words[k]? = some x → readTableWord t.patternTable (index + k) = x) ∧
        (∀ w, w < index ∨ index + words.length ≤ w →
          readTableWord t.patternTable w = readTableWord s.patternTable w) ∧
        t = { s with patternTable := t.patternTable, reply := { status := .ok, payload := [] } })

/-- The matching window of a sector is the lowest-numbered window that is enabled, applies to the slot and whose resolved range
contains the LBA, and there is none where no window meets all three. A START window resolves to its base and base + length - 1 clipped
to 2^48 - 1, whatever the identity, and the range is never empty (R48, R50). -/
def Obligations.MatchingWindowIsLowest : Prop :=
  (∀ (ws : Vector Window 16) (i : SlotId) (id : Identity) (lba : Nat),
    let meets (k : Fin 16) : Prop := ws[k].enabled = true ∧ ws[k].mask.getLsbD i.val = true ∧
      ∃ first last, ws[k].resolve id = some (first, last) ∧ first ≤ lba ∧ lba ≤ last
    (∀ k, matchingWindow ws i id lba = some k ↔ meets k ∧ ∀ j, j < k → ¬meets j) ∧
      (matchingWindow ws i id lba = none ↔ ∀ k, ¬meets k)) ∧
  ∀ (w : Window) (id : Identity), w.anchor = .fromStart → w.base < 2 ^ 48 → 1 ≤ w.length →
    w.resolve id = some (w.base, min (w.base + w.length - 1) (2 ^ 48 - 1)) ∧
      w.base ≤ min (w.base + w.length - 1) (2 ^ 48 - 1)

/-! ## Patterns -/

/-- The STAMP image: W words, the low 32 bits of the LBA, the high 16 bits over the pass, then the xorshift sequence from the mixed
start, 0 replaced (R61, R62). FILL and the ship fill: every byte the fill byte, whatever the LBA (R63). TABLE: word k the pattern table
word t0 + (L x W + k) mod n (R64). A read sector matches exactly where its words are the image's; it is STALE exactly where it is an
intact STAMP of an older pass at the LBA, and SLIP exactly where it is one of the same pass within the slip reach, with the signed
offset; a CORRUPT result gives the lowest differing index, the two words there and the number of differing words; images of other
kinds only match or are CORRUPT (R66 to R69). -/
def Obligations.StampImageAndClassification : Prop :=
  (∀ (w lba pass : Nat) (seed : Word32), 2 ≤ w → lba < 2 ^ 48 → pass < 65536 →
    let x := seed ^^^ BitVec.ofNat 32 lba ^^^ BitVec.ofNat 32 (pass * 2654435769)
    let words := stampWords w lba pass seed
    words.length = w ∧ words[0]? = some (BitVec.ofNat 32 (lba % 2 ^ 32)) ∧
      words[1]? = some (BitVec.ofNat 32 (lba / 2 ^ 32 * 65536 + pass)) ∧
      (∀ k, k + 2 < w → words[k + 2]? = some (xorshift^[k + 1] (if x = 0#32 then 0x1D872B41#32 else x))) ∧
      claimedLba words = lba ∧ claimedPass words = pass) ∧
  (∀ (m : List Host.Cell) (w : Nat),
    (∀ (b : Byte) (img : Image), img = .fill b ∨ img = .shipFill b →
      (img.words m w).length = w ∧ ∀ j < 4 * w, img.byteAt m w j = b) ∧
    ∀ lba start n : Nat, ((Image.table lba start n).words m w).length = w ∧
      ∀ k < w, ((Image.table lba start n).words m w)[k]? = some (readTableWord m (start + (lba * w + k) % n))) ∧
  ∀ (m : List Host.Cell) (w reach : Nat) (img : Image) (received : List Word32), 2 ≤ w →
    let c := classify m w reach img received
    (c = .isMatch ↔ received = img.words m w) ∧
      (∀ lba pass seed old, img = .stamp lba pass seed → lba < 2 ^ 48 → pass < 65536 →
        (c = .stale old ↔ 1 ≤ old ∧ old < pass ∧ received = stampWords w lba old seed)) ∧
      (∀ lba pass seed offset, img = .stamp lba pass seed → lba < 2 ^ 48 → pass < 65536 →
        (c = .slip offset ↔ ∃ other : Nat, other < 2 ^ 48 ∧ other ≠ lba ∧ offset = (other : Int) - lba ∧
          offset.natAbs ≤ reach ∧ received = stampWords w other pass seed)) ∧
      (∀ first expected actual n, c = .corrupt first expected actual n → received.length = (img.words m w).length →
        (img.words m w)[first]? = some expected ∧ received[first]? = some actual ∧ expected ≠ actual ∧
          (∀ j < first, received[j]? = (img.words m w)[j]?) ∧
          n = (List.range received.length).countP (fun j => received[j]? ≠ (img.words m w)[j]?)) ∧
      ((∀ lba pass seed, img ≠ .stamp lba pass seed) → received ≠ img.words m w →
        ∃ first expected actual n, c = .corrupt first expected actual n)

/-! ## Defect extents -/

/-- THE HEADLINE OF THE DEFECT POOL: an insertion into a list as R78 keeps it. Within an extent it is absorbed, with one more hit, the
cause added and the lower first pass (R81). Else the extent that ends just below the LBA, if it is below 65535 long, grows upward and,
where the next one then touches and the two fit one extent, takes it in and a record returns (R82); else the one that starts just above
grows downward (R83); else, with the list below its cap and a free record, an extent of the one LBA is created in its place (R84); else
it is unrecorded and TRUNCATED set, every extent as it was. The list stays as R78 says, defect_sectors the sum of the lengths, the
records in number the same, and unless unrecorded it covers exactly what it covered and the LBA (R76, R78, R80). -/
def Obligations.InsertionKeepsTheList : Prop :=
  ∀ (cap l : Nat) (c : Cause) (p : Nat) (d : Defects) (free : Nat), l < 2 ^ 48 → extentsOk d.extents = true →
    d.extents.length ≤ 512 → d.sectors = sectorSum d.extents →
      let result := insertDefect cap l c p d free
      let covers (es : List Extent) (x : Nat) : Prop := ∃ e ∈ es, e.start ≤ x ∧ x < e.start + e.length
      let hit (e : Extent) : Extent := { e with
        hits := min (e.hits + 1) 255, corrupt := e.corrupt || c == .corrupt, media := e.media || c == .media
        firstPass := min e.firstPass p }
      let growsUp (e : Extent) : Prop := e.start + e.length = l ∧ e.length < 65535
      let growsDown (e : Extent) : Prop := e.start = l + 1 ∧ e.length < 65535
      let takes (e f : Extent) : Prop := e.start + e.length = f.start ∧ e.length + f.length ≤ 65535
      let union (e f : Extent) : Extent :=
        { start := e.start, length := e.length + f.length, corrupt := e.corrupt || f.corrupt
          media := e.media || f.media, firstPass := min e.firstPass f.firstPass, hits := min (e.hits + f.hits) 255 }
      let grown (es : List Extent) : Defects := { d with extents := es, sectors := d.sectors + 1 }
      let free0 := ¬covers d.extents l
      let noneUp := ∀ e ∈ d.extents, ¬growsUp e
      let noneDown := ∀ e ∈ d.extents, ¬growsDown e
      (∀ pre e post, d.extents = pre ++ e :: post → e.start ≤ l → l < e.start + e.length →
        result = ({ d with extents := pre ++ hit e :: post }, free)) ∧
      (∀ pre e post, d.extents = pre ++ e :: post → free0 → growsUp e →
        let g : Extent := { hit e with length := e.length + 1 }
        (∀ f rest, post = f :: rest → takes g f → result = (grown (pre ++ union g f :: rest), free + 1)) ∧
        ((∀ f rest, post = f :: rest → ¬takes g f) → result = (grown (pre ++ g :: post), free))) ∧
      (∀ pre f post, d.extents = pre ++ f :: post → free0 → noneUp → growsDown f →
        result = (grown (pre ++ { hit f with start := l, length := f.length + 1 } :: post), free)) ∧
      (free0 → noneUp → noneDown → d.extents.length < cap → 0 < free → ∃ pre post, d.extents = pre ++ post ∧
        result = (grown (pre ++ { start := l, length := 1, corrupt := c == .corrupt, media := c == .media
                                  firstPass := p, hits := 1 } :: post), free - 1)) ∧
      (free0 → noneUp → noneDown → cap ≤ d.extents.length ∨ free = 0 →
        result = ({ d with unrecorded := min (d.unrecorded + 1) 65535, truncated := true }, free)) ∧
      extentsOk result.1.extents = true ∧ result.1.sectors = sectorSum result.1.extents ∧
      result.2 + result.1.extents.length = free + d.extents.length ∧
      (covers d.extents l ∨ ¬noneUp ∨ ¬noneDown ∨ (d.extents.length < cap ∧ 0 < free) →
        ∀ x, covers result.1.extents x ↔ covers d.extents x ∨ x = l)

/-! ## Capture records -/

/-- The delivery of a capture event, by the first step that applies: into the lowest matching record that is EMPTY or READ; over the
lowest matching record that is FULL or OVERWRITTEN and not locked; into staging, aimed at the one matching record, which is the locked
one, with staged_lost where it replaces an event; counted unmatched. A matching record is not OFF and its filter names the event's slot
and kind. An event raised in a phase that counts is delivered and sets the flag (R90 to R94). -/
def Obligations.CaptureDelivery : Prop :=
  (∀ (u : CaptureUnit) (e : CaptureEvent),
    let accepts (n : Fin 16) : Prop := u.records[n].state ≠ .off ∧ u.records[n].slotMask.getLsbD e.slot.val = true ∧
      u.records[n].kindMask.getLsbD e.detail.kind = true
    let free (n : Fin 16) : Prop := accepts n ∧ (u.records[n].state = .empty ∨ ∃ x, u.records[n].state = .read x)
    let unlocked (n : Fin 16) : Prop := accepts n ∧ u.locked ≠ some n ∧
      ∃ x, u.records[n].state = .full x ∨ u.records[n].state = .overwritten x
    let put (n : Fin 16) (st : RecordState) : CaptureUnit :=
      let r := { u.records[n] with state := st, arrivals := min (u.records[n].arrivals + 1) 65535 }
      { u with records := u.records.set n r }
    (∀ n, free n → (∀ m, m < n → ¬free m) → u.deliver e = (put n (.full e), some .captureNew)) ∧
      ((∀ m, ¬free m) → ∀ n, unlocked n → (∀ m, m < n → ¬unlocked m) →
        u.deliver e = (put n (.overwritten e), some .captureNew)) ∧
      ((∀ m, ¬free m) → (∀ m, ¬unlocked m) → ∀ n, accepts n → u.locked = some n ∧ (∀ m, accepts m → m = n) ∧
        (u.staging = none → u.deliver e = ({ u with staging := some { event := e, aim := n } }, none)) ∧
        (u.staging ≠ none → u.deliver e =
          ({ u with
              staging := some { event := e, aim := n }, stagedLost := min (u.stagedLost + 1) 65535 },
            some .stagedLost))) ∧
      ((∀ m, ¬accepts m) → u.deliver e =
        ({ u with unmatched := min (u.unmatched + 1) 65535 }, some .unmatched))) ∧
  ∀ (s : State) (e : CaptureEvent), (s.slot e.slot).phase ≠ .empty → (s.slot e.slot).phase ≠ .idle →
    s.capturing e = { s with
      capture := (s.capture.deliver e).1
      alerts := match (s.capture.deliver e).2 with
        | none => s.alerts
        | some f => s.alerts ||| (1#17 <<< f.bit) }

/-- The capture commands outside a load (R95 to R99, Table 12-6). A record above 15, or a kind bit beyond the six, answers RANGE.
CAPTURE_SET: the filter is replaced, content and arrivals emptied, the lock on the record released, and an event staged for it
discarded and counted with STAGED_LOST. CAPTURE_OPEN: another lock is released first; the record is open, and locked exactly where it is
FULL or OVERWRITTEN; the reply is its header. CAPTURE_READ: the content of the open record, REFUSED without one. CAPTURE_CLOSE: a lock
is released and no record is open. A release makes the record READ, or FULL with the event staged for it and CAPTURE_NEW. -/
def Obligations.CaptureCommands : Prop :=
  ∀ (s : State) (n : Fin 16), s.ready →
    let u := s.capture
    let released (m : Fin 16) : CaptureRecord :=
      match u.staging with
      | none => { u.records[m] with state := (u.records[m].state.content.map .read).getD u.records[m].state }
      | some st =>
        if st.aim = m then
          { u.records[m] with state := .full st.event, arrivals := min (u.records[m].arrivals + 1) 65535 }
        else { u.records[m] with state := (u.records[m].state.content.map .read).getD u.records[m].state }
    let afterRelease (m : Fin 16) : CaptureUnit :=
      { u with
        records := u.records.set m (released m), locked := none
        staging := u.staging.filter (fun st => st.aim ≠ m) }
    let flagged (m : Fin 16) : BitVec 17 :=
      if u.staging.map (·.aim) = some m then s.alerts ||| 1#17 else s.alerts
    (∀ b : Byte, 16 ≤ b.toNat →
      exec (.captureOpen [b]) s = .next { s with reply := { status := .range, payload := [] } } ∧
      ∀ slots kinds : Byte, exec (.captureSet [b, slots, kinds]) s =
        .next { s with reply := { status := .range, payload := [] } }) ∧
    (∀ slots kinds : Byte,
      (64 ≤ kinds.toNat → exec (.captureSet [sixteenByte n, slots, kinds]) s =
        .next { s with reply := { status := .range, payload := [] } }) ∧
      (kinds.toNat < 64 → exec (.captureSet [sixteenByte n, slots, kinds]) s = .next { s with
        capture := { u with
          records := u.records.set n
            { slotMask := slots, kindMask := kinds.setWidth 6, arrivals := 0
              state := if slots = 0#8 ∧ kinds = 0#8 then .off else .empty }
          staging := u.staging.filter (fun st => st.aim ≠ n)
          stagedLost := if u.staging.map (·.aim) = some n then min (u.stagedLost + 1) 65535 else u.stagedLost
          locked := u.locked.filter (· ≠ n) }
        alerts := if u.staging.map (·.aim) = some n then s.alerts ||| 2#17 else s.alerts
        reply := { status := .ok, payload := [] } })) ∧
    (∃ t, exec (.captureOpen [sixteenByte n]) s = .next t ∧ t.reply.status = .ok ∧
      (let v : CaptureUnit := match u.locked with
          | none => u
          | some m => if m = n then u else afterRelease m
        t.capture = { v with
          openRecord := some n
          locked := if v.records[n].state.isUnread then some n else none }) ∧
      t.alerts = (match u.locked with
        | none => s.alerts
        | some m => if m = n then s.alerts else flagged m) ∧
      t.reply.payload = le 1 n.val ++ le 1 t.capture.records[n].state.code ++
        le 1 (bit (t.capture.locked == some n)) ++ [t.capture.records[n].slotMask] ++
        le 1 t.capture.records[n].kindMask.toNat ++ le 2 t.capture.records[n].arrivals ++
        le 1 (bit (t.capture.staging.map (·.aim) == some n)) ∧
      t = { s with capture := t.capture, alerts := t.alerts, reply := t.reply }) ∧
    ((u.openRecord = none ∨ (∃ m, u.openRecord = some m ∧ u.records[m].state.content = none)) →
      exec (.captureRead []) s = .next { s with reply := { status := .refused, payload := [] } }) ∧
    (∀ m x, u.openRecord = some m → u.records[m].state.content = some x →
      exec (.captureRead []) s = .next { s with reply :=
        { status := .ok
          payload := le 1 u.records[m].state.code ++ le 1 x.slot.val ++ le 1 x.detail.kind ++ le 1 x.tag.val ++
            le 6 x.lba ++ le 4 x.time.toNat ++ x.detail.bytes } }) ∧
    (u.locked = none → exec (.captureClose []) s = .next { s with
      capture := { u with openRecord := none }, reply := { status := .ok, payload := [] } }) ∧
    ∀ m, u.locked = some m → exec (.captureClose []) s = .next { s with
      capture := { afterRelease m with openRecord := none }, alerts := flagged m
      reply := { status := .ok, payload := [] } }

/-! ## Chamber line and soak -/

/-- The character receiver (R103, R104): the samples of a character from a line at mark are a good character of its byte where the stop
bit is at mark and data and parity hold an even number of ones, held back where all are at space, and else an error; a change that is at
mark again by the middle of the start bit forms nothing; the next start bit is not recognised before the line has been at mark.
CHAMBER_BYTE brings samples of the line outside reset and load (R119), which do in two parts what they do in one: where they show no
character the receiver alone moves on; one good character is taken (R106, R108, R109, R111, R16): in HUNT a byte 0xB0 to 0xBF begins a
frame with its low four bits, another is ignored; in a frame of fewer than eight bytes it is the next temperature; after eight it is the
status byte and completes the frame: readings, status and freshness replaced together, the stale timer restarted, a sequence gap counted,
the frame counted, the profile's H1 and H2 in effect from it on (R112), and each slot held at or above H2 and released at or below H1,
with SLOT_ATTN where that changes its hold. THE MODEL'S CHOICE: that the row carries samples is log entry 5; that nothing is taken in
reset is log entry 16. -/
def Obligations.ChamberByteTaken : Prop :=
  (∀ (data : Byte) (parity : Bool),
    let even := ((List.range 8).countP (fun k => data.getLsbD k) + (if parity then 1 else 0)) % 2 = 0
    (LineReceiver.waiting true).run (characterLevels data parity true) =
        (.waiting true, [if even then .byte data else .error]) ∧
      (LineReceiver.waiting true).run (characterLevels data parity false) =
        if data = 0#8 ∧ parity = false then (.heldBack 175 true, []) else (.waiting false, [.error])) ∧
  (∀ k, 1 ≤ k → k ≤ 8 → (LineReceiver.waiting true).run (List.replicate k false ++ List.replicate (9 - k) true) =
    (.waiting true, [])) ∧
  (∀ k, (LineReceiver.waiting false).run (List.replicate k false) = (.waiting false, [])) ∧
  (∀ m k, (LineReceiver.waiting m).run (List.replicate (k + 1) true) = (.waiting true, [])) ∧
  ∀ (s : State) (levels : List Bool),
    let x := s.chamber.receiver.run levels
    let heard : Chamber := { s.chamber with receiver := x.1 }
    let c := exec (.chamberByte levels) s
    (¬s.ready → c = .next s) ∧
    (s.ready → x.2 = [] ∨ x.2 = [.markAfterBreak] → c = .next { s with chamber := heard }) ∧
    (∀ more, ∃ t, c = .next t ∧ exec (.chamberByte (levels ++ more)) s = exec (.chamberByte more) t) ∧
    (∀ b, s.ready → x.2 = [.byte b] → s.chamber.frame = none →
      (b.extractLsb' 4 4 ≠ 0xB#4 → c = .next { s with chamber := heard }) ∧
      (b.extractLsb' 4 4 = 0xB#4 →
        c = .next { s with chamber := { heard with frame := some { seq := b.extractLsb' 0 4, bytes := [] } } })) ∧
    ∀ b f, s.ready → x.2 = [.byte b] → s.chamber.frame = some f →
      (f.bytes.length < 8 → c = .next
        { s with chamber := { heard with frame := some { f with bytes := f.bytes ++ [b] } } }) ∧
      (f.bytes.length = 8 → ∃ t, c = .next t ∧
        (∀ i : SlotId, t.chamber.readings[i] =
          let v := (f.bytes.getD i.val 0#8).toNat
          if v ≤ 250 then .valid v else if v ≤ 254 then .fault else .none) ∧
        t.chamber = { heard with
          frame := none, readings := t.chamber.readings, status := b, fresh := true, staleTimer := some s.timebase
          seqGaps := if s.chamber.prevSeq.isSome ∧ s.chamber.prevSeq.map (· + 1#4) ≠ some f.seq
            then min (s.chamber.seqGaps + 1) 65535 else s.chamber.seqGaps
          prevSeq := some f.seq, framesTaken := min (s.chamber.framesTaken + 1) 4294967295
          h1InEffect := s.profile.h1 } ∧
        (∀ i : SlotId,
          let ph := (s.slot i).phase
          let hot := ∃ h, t.chamber.readings[i] = .valid h ∧ s.profile.h2 ≤ h
          let cool := ∃ h, t.chamber.readings[i] = .valid h ∧ h < s.profile.h2 ∧ h ≤ s.profile.h1
          (hot → (∀ a : ActivePhase, ph = a.phase → t.slot i = { s.slot i with phase := .hold a false true }) ∧
            (∀ a m th, ph = .hold a m th → t.slot i = { s.slot i with phase := .hold a m true })) ∧
          (cool → ∀ a m th, ph = .hold a m th →
            t.slot i = { s.slot i with phase := if th = false ∨ m = true then .hold a m false else a.phase }) ∧
          (¬hot → ¬cool → t.slot i = s.slot i) ∧
          (ph = .empty ∨ ph = .idle ∨ ph = .gradeWait ∨ ph = .graded ∨ ph = .sealed → t.slot i = s.slot i) ∧
          (cool → (∃ a : ActivePhase, ph = a.phase) → t.slot i = s.slot i) ∧
          (t.alertSet (.slotAttn i) = true ↔ s.alertSet (.slotAttn i) = true ∨
            (hot ∧ ((∃ a : ActivePhase, ph = a.phase) ∨ ∃ a m, ph = .hold a m false)) ∨
            (cool ∧ ∃ a, ph = .hold a false true))) ∧
        (∀ g : AlertFlag, (∀ i, g ≠ .slotAttn i) → t.alertSet g = s.alertSet g) ∧
        t = { s with chamber := t.chamber, slots := t.slots, alerts := t.alerts })

/-- A character error, a held-back character at the return to mark among them: in a frame, the frame is discarded, line_errors rises by
one, saturating, CHAMBER_LINE is set and the state is HUNT; in HUNT, line_errors rises by one and no flag is set. The readings remain
(R107). The same where the samples of a CHAMBER_BYTE show one. THE MODEL'S CHOICE, log entry 5: that CHAMBER_CHARACTER_ERROR brings no
samples, so that a mark has yet to come after it, but where it is the held-back character's, and that it changes nothing while
LINE_BREAK is set.
A line at space through 22 bit times, 352 sample periods after the sample of the leading edge, is a break; up to there the character
is held back, and one interrupted by a mark is no break. CHAMBER_BREAK, unless the line was at mark since the leading edge of the
character in progress or held back, and samples of a CHAMBER_BYTE that show a break, discard the frame in progress uncounted, count the
break and set LINE_BREAK, while which no character is formed; a mark then clears it, which LINE_BREAK_CLEAR takes, and which changes
nothing while LINE_BREAK is clear (R104, R105). STALE_TIMER_EXPIRY of a timer that has reached the timeout stops it, makes the readings
STALE and sets CHAMBER_STALE (R110). THE MODEL'S CHOICE: what the rows bring of the line is log entry 5; that the clear is taken during
a load is log entry 16; that an expiry before its time changes nothing is log entries 2 and 11. -/
def Obligations.ErrorsBreaksAndStaleness : Prop :=
  ((∀ n solid, (LineReceiver.heldBack n solid).run [true] = (.waiting true, [.error])) ∧
    ∀ s : State, s.ready →
      let taken (r : LineReceiver) (c : Host.Outcome State Fault Refusal) : Prop :=
        let counted : Chamber := { s.chamber with receiver := r, lineErrors := min (s.chamber.lineErrors + 1) 65535 }
        (s.chamber.frame = none → c = .next { s with chamber := counted }) ∧
        ∀ f, s.chamber.frame = some f → c = .next { s with
          chamber := { counted with frame := none }, alerts := s.alerts ||| (1#17 <<< 4) }
      (s.chamber.receiver = .inBreak → exec .chamberCharacterError s = .next s) ∧
      (s.chamber.receiver ≠ .inBreak → taken
        (match s.chamber.receiver with
          | .heldBack _ _ => .waiting true
          | .waiting _ => .waiting false
          | .character _ _ _ => .waiting false
          | .inBreak => .inBreak) (exec .chamberCharacterError s)) ∧
      ∀ levels, (s.chamber.receiver.run levels).2 = [.error] →
        taken (s.chamber.receiver.run levels).1 (exec (.chamberByte levels) s)) ∧
  (LineReceiver.waiting true).run (List.replicate 353 false) = (.inBreak, [.lineBreak]) ∧
  (∀ k, 169 ≤ k → k ≤ 352 → (LineReceiver.waiting true).run (List.replicate k false) = (.heldBack (k - 1) true, [])) ∧
  (∀ n k, (LineReceiver.heldBack n false).run (List.replicate k false) = (.heldBack n false, [])) ∧
  (∀ k, LineReceiver.inBreak.run (List.replicate k false) = (.inBreak, [])) ∧
  LineReceiver.inBreak.run [true] = (.waiting true, [.markAfterBreak]) ∧
  ∀ s : State,
    let r := s.chamber.receiver
    let atSpace : Prop := (∀ n bits, r ≠ .character n bits false) ∧ (∀ n, r ≠ .heldBack n false)
    let broken (after : LineReceiver) : State := { s with
      chamber := { s.chamber with frame := none, breaks := min (s.chamber.breaks + 1) 65535, receiver := after } }
    (s.ready → r ≠ .inBreak → atSpace → exec .chamberBreak s = .next (broken .inBreak)) ∧
    (r = .inBreak ∨ ¬atSpace → exec .chamberBreak s = .next s) ∧
    (∀ levels, s.ready → (r.run levels).2 = [.lineBreak] →
      exec (.chamberByte levels) s = .next (broken (r.run levels).1)) ∧
    (s.inReset = false → r = .inBreak → exec .lineBreakClear s =
      .next { s with chamber := { s.chamber with receiver := .waiting true } }) ∧
    (s.inReset = true ∨ r ≠ .inBreak → exec .lineBreakClear s = .next s) ∧
    (∀ began, s.inReset = false → s.chamber.staleTimer = some began →
      (s.profile.staleTimeout * 1000000 ≤ s.elapsed began → exec .staleTimerExpiry s = .next { s with
        chamber := { s.chamber with staleTimer := none, fresh := false }, alerts := s.alerts ||| (1#17 <<< 3) }) ∧
      (s.elapsed began < s.profile.staleTimeout * 1000000 → exec .staleTimerExpiry s = .next s)) ∧
    (s.chamber.staleTimer = none → exec .staleTimerExpiry s = .next s)

/-- SOAK_TICK one period after the last: each slot in HOLD has one more held second, each in BURN one more burn second and then one more
stale second, one more chamber-off second, or its credit: max_h, an excursion second above H1, a cold second below K0, and A raised by
the factor, saturating; with A at G x 15360 or more it moves to SCAN with SLOT_ATTN. Other slots do not change, nor anything but the
timer, which runs on by the period (R13, R115, R116). H1 is the one in
effect: a changed one counts from the next completed frame on (R112). -/
def Obligations.SoakTickTaken : Prop :=
  ∀ (s : State) (began : Time), s.inReset = false → s.soakTimer = some began → 1000000 ≤ s.elapsed began →
    ∃ t, exec .soakTick s = .next t ∧ t.soakTimer = some (began + 1000000#32) ∧
      (∀ i : SlotId,
        let r := s.slot i
        let k := r.soak
        let one (n : Nat) : Nat := min (n + 1) 4294967295
        let reading := s.chamber.readings[i]
        let off := s.chamber.status.getLsbD 0 = true ∨ s.chamber.status.getLsbD 1 = true
        ((∃ a m th, r.phase = .hold a m th) → t.slot i = { r with soak := { k with heldSeconds := one k.heldSeconds } }) ∧
        (r.phase ≠ .burn → (∀ a m th, r.phase ≠ .hold a m th) → t.slot i = r) ∧
        (r.phase = .burn → (s.chamber.fresh = false ∨ ∀ h, reading ≠ .valid h) → t.slot i = { r with
          soak := { k with burnSeconds := one k.burnSeconds, staleSeconds := one k.staleSeconds } }) ∧
        (∀ h, r.phase = .burn → s.chamber.fresh = true → reading = .valid h → off → t.slot i = { r with
          soak := { k with burnSeconds := one k.burnSeconds, chamberOffSeconds := one k.chamberOffSeconds } }) ∧
        ∀ h, r.phase = .burn → s.chamber.fresh = true → reading = .valid h → ¬off →
          let f := soakFactor s.profile h
          let a := min (k.a + f.getD 0) 4294967295
          t.slot i = { r with
            phase := if k.target * 15360 ≤ a then .scan else .burn
            soak := { k with
              burnSeconds := one k.burnSeconds, maxH := max k.maxH h
              excursionSeconds := if s.chamber.h1InEffect < h then one k.excursionSeconds else k.excursionSeconds
              coldSeconds := if f = none then one k.coldSeconds else k.coldSeconds
              a := a } }) ∧
      (∀ g : AlertFlag, t.alertSet g = true ↔ s.alertSet g = true ∨
        ∃ i, g = .slotAttn i ∧ (s.slot i).phase = .burn ∧ (t.slot i).phase = .scan) ∧
      t = { s with slots := t.slots, alerts := t.alerts, soakTimer := t.soakTimer }

/-- The soak factor of a VALID reading, for knots that rise: none, a cold second, below K0; between Ki and K(i+1) the exact product
over the difference of the knots truncated toward zero and added to Fi; F8 from K8 on; Fi at every knot; between the two factors of its
segment, and at most 4095 where the factors are (R114). -/
def Obligations.SoakFactorOfReading : Prop :=
  ∀ (p : Profile) (h : Nat), rising p.knots.toList = true → (∀ i : Fin 9, p.factors[i] ≤ 4095) →
    (h < p.knots[0] → soakFactor p h = none) ∧ (p.knots[8] ≤ h → soakFactor p h = some p.factors[8]) ∧
      (∀ i : Fin 9, soakFactor p p.knots[i] = some p.factors[i]) ∧
      (∀ i : Fin 8, p.knots[i.castSucc] ≤ h → h < p.knots[i.succ] → ∃ f : Nat, soakFactor p h = some f ∧
        (f : Int) = p.factors[i.castSucc] +
          Int.tdiv (((p.factors[i.succ] : Int) - p.factors[i.castSucc]) * ((h : Int) - p.knots[i.castSucc]))
            ((p.knots[i.succ] : Int) - p.knots[i.castSucc]) ∧
        min p.factors[i.castSucc] p.factors[i.succ] ≤ f ∧ f ≤ max p.factors[i.castSucc] p.factors[i.succ]) ∧
      ∀ f, soakFactor p h = some f → f ≤ 4095

/-! ## Grading -/

/-- GRADE_TAKE with the engine IDLE takes the head of the queue, the others move up, and the computation keeps the slot, the time and
the inputs as they stand (R124, R125). GRADE_COMPLETION leaves the engine IDLE; with the void mark clear and the slot in GRADE_WAIT the
answer becomes its grade result, its phase GRADED, and SLOT_ATTN and GRADE_DONE are set; otherwise nothing else changes (R18, R126,
R133). -/
def Obligations.GradeTakeAndCompletion : Prop :=
  (∀ (s : State) (i : SlotId) (rest : List SlotId), s.engine = none → s.gradeQueue = i :: rest →
    let r := s.slot i
    exec .gradeTake s = .next { s with
      gradeQueue := rest
      engine := some
        { slot := i, void := false, takeTime := s.timebase
          inputs :=
            { stale := r.counters.stale, slip := r.counters.slip, timeouts := r.counters.timeouts
              slowCount := r.latency.slowCount, excursionSeconds := r.soak.excursionSeconds, a := r.soak.a
              g := r.soak.target, extentCount := r.defects.extents.length, defectSectors := r.defects.sectors
              truncated := r.defects.truncated, items := s.profile.grading } } }) ∧
  ∀ (s : State) (c : Computation), s.engine = some c →
    (c.void = false → (s.slot c.slot).phase = .gradeWait → exec .gradeCompletion s = .next { s with
      engine := none
      slots := s.slots.set c.slot { s.slot c.slot with phase := .graded, grade := some c.inputs.answer }
      alerts := s.alerts ||| (1#17 <<< (9 + c.slot.val)) ||| (1#17 <<< 6) }) ∧
    (c.void = true ∨ (s.slot c.slot).phase ≠ .gradeWait → exec .gradeCompletion s = .next { s with engine := none })

/-- The answer of a computation: the score is the sum of the eight terms, each product and the sum held at 2^32 - 1, whatever the bin;
without an override the bin follows the thresholds, a score equal to a threshold in the lower bin, the reason SCORE, a score of 0 in
bin A and none rejected with B3 at 2^32 - 1 (R131); TRUNCATED, then the slip limit, then STRICT_SOAK with a shortfall override it with
bin REJECT (R128, R129, R132). -/
def Obligations.GradeAnswer : Prop :=
  ∀ x : GradeInputs, x.items.b1 ≤ x.items.b2 → x.items.b2 ≤ x.items.b3 →
    let g := x.items
    let limit := 4294967295
    let short := x.g - x.a / 15360
    let term (count weight : Nat) : Nat := min (count * weight) limit
    let score := min (term x.defectSectors g.wDefsec + term x.extentCount g.wExtent + term x.stale g.wStale +
      term x.slip g.wSlip + term x.timeouts g.wTimeout + term x.slowCount g.wSlow + term short g.wShort +
      term (x.excursionSeconds / 60) g.wHot) limit
    let overridden := x.truncated = true ∨ g.slipLimit ≤ x.slip ∨ (g.strictSoak = true ∧ 0 < short)
    x.answer.score = score ∧
      (¬overridden → x.answer.reason = .score ∧
        (x.answer.bin = .a ↔ score ≤ g.b1) ∧ (x.answer.bin = .b ↔ g.b1 < score ∧ score ≤ g.b2) ∧
        (x.answer.bin = .c ↔ g.b2 < score ∧ score ≤ g.b3) ∧ (x.answer.bin = .reject ↔ g.b3 < score) ∧
        (score = 0 → x.answer.bin = .a) ∧ (g.b3 = limit → x.answer.bin ≠ .reject)) ∧
      (x.truncated = true → x.answer.bin = .reject ∧ x.answer.reason = .truncated) ∧
      (x.truncated = false → g.slipLimit ≤ x.slip → x.answer.bin = .reject ∧ x.answer.reason = .slipLimit) ∧
      (x.truncated = false → x.slip < g.slipLimit → g.strictSoak = true → 0 < short →
        x.answer.bin = .reject ∧ x.answer.reason = .soakShort)

/-! ## Sort port -/

/-- The handshake (Table 9-1, R137 to R142). TAKE asserted in OFFER: RELEASE with the notice offered, STROBE down, SLOT and BIN as they
were, the slot's SORTED set; elsewhere only the level is taken. TAKE deasserted in RELEASE: the notice, if it is still queued, leaves and
the port is IDLE. FAULT asserted, or the timer reaching the timeout, in OFFER: STALLED with SORT_STALLED, the head kept. BUSY asserted
takes its level and ends no offer. SORT_RESUME: IDLE from STALLED, REFUSED elsewhere. Entering IDLE, and in IDLE at the fall of TAKE, BUSY
or FAULT, the port offers its head where the queue is not empty and all three levels are down. Nothing else changes. THE MODEL'S CHOICE:
that a timer's row before its time changes nothing is log entries 2 and 11; that a repeated edge of a pin is taken like the first, so that
TAKE asserted in OFFER with TAKE at that level already accepts the offer, is log entry 11. -/
def Obligations.SortHandshake : Prop :=
  ∀ s : State,
    let p := s.sort
    let idleWith (q : SortPort) : SortPort :=
      if q.handshake = .idle ∧ q.queue ≠ [] ∧ q.take = false ∧ q.busy = false ∧ q.fault = false then
        { q with handshake := .offer s.timebase }
      else q
    (∀ began n rest, p.handshake = .offer began → p.queue = n :: rest →
      p.strobe = true ∧ p.slotOut = BitVec.ofNat 3 n.slot.val ∧ p.binOut = BitVec.ofNat 3 (binCode n.bin) ∧
      ∃ t, exec .takeAsserted s = .next t ∧
        t = { s with
          sort := { p with take := true, handshake := .release n true }
          slots := s.slots.set n.slot { s.slot n.slot with sorted := true } } ∧
        t.sort.strobe = false ∧ t.sort.slotOut = p.slotOut ∧ t.sort.binOut = p.binOut) ∧
    ((∀ began, p.handshake ≠ .offer began) →
      exec .takeAsserted s = .next { s with sort := { p with take := true } } ∧
      exec .faultAsserted s = .next { s with sort := { p with fault := true } } ∧
      exec .offerTimerExpiry s = .next s) ∧
    (∀ n, p.handshake = .release n true → exec .takeDeasserted s =
      .next { s with sort := idleWith { p with take := false, handshake := .idle, queue := p.queue.tail } }) ∧
    (∀ n, p.handshake = .release n false → exec .takeDeasserted s =
      .next { s with sort := idleWith { p with take := false, handshake := .idle } }) ∧
    ((∀ n q, p.handshake ≠ .release n q) →
      exec .takeDeasserted s = .next { s with sort := idleWith { p with take := false } }) ∧
    exec .busyAsserted s = .next { s with sort := { p with busy := true } } ∧
    exec .busyDeasserted s = .next { s with sort := idleWith { p with busy := false } } ∧
    exec .faultDeasserted s = .next { s with sort := idleWith { p with fault := false } } ∧
    (∀ began, p.handshake = .offer began →
      exec .faultAsserted s = .next { s with
        sort := { p with fault := true, handshake := .stalled }, alerts := s.alerts ||| (1#17 <<< 5) } ∧
      (s.inReset = false → s.profile.offerTimeout * 1000000 ≤ s.elapsed began →
        exec .offerTimerExpiry s = .next { s with
          sort := { p with handshake := .stalled }, alerts := s.alerts ||| (1#17 <<< 5) }) ∧
      (s.elapsed began < s.profile.offerTimeout * 1000000 → exec .offerTimerExpiry s = .next s)) ∧
    (s.ready →
      (p.handshake = .stalled → exec (.sortResume []) s = .next { s with
        sort := idleWith { p with handshake := .idle }, reply := { status := .ok, payload := [] } }) ∧
      (p.handshake ≠ .stalled →
        exec (.sortResume []) s = .next { s with reply := { status := .refused, payload := [] } }))

/-! ## Invariants that every step keeps -/

/-- Every step keeps the pattern table in canonical form within its 1024 words (R46), and, while the pool is whole, every item of the
profile in its range, the eight weights and the cap among them, with H1 below H2, the knots rising and the thresholds in order
(Table 11-3, R79, R112, R113, R130, R134), and with the profile the H1 in effect in its range (R112). -/
def Obligations.TableAndProfileInvariant : Prop :=
  ∀ s t : State, step s = .next t →
    (s.tableSafe → t.tableSafe) ∧ (s.poolSafe → s.profile.inRange → t.profile.inRange ∧
      (s.chamber.h1InEffect ≤ 249 → t.chamber.h1InEffect ≤ 249))

/-- Every step keeps the pool whole: the free records and the records in the lists number 512, no list is longer than the cap, the cap
is 1 to 512, every list is in order and apart with defect_sectors the sum of its lengths, and TRUNCATED is set exactly where an insertion
was unrecorded (R76, R78, R79, R84). -/
def Obligations.PoolInvariant : Prop := ∀ s t : State, s.poolSafe → step s = .next t → t.poolSafe

/-- Every step keeps presence and phase together, an orphaned slot EMPTY or IDLE, and a held slot with a cause (R1, R4, R5, R7, R10,
R15, R16). -/
def Obligations.PhaseInvariant : Prop := ∀ s t : State, s.phaseSafe → step s = .next t → t.phaseSafe

/-- Every step keeps the data position on an open entry and the sector in progress on the entry at the position (R25, R29, R60). -/
def Obligations.LaneInvariant : Prop := ∀ s t : State, s.laneSafe → step s = .next t → t.laneSafe

/-- Every step keeps a staged event aimed at the locked record and a locked record unread (R88). -/
def Obligations.CaptureInvariant : Prop := ∀ s t : State, s.captureSafe → step s = .next t → t.captureSafe

/-- Every step keeps the grade queue on slots in GRADE_WAIT, each once, apart from the slot being computed (R121, R126), and the sort
queue on slots in SEALED, each once, with their bins, an offer or a release on its head (R136, R137, R141). -/
def Obligations.QueueInvariant : Prop :=
  ∀ s t : State, step s = .next t → (s.gradeSafe → t.gradeSafe) ∧ (s.sortSafe → t.sortSafe)

/-- Every step keeps every count within its width: those of each slot record, its histogram buckets and extent hits among them, of the
capture unit, of the chamber receiver and of each tag entry; and stale, slip and corrupt together within checked_sectors (00_scope.md
Table 3, R70, R88, R105, R107, R108). -/
def Obligations.CountInvariant : Prop := ∀ s t : State, s.countsSafe → step s = .next t → t.countsSafe

/-- THE FROZEN FIELDS: from the take of GRADE on, every step leaves what the grade and the ship record read as it was, until the slot
is cleared, orphaned or reset (01_slot_runs.md 1.2, R17, R86, R117); that such a slot has no open BURN or SCAN command is itself
kept. -/
def Obligations.FrozenFieldsInvariant : Prop :=
  ∀ s t : State, s.frozenSafe → step s = .next t → t.frozenSafe ∧
    ∀ i, (s.slot i).phase.frozen = true →
      ((t.slot i).phase.frozen = true ∧ (s.slot i).sameFrozen (t.slot i)) ∨ (t.slot i).phase = .empty ∨
        (t.slot i).phase = .idle

/-- Every invariant above holds at State.reset. -/
def Obligations.ResetMeetsInvariants : Prop :=
  State.reset.tableSafe ∧ State.reset.profile.inRange ∧ State.reset.chamber.h1InEffect ≤ 249 ∧ State.reset.poolSafe ∧
    State.reset.phaseSafe ∧
    State.reset.laneSafe ∧ State.reset.captureSafe ∧ State.reset.gradeSafe ∧ State.reset.sortSafe ∧
    State.reset.countsSafe ∧ State.reset.frozenSafe
end

