-- ==== Sys2Proof/Laws/State.lean ====
section
/-!
SUPPORT. What each update of the state leaves in each field: one lemma per field and update, true by rfl, so that no proof
unfolds a record update; and what a slot, a lane or a presence reads as after one of them is changed.
-/
namespace Sys2Proof.Machine

/-! ## modSlot -/

@[simp] theorem State.modSlot_pending (s : State) (i : SlotId) (f : SlotRecord → SlotRecord) : (s.modSlot i f).pending = s.pending := rfl
@[simp] theorem State.modSlot_inReset (s : State) (i : SlotId) (f : SlotRecord → SlotRecord) : (s.modSlot i f).inReset = s.inReset := rfl
@[simp] theorem State.modSlot_timebase (s : State) (i : SlotId) (f : SlotRecord → SlotRecord) : (s.modSlot i f).timebase = s.timebase := rfl
@[simp] theorem State.modSlot_soakTimer (s : State) (i : SlotId) (f : SlotRecord → SlotRecord) : (s.modSlot i f).soakTimer = s.soakTimer := rfl
@[simp] theorem State.modSlot_straps (s : State) (i : SlotId) (f : SlotRecord → SlotRecord) : (s.modSlot i f).straps = s.straps := rfl
@[simp] theorem State.modSlot_sectorSize (s : State) (i : SlotId) (f : SlotRecord → SlotRecord) : (s.modSlot i f).sectorSize = s.sectorSize := rfl
@[simp] theorem State.modSlot_loader (s : State) (i : SlotId) (f : SlotRecord → SlotRecord) : (s.modSlot i f).loader = s.loader := rfl
@[simp] theorem State.modSlot_loaderResult (s : State) (i : SlotId) (f : SlotRecord → SlotRecord) : (s.modSlot i f).loaderResult = s.loaderResult := rfl
@[simp] theorem State.modSlot_reply (s : State) (i : SlotId) (f : SlotRecord → SlotRecord) : (s.modSlot i f).reply = s.reply := rfl
@[simp] theorem State.modSlot_alerts (s : State) (i : SlotId) (f : SlotRecord → SlotRecord) : (s.modSlot i f).alerts = s.alerts := rfl
@[simp] theorem State.modSlot_alertMask (s : State) (i : SlotId) (f : SlotRecord → SlotRecord) : (s.modSlot i f).alertMask = s.alertMask := rfl
@[simp] theorem State.modSlot_profile (s : State) (i : SlotId) (f : SlotRecord → SlotRecord) : (s.modSlot i f).profile = s.profile := rfl
@[simp] theorem State.modSlot_windows (s : State) (i : SlotId) (f : SlotRecord → SlotRecord) : (s.modSlot i f).windows = s.windows := rfl
@[simp] theorem State.modSlot_patternTable (s : State) (i : SlotId) (f : SlotRecord → SlotRecord) : (s.modSlot i f).patternTable = s.patternTable := rfl
@[simp] theorem State.modSlot_slots (s : State) (i : SlotId) (f : SlotRecord → SlotRecord) : (s.modSlot i f).slots = s.slots.set i (f (s.slot i)) := rfl
@[simp] theorem State.modSlot_presence (s : State) (i : SlotId) (f : SlotRecord → SlotRecord) : (s.modSlot i f).presence = s.presence := rfl
@[simp] theorem State.modSlot_lanes (s : State) (i : SlotId) (f : SlotRecord → SlotRecord) : (s.modSlot i f).lanes = s.lanes := rfl
@[simp] theorem State.modSlot_freeExtents (s : State) (i : SlotId) (f : SlotRecord → SlotRecord) : (s.modSlot i f).freeExtents = s.freeExtents := rfl
@[simp] theorem State.modSlot_capture (s : State) (i : SlotId) (f : SlotRecord → SlotRecord) : (s.modSlot i f).capture = s.capture := rfl
@[simp] theorem State.modSlot_chamber (s : State) (i : SlotId) (f : SlotRecord → SlotRecord) : (s.modSlot i f).chamber = s.chamber := rfl
@[simp] theorem State.modSlot_gradeQueue (s : State) (i : SlotId) (f : SlotRecord → SlotRecord) : (s.modSlot i f).gradeQueue = s.gradeQueue := rfl
@[simp] theorem State.modSlot_engine (s : State) (i : SlotId) (f : SlotRecord → SlotRecord) : (s.modSlot i f).engine = s.engine := rfl
@[simp] theorem State.modSlot_sort (s : State) (i : SlotId) (f : SlotRecord → SlotRecord) : (s.modSlot i f).sort = s.sort := rfl
@[simp] theorem State.modSlot_tieCount (s : State) (i : SlotId) (f : SlotRecord → SlotRecord) : (s.modSlot i f).tieCount = s.tieCount := rfl

/-! ## modLane -/

@[simp] theorem State.modLane_pending (s : State) (i : SlotId) (f : Lane → Lane) : (s.modLane i f).pending = s.pending := rfl
@[simp] theorem State.modLane_inReset (s : State) (i : SlotId) (f : Lane → Lane) : (s.modLane i f).inReset = s.inReset := rfl
@[simp] theorem State.modLane_timebase (s : State) (i : SlotId) (f : Lane → Lane) : (s.modLane i f).timebase = s.timebase := rfl
@[simp] theorem State.modLane_soakTimer (s : State) (i : SlotId) (f : Lane → Lane) : (s.modLane i f).soakTimer = s.soakTimer := rfl
@[simp] theorem State.modLane_straps (s : State) (i : SlotId) (f : Lane → Lane) : (s.modLane i f).straps = s.straps := rfl
@[simp] theorem State.modLane_sectorSize (s : State) (i : SlotId) (f : Lane → Lane) : (s.modLane i f).sectorSize = s.sectorSize := rfl
@[simp] theorem State.modLane_loader (s : State) (i : SlotId) (f : Lane → Lane) : (s.modLane i f).loader = s.loader := rfl
@[simp] theorem State.modLane_loaderResult (s : State) (i : SlotId) (f : Lane → Lane) : (s.modLane i f).loaderResult = s.loaderResult := rfl
@[simp] theorem State.modLane_reply (s : State) (i : SlotId) (f : Lane → Lane) : (s.modLane i f).reply = s.reply := rfl
@[simp] theorem State.modLane_alerts (s : State) (i : SlotId) (f : Lane → Lane) : (s.modLane i f).alerts = s.alerts := rfl
@[simp] theorem State.modLane_alertMask (s : State) (i : SlotId) (f : Lane → Lane) : (s.modLane i f).alertMask = s.alertMask := rfl
@[simp] theorem State.modLane_profile (s : State) (i : SlotId) (f : Lane → Lane) : (s.modLane i f).profile = s.profile := rfl
@[simp] theorem State.modLane_windows (s : State) (i : SlotId) (f : Lane → Lane) : (s.modLane i f).windows = s.windows := rfl
@[simp] theorem State.modLane_patternTable (s : State) (i : SlotId) (f : Lane → Lane) : (s.modLane i f).patternTable = s.patternTable := rfl
@[simp] theorem State.modLane_slots (s : State) (i : SlotId) (f : Lane → Lane) : (s.modLane i f).slots = s.slots := rfl
@[simp] theorem State.modLane_presence (s : State) (i : SlotId) (f : Lane → Lane) : (s.modLane i f).presence = s.presence := rfl
@[simp] theorem State.modLane_lanes (s : State) (i : SlotId) (f : Lane → Lane) : (s.modLane i f).lanes = s.lanes.set i (f (s.lane i)) := rfl
@[simp] theorem State.modLane_freeExtents (s : State) (i : SlotId) (f : Lane → Lane) : (s.modLane i f).freeExtents = s.freeExtents := rfl
@[simp] theorem State.modLane_capture (s : State) (i : SlotId) (f : Lane → Lane) : (s.modLane i f).capture = s.capture := rfl
@[simp] theorem State.modLane_chamber (s : State) (i : SlotId) (f : Lane → Lane) : (s.modLane i f).chamber = s.chamber := rfl
@[simp] theorem State.modLane_gradeQueue (s : State) (i : SlotId) (f : Lane → Lane) : (s.modLane i f).gradeQueue = s.gradeQueue := rfl
@[simp] theorem State.modLane_engine (s : State) (i : SlotId) (f : Lane → Lane) : (s.modLane i f).engine = s.engine := rfl
@[simp] theorem State.modLane_sort (s : State) (i : SlotId) (f : Lane → Lane) : (s.modLane i f).sort = s.sort := rfl
@[simp] theorem State.modLane_tieCount (s : State) (i : SlotId) (f : Lane → Lane) : (s.modLane i f).tieCount = s.tieCount := rfl

/-! ## setPresence -/

@[simp] theorem State.setPresence_pending (s : State) (i : SlotId) (p : Presence) : (s.setPresence i p).pending = s.pending := rfl
@[simp] theorem State.setPresence_inReset (s : State) (i : SlotId) (p : Presence) : (s.setPresence i p).inReset = s.inReset := rfl
@[simp] theorem State.setPresence_timebase (s : State) (i : SlotId) (p : Presence) : (s.setPresence i p).timebase = s.timebase := rfl
@[simp] theorem State.setPresence_soakTimer (s : State) (i : SlotId) (p : Presence) : (s.setPresence i p).soakTimer = s.soakTimer := rfl
@[simp] theorem State.setPresence_straps (s : State) (i : SlotId) (p : Presence) : (s.setPresence i p).straps = s.straps := rfl
@[simp] theorem State.setPresence_sectorSize (s : State) (i : SlotId) (p : Presence) : (s.setPresence i p).sectorSize = s.sectorSize := rfl
@[simp] theorem State.setPresence_loader (s : State) (i : SlotId) (p : Presence) : (s.setPresence i p).loader = s.loader := rfl
@[simp] theorem State.setPresence_loaderResult (s : State) (i : SlotId) (p : Presence) : (s.setPresence i p).loaderResult = s.loaderResult := rfl
@[simp] theorem State.setPresence_reply (s : State) (i : SlotId) (p : Presence) : (s.setPresence i p).reply = s.reply := rfl
@[simp] theorem State.setPresence_alerts (s : State) (i : SlotId) (p : Presence) : (s.setPresence i p).alerts = s.alerts := rfl
@[simp] theorem State.setPresence_alertMask (s : State) (i : SlotId) (p : Presence) : (s.setPresence i p).alertMask = s.alertMask := rfl
@[simp] theorem State.setPresence_profile (s : State) (i : SlotId) (p : Presence) : (s.setPresence i p).profile = s.profile := rfl
@[simp] theorem State.setPresence_windows (s : State) (i : SlotId) (p : Presence) : (s.setPresence i p).windows = s.windows := rfl
@[simp] theorem State.setPresence_patternTable (s : State) (i : SlotId) (p : Presence) : (s.setPresence i p).patternTable = s.patternTable := rfl
@[simp] theorem State.setPresence_slots (s : State) (i : SlotId) (p : Presence) : (s.setPresence i p).slots = s.slots := rfl
@[simp] theorem State.setPresence_presence (s : State) (i : SlotId) (p : Presence) : (s.setPresence i p).presence = s.presence.set i p := rfl
@[simp] theorem State.setPresence_lanes (s : State) (i : SlotId) (p : Presence) : (s.setPresence i p).lanes = s.lanes := rfl
@[simp] theorem State.setPresence_freeExtents (s : State) (i : SlotId) (p : Presence) : (s.setPresence i p).freeExtents = s.freeExtents := rfl
@[simp] theorem State.setPresence_capture (s : State) (i : SlotId) (p : Presence) : (s.setPresence i p).capture = s.capture := rfl
@[simp] theorem State.setPresence_chamber (s : State) (i : SlotId) (p : Presence) : (s.setPresence i p).chamber = s.chamber := rfl
@[simp] theorem State.setPresence_gradeQueue (s : State) (i : SlotId) (p : Presence) : (s.setPresence i p).gradeQueue = s.gradeQueue := rfl
@[simp] theorem State.setPresence_engine (s : State) (i : SlotId) (p : Presence) : (s.setPresence i p).engine = s.engine := rfl
@[simp] theorem State.setPresence_sort (s : State) (i : SlotId) (p : Presence) : (s.setPresence i p).sort = s.sort := rfl
@[simp] theorem State.setPresence_tieCount (s : State) (i : SlotId) (p : Presence) : (s.setPresence i p).tieCount = s.tieCount := rfl

/-! ## setPhase -/

@[simp] theorem State.setPhase_pending (s : State) (i : SlotId) (p : Phase) : (s.setPhase i p).pending = s.pending := rfl
@[simp] theorem State.setPhase_inReset (s : State) (i : SlotId) (p : Phase) : (s.setPhase i p).inReset = s.inReset := rfl
@[simp] theorem State.setPhase_timebase (s : State) (i : SlotId) (p : Phase) : (s.setPhase i p).timebase = s.timebase := rfl
@[simp] theorem State.setPhase_soakTimer (s : State) (i : SlotId) (p : Phase) : (s.setPhase i p).soakTimer = s.soakTimer := rfl
@[simp] theorem State.setPhase_straps (s : State) (i : SlotId) (p : Phase) : (s.setPhase i p).straps = s.straps := rfl
@[simp] theorem State.setPhase_sectorSize (s : State) (i : SlotId) (p : Phase) : (s.setPhase i p).sectorSize = s.sectorSize := rfl
@[simp] theorem State.setPhase_loader (s : State) (i : SlotId) (p : Phase) : (s.setPhase i p).loader = s.loader := rfl
@[simp] theorem State.setPhase_loaderResult (s : State) (i : SlotId) (p : Phase) : (s.setPhase i p).loaderResult = s.loaderResult := rfl
@[simp] theorem State.setPhase_reply (s : State) (i : SlotId) (p : Phase) : (s.setPhase i p).reply = s.reply := rfl
@[simp] theorem State.setPhase_alerts (s : State) (i : SlotId) (p : Phase) : (s.setPhase i p).alerts = s.alerts := rfl
@[simp] theorem State.setPhase_alertMask (s : State) (i : SlotId) (p : Phase) : (s.setPhase i p).alertMask = s.alertMask := rfl
@[simp] theorem State.setPhase_profile (s : State) (i : SlotId) (p : Phase) : (s.setPhase i p).profile = s.profile := rfl
@[simp] theorem State.setPhase_windows (s : State) (i : SlotId) (p : Phase) : (s.setPhase i p).windows = s.windows := rfl
@[simp] theorem State.setPhase_patternTable (s : State) (i : SlotId) (p : Phase) : (s.setPhase i p).patternTable = s.patternTable := rfl
@[simp] theorem State.setPhase_slots (s : State) (i : SlotId) (p : Phase) : (s.setPhase i p).slots = s.slots.set i { s.slot i with phase := p } := rfl
@[simp] theorem State.setPhase_presence (s : State) (i : SlotId) (p : Phase) : (s.setPhase i p).presence = s.presence := rfl
@[simp] theorem State.setPhase_lanes (s : State) (i : SlotId) (p : Phase) : (s.setPhase i p).lanes = s.lanes := rfl
@[simp] theorem State.setPhase_freeExtents (s : State) (i : SlotId) (p : Phase) : (s.setPhase i p).freeExtents = s.freeExtents := rfl
@[simp] theorem State.setPhase_capture (s : State) (i : SlotId) (p : Phase) : (s.setPhase i p).capture = s.capture := rfl
@[simp] theorem State.setPhase_chamber (s : State) (i : SlotId) (p : Phase) : (s.setPhase i p).chamber = s.chamber := rfl
@[simp] theorem State.setPhase_gradeQueue (s : State) (i : SlotId) (p : Phase) : (s.setPhase i p).gradeQueue = s.gradeQueue := rfl
@[simp] theorem State.setPhase_engine (s : State) (i : SlotId) (p : Phase) : (s.setPhase i p).engine = s.engine := rfl
@[simp] theorem State.setPhase_sort (s : State) (i : SlotId) (p : Phase) : (s.setPhase i p).sort = s.sort := rfl
@[simp] theorem State.setPhase_tieCount (s : State) (i : SlotId) (p : Phase) : (s.setPhase i p).tieCount = s.tieCount := rfl

/-! ## answer -/

@[simp] theorem State.answer_pending (s : State) (st : Status) (payload : List Byte) : (s.answer st payload).pending = s.pending := rfl
@[simp] theorem State.answer_inReset (s : State) (st : Status) (payload : List Byte) : (s.answer st payload).inReset = s.inReset := rfl
@[simp] theorem State.answer_timebase (s : State) (st : Status) (payload : List Byte) : (s.answer st payload).timebase = s.timebase := rfl
@[simp] theorem State.answer_soakTimer (s : State) (st : Status) (payload : List Byte) : (s.answer st payload).soakTimer = s.soakTimer := rfl
@[simp] theorem State.answer_straps (s : State) (st : Status) (payload : List Byte) : (s.answer st payload).straps = s.straps := rfl
@[simp] theorem State.answer_sectorSize (s : State) (st : Status) (payload : List Byte) : (s.answer st payload).sectorSize = s.sectorSize := rfl
@[simp] theorem State.answer_loader (s : State) (st : Status) (payload : List Byte) : (s.answer st payload).loader = s.loader := rfl
@[simp] theorem State.answer_loaderResult (s : State) (st : Status) (payload : List Byte) : (s.answer st payload).loaderResult = s.loaderResult := rfl
@[simp] theorem State.answer_reply (s : State) (st : Status) (payload : List Byte) : (s.answer st payload).reply = { status := st, payload := payload } := rfl
@[simp] theorem State.answer_alerts (s : State) (st : Status) (payload : List Byte) : (s.answer st payload).alerts = s.alerts := rfl
@[simp] theorem State.answer_alertMask (s : State) (st : Status) (payload : List Byte) : (s.answer st payload).alertMask = s.alertMask := rfl
@[simp] theorem State.answer_profile (s : State) (st : Status) (payload : List Byte) : (s.answer st payload).profile = s.profile := rfl
@[simp] theorem State.answer_windows (s : State) (st : Status) (payload : List Byte) : (s.answer st payload).windows = s.windows := rfl
@[simp] theorem State.answer_patternTable (s : State) (st : Status) (payload : List Byte) : (s.answer st payload).patternTable = s.patternTable := rfl
@[simp] theorem State.answer_slots (s : State) (st : Status) (payload : List Byte) : (s.answer st payload).slots = s.slots := rfl
@[simp] theorem State.answer_presence (s : State) (st : Status) (payload : List Byte) : (s.answer st payload).presence = s.presence := rfl
@[simp] theorem State.answer_lanes (s : State) (st : Status) (payload : List Byte) : (s.answer st payload).lanes = s.lanes := rfl
@[simp] theorem State.answer_freeExtents (s : State) (st : Status) (payload : List Byte) : (s.answer st payload).freeExtents = s.freeExtents := rfl
@[simp] theorem State.answer_capture (s : State) (st : Status) (payload : List Byte) : (s.answer st payload).capture = s.capture := rfl
@[simp] theorem State.answer_chamber (s : State) (st : Status) (payload : List Byte) : (s.answer st payload).chamber = s.chamber := rfl
@[simp] theorem State.answer_gradeQueue (s : State) (st : Status) (payload : List Byte) : (s.answer st payload).gradeQueue = s.gradeQueue := rfl
@[simp] theorem State.answer_engine (s : State) (st : Status) (payload : List Byte) : (s.answer st payload).engine = s.engine := rfl
@[simp] theorem State.answer_sort (s : State) (st : Status) (payload : List Byte) : (s.answer st payload).sort = s.sort := rfl
@[simp] theorem State.answer_tieCount (s : State) (st : Status) (payload : List Byte) : (s.answer st payload).tieCount = s.tieCount := rfl

/-! ## raise -/

@[simp] theorem State.raise_pending (s : State) (a : AlertFlag) : (s.raise a).pending = s.pending := rfl
@[simp] theorem State.raise_inReset (s : State) (a : AlertFlag) : (s.raise a).inReset = s.inReset := rfl
@[simp] theorem State.raise_timebase (s : State) (a : AlertFlag) : (s.raise a).timebase = s.timebase := rfl
@[simp] theorem State.raise_soakTimer (s : State) (a : AlertFlag) : (s.raise a).soakTimer = s.soakTimer := rfl
@[simp] theorem State.raise_straps (s : State) (a : AlertFlag) : (s.raise a).straps = s.straps := rfl
@[simp] theorem State.raise_sectorSize (s : State) (a : AlertFlag) : (s.raise a).sectorSize = s.sectorSize := rfl
@[simp] theorem State.raise_loader (s : State) (a : AlertFlag) : (s.raise a).loader = s.loader := rfl
@[simp] theorem State.raise_loaderResult (s : State) (a : AlertFlag) : (s.raise a).loaderResult = s.loaderResult := rfl
@[simp] theorem State.raise_reply (s : State) (a : AlertFlag) : (s.raise a).reply = s.reply := rfl
@[simp] theorem State.raise_alerts (s : State) (a : AlertFlag) : (s.raise a).alerts = s.alerts ||| a.set := rfl
@[simp] theorem State.raise_alertMask (s : State) (a : AlertFlag) : (s.raise a).alertMask = s.alertMask := rfl
@[simp] theorem State.raise_profile (s : State) (a : AlertFlag) : (s.raise a).profile = s.profile := rfl
@[simp] theorem State.raise_windows (s : State) (a : AlertFlag) : (s.raise a).windows = s.windows := rfl
@[simp] theorem State.raise_patternTable (s : State) (a : AlertFlag) : (s.raise a).patternTable = s.patternTable := rfl
@[simp] theorem State.raise_slots (s : State) (a : AlertFlag) : (s.raise a).slots = s.slots := rfl
@[simp] theorem State.raise_presence (s : State) (a : AlertFlag) : (s.raise a).presence = s.presence := rfl
@[simp] theorem State.raise_lanes (s : State) (a : AlertFlag) : (s.raise a).lanes = s.lanes := rfl
@[simp] theorem State.raise_freeExtents (s : State) (a : AlertFlag) : (s.raise a).freeExtents = s.freeExtents := rfl
@[simp] theorem State.raise_capture (s : State) (a : AlertFlag) : (s.raise a).capture = s.capture := rfl
@[simp] theorem State.raise_chamber (s : State) (a : AlertFlag) : (s.raise a).chamber = s.chamber := rfl
@[simp] theorem State.raise_gradeQueue (s : State) (a : AlertFlag) : (s.raise a).gradeQueue = s.gradeQueue := rfl
@[simp] theorem State.raise_engine (s : State) (a : AlertFlag) : (s.raise a).engine = s.engine := rfl
@[simp] theorem State.raise_sort (s : State) (a : AlertFlag) : (s.raise a).sort = s.sort := rfl
@[simp] theorem State.raise_tieCount (s : State) (a : AlertFlag) : (s.raise a).tieCount = s.tieCount := rfl

/-! ## modChamber -/

@[simp] theorem State.modChamber_pending (s : State) (f : Chamber → Chamber) : (s.modChamber f).pending = s.pending := rfl
@[simp] theorem State.modChamber_inReset (s : State) (f : Chamber → Chamber) : (s.modChamber f).inReset = s.inReset := rfl
@[simp] theorem State.modChamber_timebase (s : State) (f : Chamber → Chamber) : (s.modChamber f).timebase = s.timebase := rfl
@[simp] theorem State.modChamber_soakTimer (s : State) (f : Chamber → Chamber) : (s.modChamber f).soakTimer = s.soakTimer := rfl
@[simp] theorem State.modChamber_straps (s : State) (f : Chamber → Chamber) : (s.modChamber f).straps = s.straps := rfl
@[simp] theorem State.modChamber_sectorSize (s : State) (f : Chamber → Chamber) : (s.modChamber f).sectorSize = s.sectorSize := rfl
@[simp] theorem State.modChamber_loader (s : State) (f : Chamber → Chamber) : (s.modChamber f).loader = s.loader := rfl
@[simp] theorem State.modChamber_loaderResult (s : State) (f : Chamber → Chamber) : (s.modChamber f).loaderResult = s.loaderResult := rfl
@[simp] theorem State.modChamber_reply (s : State) (f : Chamber → Chamber) : (s.modChamber f).reply = s.reply := rfl
@[simp] theorem State.modChamber_alerts (s : State) (f : Chamber → Chamber) : (s.modChamber f).alerts = s.alerts := rfl
@[simp] theorem State.modChamber_alertMask (s : State) (f : Chamber → Chamber) : (s.modChamber f).alertMask = s.alertMask := rfl
@[simp] theorem State.modChamber_profile (s : State) (f : Chamber → Chamber) : (s.modChamber f).profile = s.profile := rfl
@[simp] theorem State.modChamber_windows (s : State) (f : Chamber → Chamber) : (s.modChamber f).windows = s.windows := rfl
@[simp] theorem State.modChamber_patternTable (s : State) (f : Chamber → Chamber) : (s.modChamber f).patternTable = s.patternTable := rfl
@[simp] theorem State.modChamber_slots (s : State) (f : Chamber → Chamber) : (s.modChamber f).slots = s.slots := rfl
@[simp] theorem State.modChamber_presence (s : State) (f : Chamber → Chamber) : (s.modChamber f).presence = s.presence := rfl
@[simp] theorem State.modChamber_lanes (s : State) (f : Chamber → Chamber) : (s.modChamber f).lanes = s.lanes := rfl
@[simp] theorem State.modChamber_freeExtents (s : State) (f : Chamber → Chamber) : (s.modChamber f).freeExtents = s.freeExtents := rfl
@[simp] theorem State.modChamber_capture (s : State) (f : Chamber → Chamber) : (s.modChamber f).capture = s.capture := rfl
@[simp] theorem State.modChamber_chamber (s : State) (f : Chamber → Chamber) : (s.modChamber f).chamber = f s.chamber := rfl
@[simp] theorem State.modChamber_gradeQueue (s : State) (f : Chamber → Chamber) : (s.modChamber f).gradeQueue = s.gradeQueue := rfl
@[simp] theorem State.modChamber_engine (s : State) (f : Chamber → Chamber) : (s.modChamber f).engine = s.engine := rfl
@[simp] theorem State.modChamber_sort (s : State) (f : Chamber → Chamber) : (s.modChamber f).sort = s.sort := rfl
@[simp] theorem State.modChamber_tieCount (s : State) (f : Chamber → Chamber) : (s.modChamber f).tieCount = s.tieCount := rfl

/-! ## putSort -/

@[simp] theorem State.putSort_pending (s : State) (p : SortPort) : (s.putSort p).pending = s.pending := rfl
@[simp] theorem State.putSort_inReset (s : State) (p : SortPort) : (s.putSort p).inReset = s.inReset := rfl
@[simp] theorem State.putSort_timebase (s : State) (p : SortPort) : (s.putSort p).timebase = s.timebase := rfl
@[simp] theorem State.putSort_soakTimer (s : State) (p : SortPort) : (s.putSort p).soakTimer = s.soakTimer := rfl
@[simp] theorem State.putSort_straps (s : State) (p : SortPort) : (s.putSort p).straps = s.straps := rfl
@[simp] theorem State.putSort_sectorSize (s : State) (p : SortPort) : (s.putSort p).sectorSize = s.sectorSize := rfl
@[simp] theorem State.putSort_loader (s : State) (p : SortPort) : (s.putSort p).loader = s.loader := rfl
@[simp] theorem State.putSort_loaderResult (s : State) (p : SortPort) : (s.putSort p).loaderResult = s.loaderResult := rfl
@[simp] theorem State.putSort_reply (s : State) (p : SortPort) : (s.putSort p).reply = s.reply := rfl
@[simp] theorem State.putSort_alerts (s : State) (p : SortPort) : (s.putSort p).alerts = s.alerts := rfl
@[simp] theorem State.putSort_alertMask (s : State) (p : SortPort) : (s.putSort p).alertMask = s.alertMask := rfl
@[simp] theorem State.putSort_profile (s : State) (p : SortPort) : (s.putSort p).profile = s.profile := rfl
@[simp] theorem State.putSort_windows (s : State) (p : SortPort) : (s.putSort p).windows = s.windows := rfl
@[simp] theorem State.putSort_patternTable (s : State) (p : SortPort) : (s.putSort p).patternTable = s.patternTable := rfl
@[simp] theorem State.putSort_slots (s : State) (p : SortPort) : (s.putSort p).slots = s.slots := rfl
@[simp] theorem State.putSort_presence (s : State) (p : SortPort) : (s.putSort p).presence = s.presence := rfl
@[simp] theorem State.putSort_lanes (s : State) (p : SortPort) : (s.putSort p).lanes = s.lanes := rfl
@[simp] theorem State.putSort_freeExtents (s : State) (p : SortPort) : (s.putSort p).freeExtents = s.freeExtents := rfl
@[simp] theorem State.putSort_capture (s : State) (p : SortPort) : (s.putSort p).capture = s.capture := rfl
@[simp] theorem State.putSort_chamber (s : State) (p : SortPort) : (s.putSort p).chamber = s.chamber := rfl
@[simp] theorem State.putSort_gradeQueue (s : State) (p : SortPort) : (s.putSort p).gradeQueue = s.gradeQueue := rfl
@[simp] theorem State.putSort_engine (s : State) (p : SortPort) : (s.putSort p).engine = s.engine := rfl
@[simp] theorem State.putSort_sort (s : State) (p : SortPort) : (s.putSort p).sort = p.offering s.timebase := rfl
@[simp] theorem State.putSort_tieCount (s : State) (p : SortPort) : (s.putSort p).tieCount = s.tieCount := rfl

/-! ## withdrawGrade -/

@[simp] theorem State.withdrawGrade_pending (s : State) (i : SlotId) : (s.withdrawGrade i).pending = s.pending := rfl
@[simp] theorem State.withdrawGrade_inReset (s : State) (i : SlotId) : (s.withdrawGrade i).inReset = s.inReset := rfl
@[simp] theorem State.withdrawGrade_timebase (s : State) (i : SlotId) : (s.withdrawGrade i).timebase = s.timebase := rfl
@[simp] theorem State.withdrawGrade_soakTimer (s : State) (i : SlotId) : (s.withdrawGrade i).soakTimer = s.soakTimer := rfl
@[simp] theorem State.withdrawGrade_straps (s : State) (i : SlotId) : (s.withdrawGrade i).straps = s.straps := rfl
@[simp] theorem State.withdrawGrade_sectorSize (s : State) (i : SlotId) : (s.withdrawGrade i).sectorSize = s.sectorSize := rfl
@[simp] theorem State.withdrawGrade_loader (s : State) (i : SlotId) : (s.withdrawGrade i).loader = s.loader := rfl
@[simp] theorem State.withdrawGrade_loaderResult (s : State) (i : SlotId) : (s.withdrawGrade i).loaderResult = s.loaderResult := rfl
@[simp] theorem State.withdrawGrade_reply (s : State) (i : SlotId) : (s.withdrawGrade i).reply = s.reply := rfl
@[simp] theorem State.withdrawGrade_alerts (s : State) (i : SlotId) : (s.withdrawGrade i).alerts = s.alerts := rfl
@[simp] theorem State.withdrawGrade_alertMask (s : State) (i : SlotId) : (s.withdrawGrade i).alertMask = s.alertMask := rfl
@[simp] theorem State.withdrawGrade_profile (s : State) (i : SlotId) : (s.withdrawGrade i).profile = s.profile := rfl
@[simp] theorem State.withdrawGrade_windows (s : State) (i : SlotId) : (s.withdrawGrade i).windows = s.windows := rfl
@[simp] theorem State.withdrawGrade_patternTable (s : State) (i : SlotId) : (s.withdrawGrade i).patternTable = s.patternTable := rfl
@[simp] theorem State.withdrawGrade_slots (s : State) (i : SlotId) : (s.withdrawGrade i).slots = s.slots := rfl
@[simp] theorem State.withdrawGrade_presence (s : State) (i : SlotId) : (s.withdrawGrade i).presence = s.presence := rfl
@[simp] theorem State.withdrawGrade_lanes (s : State) (i : SlotId) : (s.withdrawGrade i).lanes = s.lanes := rfl
@[simp] theorem State.withdrawGrade_freeExtents (s : State) (i : SlotId) : (s.withdrawGrade i).freeExtents = s.freeExtents := rfl
@[simp] theorem State.withdrawGrade_capture (s : State) (i : SlotId) : (s.withdrawGrade i).capture = s.capture := rfl
@[simp] theorem State.withdrawGrade_chamber (s : State) (i : SlotId) : (s.withdrawGrade i).chamber = s.chamber := rfl
@[simp] theorem State.withdrawGrade_gradeQueue (s : State) (i : SlotId) : (s.withdrawGrade i).gradeQueue = s.gradeQueue.filter (· != i) := rfl
@[simp] theorem State.withdrawGrade_engine (s : State) (i : SlotId) : (s.withdrawGrade i).engine = s.engine.map (fun c => if c.slot = i then { c with void := true } else c) := rfl
@[simp] theorem State.withdrawGrade_sort (s : State) (i : SlotId) : (s.withdrawGrade i).sort = s.sort := rfl
@[simp] theorem State.withdrawGrade_tieCount (s : State) (i : SlotId) : (s.withdrawGrade i).tieCount = s.tieCount := rfl

/-! ## returnExtents -/

@[simp] theorem State.returnExtents_pending (s : State) (i : SlotId) : (s.returnExtents i).pending = s.pending := rfl
@[simp] theorem State.returnExtents_inReset (s : State) (i : SlotId) : (s.returnExtents i).inReset = s.inReset := rfl
@[simp] theorem State.returnExtents_timebase (s : State) (i : SlotId) : (s.returnExtents i).timebase = s.timebase := rfl
@[simp] theorem State.returnExtents_soakTimer (s : State) (i : SlotId) : (s.returnExtents i).soakTimer = s.soakTimer := rfl
@[simp] theorem State.returnExtents_straps (s : State) (i : SlotId) : (s.returnExtents i).straps = s.straps := rfl
@[simp] theorem State.returnExtents_sectorSize (s : State) (i : SlotId) : (s.returnExtents i).sectorSize = s.sectorSize := rfl
@[simp] theorem State.returnExtents_loader (s : State) (i : SlotId) : (s.returnExtents i).loader = s.loader := rfl
@[simp] theorem State.returnExtents_loaderResult (s : State) (i : SlotId) : (s.returnExtents i).loaderResult = s.loaderResult := rfl
@[simp] theorem State.returnExtents_reply (s : State) (i : SlotId) : (s.returnExtents i).reply = s.reply := rfl
@[simp] theorem State.returnExtents_alerts (s : State) (i : SlotId) : (s.returnExtents i).alerts = s.alerts := rfl
@[simp] theorem State.returnExtents_alertMask (s : State) (i : SlotId) : (s.returnExtents i).alertMask = s.alertMask := rfl
@[simp] theorem State.returnExtents_profile (s : State) (i : SlotId) : (s.returnExtents i).profile = s.profile := rfl
@[simp] theorem State.returnExtents_windows (s : State) (i : SlotId) : (s.returnExtents i).windows = s.windows := rfl
@[simp] theorem State.returnExtents_patternTable (s : State) (i : SlotId) : (s.returnExtents i).patternTable = s.patternTable := rfl
@[simp] theorem State.returnExtents_slots (s : State) (i : SlotId) : (s.returnExtents i).slots = s.slots := rfl
@[simp] theorem State.returnExtents_presence (s : State) (i : SlotId) : (s.returnExtents i).presence = s.presence := rfl
@[simp] theorem State.returnExtents_lanes (s : State) (i : SlotId) : (s.returnExtents i).lanes = s.lanes := rfl
@[simp] theorem State.returnExtents_freeExtents (s : State) (i : SlotId) : (s.returnExtents i).freeExtents = s.freeExtents + (s.slot i).defects.extents.length := rfl
@[simp] theorem State.returnExtents_capture (s : State) (i : SlotId) : (s.returnExtents i).capture = s.capture := rfl
@[simp] theorem State.returnExtents_chamber (s : State) (i : SlotId) : (s.returnExtents i).chamber = s.chamber := rfl
@[simp] theorem State.returnExtents_gradeQueue (s : State) (i : SlotId) : (s.returnExtents i).gradeQueue = s.gradeQueue := rfl
@[simp] theorem State.returnExtents_engine (s : State) (i : SlotId) : (s.returnExtents i).engine = s.engine := rfl
@[simp] theorem State.returnExtents_sort (s : State) (i : SlotId) : (s.returnExtents i).sort = s.sort := rfl
@[simp] theorem State.returnExtents_tieCount (s : State) (i : SlotId) : (s.returnExtents i).tieCount = s.tieCount := rfl

/-! ## putCapture, whose alert depends on the unit's operation -/

@[simp] theorem State.putCapture_pending (s : State) (u : CaptureUnit × Option AlertFlag) : (s.putCapture u).pending = s.pending := by
  unfold State.putCapture; cases u.2 <;> rfl
@[simp] theorem State.putCapture_inReset (s : State) (u : CaptureUnit × Option AlertFlag) : (s.putCapture u).inReset = s.inReset := by
  unfold State.putCapture; cases u.2 <;> rfl
@[simp] theorem State.putCapture_timebase (s : State) (u : CaptureUnit × Option AlertFlag) : (s.putCapture u).timebase = s.timebase := by
  unfold State.putCapture; cases u.2 <;> rfl
@[simp] theorem State.putCapture_soakTimer (s : State) (u : CaptureUnit × Option AlertFlag) : (s.putCapture u).soakTimer = s.soakTimer := by
  unfold State.putCapture; cases u.2 <;> rfl
@[simp] theorem State.putCapture_straps (s : State) (u : CaptureUnit × Option AlertFlag) : (s.putCapture u).straps = s.straps := by
  unfold State.putCapture; cases u.2 <;> rfl
@[simp] theorem State.putCapture_sectorSize (s : State) (u : CaptureUnit × Option AlertFlag) : (s.putCapture u).sectorSize = s.sectorSize := by
  unfold State.putCapture; cases u.2 <;> rfl
@[simp] theorem State.putCapture_loader (s : State) (u : CaptureUnit × Option AlertFlag) : (s.putCapture u).loader = s.loader := by
  unfold State.putCapture; cases u.2 <;> rfl
@[simp] theorem State.putCapture_loaderResult (s : State) (u : CaptureUnit × Option AlertFlag) : (s.putCapture u).loaderResult = s.loaderResult := by
  unfold State.putCapture; cases u.2 <;> rfl
@[simp] theorem State.putCapture_reply (s : State) (u : CaptureUnit × Option AlertFlag) : (s.putCapture u).reply = s.reply := by
  unfold State.putCapture; cases u.2 <;> rfl
@[simp] theorem State.putCapture_alertMask (s : State) (u : CaptureUnit × Option AlertFlag) : (s.putCapture u).alertMask = s.alertMask := by
  unfold State.putCapture; cases u.2 <;> rfl
@[simp] theorem State.putCapture_profile (s : State) (u : CaptureUnit × Option AlertFlag) : (s.putCapture u).profile = s.profile := by
  unfold State.putCapture; cases u.2 <;> rfl
@[simp] theorem State.putCapture_windows (s : State) (u : CaptureUnit × Option AlertFlag) : (s.putCapture u).windows = s.windows := by
  unfold State.putCapture; cases u.2 <;> rfl
@[simp] theorem State.putCapture_patternTable (s : State) (u : CaptureUnit × Option AlertFlag) : (s.putCapture u).patternTable = s.patternTable := by
  unfold State.putCapture; cases u.2 <;> rfl
@[simp] theorem State.putCapture_slots (s : State) (u : CaptureUnit × Option AlertFlag) : (s.putCapture u).slots = s.slots := by
  unfold State.putCapture; cases u.2 <;> rfl
@[simp] theorem State.putCapture_presence (s : State) (u : CaptureUnit × Option AlertFlag) : (s.putCapture u).presence = s.presence := by
  unfold State.putCapture; cases u.2 <;> rfl
@[simp] theorem State.putCapture_lanes (s : State) (u : CaptureUnit × Option AlertFlag) : (s.putCapture u).lanes = s.lanes := by
  unfold State.putCapture; cases u.2 <;> rfl
@[simp] theorem State.putCapture_freeExtents (s : State) (u : CaptureUnit × Option AlertFlag) : (s.putCapture u).freeExtents = s.freeExtents := by
  unfold State.putCapture; cases u.2 <;> rfl
@[simp] theorem State.putCapture_chamber (s : State) (u : CaptureUnit × Option AlertFlag) : (s.putCapture u).chamber = s.chamber := by
  unfold State.putCapture; cases u.2 <;> rfl
@[simp] theorem State.putCapture_gradeQueue (s : State) (u : CaptureUnit × Option AlertFlag) : (s.putCapture u).gradeQueue = s.gradeQueue := by
  unfold State.putCapture; cases u.2 <;> rfl
@[simp] theorem State.putCapture_engine (s : State) (u : CaptureUnit × Option AlertFlag) : (s.putCapture u).engine = s.engine := by
  unfold State.putCapture; cases u.2 <;> rfl
@[simp] theorem State.putCapture_sort (s : State) (u : CaptureUnit × Option AlertFlag) : (s.putCapture u).sort = s.sort := by
  unfold State.putCapture; cases u.2 <;> rfl
@[simp] theorem State.putCapture_tieCount (s : State) (u : CaptureUnit × Option AlertFlag) : (s.putCapture u).tieCount = s.tieCount := by
  unfold State.putCapture; cases u.2 <;> rfl
@[simp] theorem State.putCapture_capture (s : State) (u : CaptureUnit × Option AlertFlag) : (s.putCapture u).capture = u.1 := by
  unfold State.putCapture; cases u.2 <;> rfl

/-! ## Reading what was changed -/

theorem State.slot_modSlot (s : State) (i j : SlotId) (f : SlotRecord → SlotRecord) :
    (s.modSlot i f).slot j = if i = j then f (s.slot i) else s.slot j := by
  simp [State.modSlot, State.slot, Vector.getElem_set, Fin.ext_iff]

@[simp] theorem State.slot_modSlot_self (s : State) (i : SlotId) (f : SlotRecord → SlotRecord) :
    (s.modSlot i f).slot i = f (s.slot i) := by simp [State.slot_modSlot]

theorem State.slot_modSlot_ne (s : State) {i j : SlotId} (h : i ≠ j) (f : SlotRecord → SlotRecord) :
    (s.modSlot i f).slot j = s.slot j := by simp [State.slot_modSlot, h]

theorem State.slot_setPhase (s : State) (i j : SlotId) (p : Phase) :
    (s.setPhase i p).slot j = if i = j then { s.slot i with phase := p } else s.slot j := s.slot_modSlot i j _

theorem State.lane_modLane (s : State) (i j : SlotId) (f : Lane → Lane) :
    (s.modLane i f).lane j = if i = j then f (s.lane i) else s.lane j := by
  simp [State.modLane, State.lane, Vector.getElem_set, Fin.ext_iff]

@[simp] theorem State.lane_modLane_self (s : State) (i : SlotId) (f : Lane → Lane) :
    (s.modLane i f).lane i = f (s.lane i) := by simp [State.lane_modLane]

theorem State.lane_modLane_ne (s : State) {i j : SlotId} (h : i ≠ j) (f : Lane → Lane) :
    (s.modLane i f).lane j = s.lane j := by simp [State.lane_modLane, h]

theorem State.presenceOf_setPresence (s : State) (i j : SlotId) (p : Presence) :
    (s.setPresence i p).presenceOf j = if i = j then p else s.presenceOf j := by
  simp [State.setPresence, State.presenceOf, Vector.getElem_set, Fin.ext_iff]

theorem Lane.entry_setEntry (l : Lane) (e d : EntryId) (t : Option TagEntry) :
    (l.setEntry e t).entry d = if e = d then t else l.entry d := by
  simp [Lane.setEntry, Lane.entry, Vector.getElem_set, Fin.ext_iff]

/-- A freed entry is FREE, the others are as they were. -/
theorem Lane.entry_free (l : Lane) (e d : EntryId) : (l.free e).entry d = if e = d then none else l.entry d :=
  l.entry_setEntry e d none

@[simp] theorem Lane.entry_forgotten (l : Lane) (e : EntryId) : l.forgotten.entry e = none := by
  simp [Lane.forgotten, Lane.entry]

@[simp] theorem State.lane_modSlot (s : State) (i : SlotId) (f : SlotRecord → SlotRecord) (j : SlotId) : (s.modSlot i f).lane j = s.lane j := rfl
@[simp] theorem State.presenceOf_modSlot (s : State) (i : SlotId) (f : SlotRecord → SlotRecord) (j : SlotId) :
    (s.modSlot i f).presenceOf j = s.presenceOf j := rfl
@[simp] theorem State.slot_modLane (s : State) (i : SlotId) (f : Lane → Lane) (j : SlotId) : (s.modLane i f).slot j = s.slot j := rfl
@[simp] theorem State.presenceOf_modLane (s : State) (i : SlotId) (f : Lane → Lane) (j : SlotId) :
    (s.modLane i f).presenceOf j = s.presenceOf j := rfl
@[simp] theorem State.slot_setPresence (s : State) (i : SlotId) (p : Presence) (j : SlotId) : (s.setPresence i p).slot j = s.slot j := rfl
@[simp] theorem State.lane_setPresence (s : State) (i : SlotId) (p : Presence) (j : SlotId) : (s.setPresence i p).lane j = s.lane j := rfl
@[simp] theorem State.lane_setPhase (s : State) (i : SlotId) (p : Phase) (j : SlotId) : (s.setPhase i p).lane j = s.lane j := rfl
@[simp] theorem State.presenceOf_setPhase (s : State) (i : SlotId) (p : Phase) (j : SlotId) :
    (s.setPhase i p).presenceOf j = s.presenceOf j := rfl
@[simp] theorem State.slot_answer (s : State) (st : Status) (payload : List Byte) (j : SlotId) : (s.answer st payload).slot j = s.slot j := rfl
@[simp] theorem State.lane_answer (s : State) (st : Status) (payload : List Byte) (j : SlotId) : (s.answer st payload).lane j = s.lane j := rfl
@[simp] theorem State.presenceOf_answer (s : State) (st : Status) (payload : List Byte) (j : SlotId) :
    (s.answer st payload).presenceOf j = s.presenceOf j := rfl
@[simp] theorem State.slot_raise (s : State) (a : AlertFlag) (j : SlotId) : (s.raise a).slot j = s.slot j := rfl
@[simp] theorem State.lane_raise (s : State) (a : AlertFlag) (j : SlotId) : (s.raise a).lane j = s.lane j := rfl
@[simp] theorem State.presenceOf_raise (s : State) (a : AlertFlag) (j : SlotId) :
    (s.raise a).presenceOf j = s.presenceOf j := rfl
@[simp] theorem State.slot_modChamber (s : State) (f : Chamber → Chamber) (j : SlotId) : (s.modChamber f).slot j = s.slot j := rfl
@[simp] theorem State.lane_modChamber (s : State) (f : Chamber → Chamber) (j : SlotId) : (s.modChamber f).lane j = s.lane j := rfl
@[simp] theorem State.presenceOf_modChamber (s : State) (f : Chamber → Chamber) (j : SlotId) :
    (s.modChamber f).presenceOf j = s.presenceOf j := rfl
@[simp] theorem State.slot_putSort (s : State) (p : SortPort) (j : SlotId) : (s.putSort p).slot j = s.slot j := rfl
@[simp] theorem State.lane_putSort (s : State) (p : SortPort) (j : SlotId) : (s.putSort p).lane j = s.lane j := rfl
@[simp] theorem State.presenceOf_putSort (s : State) (p : SortPort) (j : SlotId) :
    (s.putSort p).presenceOf j = s.presenceOf j := rfl
@[simp] theorem State.slot_withdrawGrade (s : State) (i : SlotId) (j : SlotId) : (s.withdrawGrade i).slot j = s.slot j := rfl
@[simp] theorem State.lane_withdrawGrade (s : State) (i : SlotId) (j : SlotId) : (s.withdrawGrade i).lane j = s.lane j := rfl
@[simp] theorem State.presenceOf_withdrawGrade (s : State) (i : SlotId) (j : SlotId) :
    (s.withdrawGrade i).presenceOf j = s.presenceOf j := rfl
@[simp] theorem State.slot_returnExtents (s : State) (i : SlotId) (j : SlotId) : (s.returnExtents i).slot j = s.slot j := rfl
@[simp] theorem State.lane_returnExtents (s : State) (i : SlotId) (j : SlotId) : (s.returnExtents i).lane j = s.lane j := rfl
@[simp] theorem State.presenceOf_returnExtents (s : State) (i : SlotId) (j : SlotId) :
    (s.returnExtents i).presenceOf j = s.presenceOf j := rfl

theorem State.putCapture_slot (s : State) (u : CaptureUnit × Option AlertFlag) (j : SlotId) :
    (s.putCapture u).slot j = s.slot j := by simp [State.slot]

theorem State.putCapture_lane (s : State) (u : CaptureUnit × Option AlertFlag) (j : SlotId) :
    (s.putCapture u).lane j = s.lane j := by simp [State.lane]

/-- What one value for each slot reads as. -/
theorem perSlot_get {α : Type} (f : SlotId → α) (i : SlotId) : (perSlot f)[i] = f i := by
  revert i; intro i; fin_cases i <;> rfl

end Sys2Proof.Machine
end

