-- ==== Sys2Proof/Laws/Ops.lean ====
section
/-!
SUPPORT. What each shared operation can do, said once: the frame of a management command, its argument bytes, counting
into a slot record, capture and defect reports, tag entries, the sort port, the chamber line, folds over the slots.
-/
namespace Sys2Proof.Machine

/-! ## Bytes -/

@[simp] theorem le_length : ∀ n v : Nat, (le n v).length = n
  | 0, _ => rfl
  | n + 1, v => by simp [le, le_length n]

/-- The number in bytes is the number modulo what the bytes hold. -/
theorem fromLe_le : ∀ n v : Nat, fromLe (le n v) = v % 256 ^ n
  | 0, v => by simp [le, fromLe, Nat.mod_one]
  | n + 1, v => by
    rw [le, fromLe, fromLe_le n]
    simp only [BitVec.toNat_ofNat, Nat.reducePow]
    rw [show 256 ^ (n + 1) = 256 * 256 ^ n by rw [Nat.pow_succ, Nat.mul_comm], Nat.mod_mul]

theorem fromLe_lt : ∀ bs : List Byte, fromLe bs < 256 ^ bs.length
  | [] => by simp [fromLe]
  | b :: bs => by
    have h := fromLe_lt bs
    have hb := b.isLt
    simp only [fromLe, List.length_cons, Nat.pow_succ]
    omega

/-- The slot argument of a slot's byte is the slot. -/
@[simp] theorem slotArg_ofNat (i : SlotId) : slotArg (BitVec.ofNat 8 i.val) = some i := by
  revert i; decide

/-- The window or record argument of its byte is the window or record. -/
@[simp] theorem sixteenArg_ofNat (n : Fin 16) : sixteenArg (BitVec.ofNat 8 n.val) = some n := by
  revert n; decide

/-- A slot argument is none exactly above 7. -/
theorem slotArg_eq_none (b : Byte) : slotArg b = none ↔ 8 ≤ b.toNat := by
  unfold slotArg; split <;> simp <;> omega

/-- A window or record argument is none exactly above 15. -/
theorem sixteenArg_eq_none (b : Byte) : sixteenArg b = none ↔ 16 ≤ b.toNat := by
  unfold sixteenArg; split <;> simp <;> omega

/-! ## Management commands -/

theorem State.command_inReset (s : State) (rule : State → Answer) (h : s.inReset = true) : s.command rule = s := by
  simp [State.command, h]

theorem State.command_loading (s : State) (rule : State → Answer) (h : s.inReset = false) (hl : s.isLoading = true) :
    s.command rule = s.answer .notReady [] := by simp [State.command, h, hl]

theorem State.command_ready (s : State) (rule : State → Answer) (h : s.inReset = false) (hl : s.loader = .ready) :
    s.command rule = s.concluded (rule s) := by simp [State.command, State.isLoading, h, hl]

/-- Everything a management command can do: nothing in reset, NOT_READY in a load, its effects with OK, another code alone. -/
theorem State.command_cases (s : State) (rule : State → Answer) :
    (s.inReset = true ∧ s.command rule = s) ∨
      (s.inReset = false ∧ s.loader ≠ .ready ∧ s.command rule = s.answer .notReady []) ∨
      (s.inReset = false ∧ s.loader = .ready ∧ ∃ t p, rule s = .ok t p ∧ s.command rule = t.answer .ok p) ∨
      s.inReset = false ∧ s.loader = .ready ∧ ∃ st, rule s = .no st ∧ s.command rule = s.answer st [] := by
  by_cases h : s.inReset = true
  · exact .inl ⟨h, s.command_inReset rule h⟩
  · have h : s.inReset = false := by simpa using h
    by_cases hl : s.loader = .ready
    · rw [s.command_ready rule h hl]
      cases hr : rule s with
      | ok t p => exact .inr (.inr (.inl ⟨h, hl, t, p, rfl, rfl⟩))
      | no st => exact .inr (.inr (.inr ⟨h, hl, st, rfl, rfl⟩))
    · exact .inr (.inl ⟨h, hl, s.command_loading rule h (by simp [State.isLoading, hl])⟩)

@[simp] theorem slotCommand_slot (i : SlotId) (rule : SlotId → Answer) :
    slotCommand [BitVec.ofNat 8 i.val] rule = rule i := by simp [slotCommand]

/-- A slot command that is taken names a slot in its one argument byte. -/
theorem slotCommand_ok {args : List Byte} {rule : SlotId → Answer} {t : State} {p : List Byte}
    (h : slotCommand args rule = .ok t p) : ∃ i, args = [BitVec.ofNat 8 i.val] ∧ rule i = .ok t p := by
  unfold slotCommand at h
  split at h
  · rename_i b
    split at h
    · rename_i i hb
      refine ⟨i, ?_, h⟩
      unfold slotArg at hb
      split at hb
      · cases hb; simp
      · cases hb
    · cases h
  · cases h

/-- A command of no argument bytes that is taken has none. -/
theorem plainCommand_ok {args : List Byte} {a : Answer} {t : State} {p : List Byte}
    (h : plainCommand args a = .ok t p) : args = [] ∧ a = .ok t p := by
  unfold plainCommand at h
  split at h
  · exact ⟨rfl, h⟩
  · cases h

/-! ## Counting, capture and defect reports -/

/-- A report changes at most the slot's record. -/
theorem State.report_cases (s : State) (i : SlotId) (f : SlotRecord → SlotRecord) :
    (s.counting i = true ∧ s.report i f = s.modSlot i f) ∨ (s.counting i = false ∧ s.report i f = s) := by
  unfold State.report; cases h : s.counting i <;> simp

/-- A capture event changes at most the capture unit and the alert flags. -/
theorem State.capturing_cases (s : State) (e : CaptureEvent) :
    (s.counting e.slot = true ∧ s.capturing e = s.putCapture (s.capture.deliver e)) ∨
      (s.counting e.slot = false ∧ s.capturing e = s) := by
  unfold State.capturing; cases h : s.counting e.slot <;> simp

/-- An insertion changes at most the slot's defect summary and the free records. -/
theorem State.insertDefect_cases (s : State) (i : SlotId) (lba : Nat) (c : Cause) (pass : Nat) :
    (s.counting i = true ∧ ∃ d free, Machine.insertDefect s.profile.defectCap lba c pass (s.slot i).defects s.freeExtents =
        (d, free) ∧
        s.insertDefect i lba c pass = { s.modSlot i (fun r => { r with defects := d }) with freeExtents := free }) ∨
      (s.counting i = false ∧ s.insertDefect i lba c pass = s) := by
  unfold State.insertDefect
  cases h : s.counting i
  · simp
  · exact .inl ⟨rfl, _, _, rfl, rfl⟩

/-- Everything an insertion can do to a list and the free records (R81 to R84). -/
theorem insertDefect_cases (cap l : Nat) (c : Cause) (p : Nat) (d : Defects) (free : Nat) :
    (∃ es, absorbInto l c p d.extents = some es ∧ insertDefect cap l c p d free = ({ d with extents := es }, free)) ∨
      (absorbInto l c p d.extents = none ∧ ∃ es, (extendUp l c p d.extents = some es ∨
          (extendUp l c p d.extents = none ∧ extendDown l c p d.extents = some es)) ∧
        insertDefect cap l c p d free = (d.extended es, free + (d.extents.length - es.length))) ∨
      (absorbInto l c p d.extents = none ∧ extendUp l c p d.extents = none ∧ extendDown l c p d.extents = none ∧
        d.extents.length < cap ∧ 0 < free ∧
        insertDefect cap l c p d free = (d.extended (placeExtent (Extent.created l c p) d.extents), free - 1)) ∨
      (absorbInto l c p d.extents = none ∧ extendUp l c p d.extents = none ∧ extendDown l c p d.extents = none ∧
        ¬(d.extents.length < cap ∧ 0 < free) ∧ insertDefect cap l c p d free = (d.lost, free)) := by
  unfold insertDefect
  cases ha : absorbInto l c p d.extents with
  | some es => exact .inl ⟨es, rfl, rfl⟩
  | none =>
    cases hu : extendUp l c p d.extents with
    | some es => exact .inr (.inl ⟨rfl, es, .inl rfl, rfl⟩)
    | none =>
      cases hd : extendDown l c p d.extents with
      | some es => exact .inr (.inl ⟨rfl, es, .inr ⟨rfl, rfl⟩, rfl⟩)
      | none =>
        by_cases h : d.extents.length < cap ∧ 0 < free
        · exact .inr (.inr (.inl ⟨rfl, rfl, rfl, h.1, h.2, by simp [h.1, h.2]⟩))
        · refine .inr (.inr (.inr ⟨rfl, rfl, rfl, h, ?_⟩))
          simp only [Bool.and_eq_true, decide_eq_true_eq]
          rw [if_neg h]

/-- Everything a delivery can do: into a free record, over an unread one, into staging, or unmatched (R90 to R94). -/
theorem CaptureUnit.deliver_cases (u : CaptureUnit) (e : CaptureEvent) :
    (∃ n, u.lowest (fun _ r => r.accepts e && r.state.isFree) = some n ∧
        u.deliver e = (u.setRecord n (u.records[n].written (.full e)), some .captureNew)) ∨
      (∃ n, u.lowest (fun n r => r.accepts e && r.state.isUnread && u.locked != some n) = some n ∧
        u.deliver e = (u.setRecord n (u.records[n].written (.overwritten e)), some .captureNew)) ∨
      (∃ n, u.lowest (fun _ r => r.accepts e) = some n ∧ u.staging = none ∧
        u.deliver e = ({ u with staging := some { event := e, aim := n } }, none)) ∨
      (∃ n st, u.lowest (fun _ r => r.accepts e) = some n ∧ u.staging = some st ∧
        u.deliver e =
          ({ u with staging := some { event := e, aim := n }, stagedLost := inc16 u.stagedLost }, some .stagedLost)) ∨
      (u.lowest (fun _ r => r.accepts e) = none ∧
        u.deliver e = ({ u with unmatched := inc16 u.unmatched }, some .unmatched)) := by
  unfold CaptureUnit.deliver
  cases h1 : u.lowest (fun _ r => r.accepts e && r.state.isFree) with
  | some n => exact .inl ⟨n, rfl, rfl⟩
  | none =>
    cases h2 : u.lowest (fun n r => r.accepts e && r.state.isUnread && u.locked != some n) with
    | some n => exact .inr (.inl ⟨n, rfl, rfl⟩)
    | none =>
      cases h3 : u.lowest (fun _ r => r.accepts e) with
      | none => exact .inr (.inr (.inr (.inr ⟨rfl, rfl⟩)))
      | some n =>
        cases h4 : u.staging with
        | none => exact .inr (.inr (.inl ⟨n, rfl, rfl, rfl⟩))
        | some st => exact .inr (.inr (.inr (.inl ⟨n, st, rfl, rfl, rfl⟩)))

/-- A delivered event leaves the state with the unit and the flags of `delivered`, and nothing else changed (R100). -/
theorem State.putCapture_delivered (s : State) (e : CaptureEvent) : s.putCapture (s.capture.deliver e) =
    { s with capture := (delivered (s.capture, s.alerts) e).1, alerts := (delivered (s.capture, s.alerts) e).2 } := by
  unfold State.putCapture delivered
  cases (s.capture.deliver e).2 <;> simp [State.raise, AlertFlag.set]

/-- Everything the release of the lock can do (R97). -/
theorem CaptureUnit.releaseLock_cases (u : CaptureUnit) :
    (u.locked = none ∧ u.releaseLock = (u, none)) ∨
      (∃ n st, u.locked = some n ∧ u.staging = some st ∧ st.aim = n ∧ u.releaseLock =
        ({ u.setRecord n (u.records[n].written (.full st.event)) with locked := none, staging := none },
          some .captureNew)) ∨
      ∃ n, u.locked = some n ∧ (∀ st, u.staging = some st → st.aim ≠ n) ∧ u.releaseLock =
        ({ u.setRecord n { u.records[n] with state := u.records[n].state.released } with locked := none }, none) := by
  unfold CaptureUnit.releaseLock
  cases h : u.locked with
  | none => exact .inl ⟨rfl, rfl⟩
  | some n =>
    cases hs : u.staging with
    | none => exact .inr (.inr ⟨n, rfl, by simp, rfl⟩)
    | some st =>
      by_cases ha : st.aim = n
      · exact .inr (.inl ⟨n, st, rfl, rfl, ha, by simp [ha]⟩)
      · exact .inr (.inr ⟨n, rfl, by rintro x ⟨⟩; exact ha, by simp [ha]⟩)

/-! ## Tag entries -/

/-- An entry is changed only where it is OPEN or LATE, and then only its lane. -/
theorem State.modEntry_cases (s : State) (i : SlotId) (e : EntryId) (f : TagEntry → TagEntry) :
    ((s.lane i).entry e = none ∧ s.modEntry i e f = s) ∨
      ∃ t, (s.lane i).entry e = some t ∧ s.modEntry i e f = s.modLane i (·.setEntry e (some (f t))) := by
  unfold State.modEntry
  cases h : (s.lane i).entry e with
  | none => exact .inl ⟨rfl, rfl⟩
  | some t => exact .inr ⟨t, rfl, rfl⟩

/-- Everything the UNTRACKED mark can do (R31). -/
theorem State.markUntracked_cases (s : State) (i : SlotId) (e : EntryId) :
    s.markUntracked i e = s ∨ ∃ t, (s.lane i).entry e = some t ∧ t.untracked = false ∧ s.markUntracked i e =
      (s.report i (SlotRecord.count TestCounters.anomaly)).modLane i
        (·.setEntry e (some { t with untracked := true, snoop := Snoop.discarded })) := by
  unfold State.markUntracked
  cases h : (s.lane i).entry e with
  | none => exact .inl rfl
  | some t =>
    cases hu : t.untracked with
    | true => exact .inl (by simp [hu])
    | false => exact .inr ⟨t, rfl, hu, by simp [hu]⟩

/-- Everything a byte beyond the command's data can do: the note and one anomaly, once (R31). -/
theorem State.noteOverrun_cases (s : State) (i : SlotId) (e : EntryId) (t : TagEntry) :
    (t.overrunNoted = true ∧ s.noteOverrun i e t = s) ∨
      (t.overrunNoted = false ∧ s.noteOverrun i e t =
        (s.report i (SlotRecord.count TestCounters.anomaly)).modLane i
          (·.setEntry e (some { t with overrunNoted := true }))) := by
  unfold State.noteOverrun; cases h : t.overrunNoted <;> simp

/-- Everything one byte of a frame can do: nothing but pass without an entry at the position, overrun beyond the command's data,
UNTRACKED, a byte of a sector, a byte of an IDENT block, or the position alone (R30, R31). -/
theorem State.passOne_cases (s : State) (i : SlotId) (good : Bool) (b : Byte) :
    s.passOne i good b = (s, b, false) ∨
      ∃ p t, (s.lane i).position = some p ∧ (s.lane i).entry p.entry = some t ∧
        ((t.beyond s.sectorSize p.offset = true ∧
            s.passOne i good b = ((s.noteOverrun i p.entry t).modLane i Lane.advance, b, false)) ∨
          (t.beyond s.sectorSize p.offset = false ∧ t.untracked = true ∧ s.passOne i good b = s.passUntracked i good b) ∨
          (t.beyond s.sectorSize p.offset = false ∧ t.untracked = false ∧ t.cls.isData = true ∧
            s.passOne i good b = s.passByte i p.entry t p.offset good b) ∨
          (t.beyond s.sectorSize p.offset = false ∧ t.untracked = false ∧ t.cls = .ident ∧
            s.passOne i good b = (s.passIdent i p.entry t p.offset good b, b, false)) ∨
          (t.beyond s.sectorSize p.offset = false ∧ t.untracked = false ∧ t.cls.isData = false ∧ t.cls ≠ .ident ∧
            s.passOne i good b = (s.modLane i Lane.advance, b, false))) := by
  unfold State.passOne
  cases hp : (s.lane i).position with
  | none => exact .inl rfl
  | some p =>
    cases he : (s.lane i).entry p.entry with
    | none => exact .inl (by simp [he])
    | some t =>
      refine .inr ⟨p, t, rfl, he, ?_⟩
      cases hb : t.beyond s.sectorSize p.offset with
      | true => exact .inl ⟨rfl, by simp [he, hb]⟩
      | false =>
        cases hu : t.untracked with
        | true => exact .inr (.inl ⟨rfl, rfl, by simp [he, hb, hu]⟩)
        | false =>
          cases hd : t.cls.isData with
          | true => exact .inr (.inr (.inl ⟨rfl, rfl, rfl, by simp [he, hb, hu, hd]⟩))
          | false =>
            by_cases hi : t.cls = .ident
            · exact .inr (.inr (.inr (.inl ⟨rfl, rfl, hi, by
                rw [hi] at hd; simp [he, hb, hu, hi, CommandClass.isData, CommandClass.writes, CommandClass.reads]⟩)))
            · exact .inr (.inr (.inr (.inr ⟨rfl, rfl, rfl, hi, by simp [he, hb, hu, hd, hi]⟩)))

/-- Everything a timeout can do: its entry LATE, one count in the slot record, a capture event (R37). -/
theorem State.expireEntry_cases (s : State) (i : SlotId) (e : EntryId) :
    s.expireEntry i e = s ∨ ∃ t f d, (s.lane i).entry e = some t ∧ s.expireEntry i e =
      (((s.modLane i (·.setEntry e (some { t with late := true }))).report i f).capturing
        { slot := i, tag := e, lba := t.lba, time := s.timebase, detail := d }) := by
  unfold State.expireEntry
  cases h : (s.lane i).entry e with
  | none => exact .inl rfl
  | some t =>
    right
    by_cases hp : t.issuePhase = .ship
    · exact ⟨t, SlotRecord.shipBad, .timeout t.cls t.count t.done t.errorSectors, rfl, by
        simp only [hp, if_true]⟩
    · exact ⟨t, SlotRecord.count (fun c => { c with timeouts := inc16 c.timeouts }),
        .timeout t.cls t.count t.done t.errorSectors, rfl, by simp only [hp, if_false]⟩

/-! ## Sort port -/

/-- An offer begins where R138 allows one, and the queue and the levels are as they were. -/
theorem SortPort.offering_cases (p : SortPort) (now : Time) :
    (p.mayOffer = true ∧ p.offering now = { p with handshake := .offer now }) ∨
      (p.mayOffer = false ∧ p.offering now = p) := by
  unfold SortPort.offering; cases h : p.mayOffer <;> simp

/-- A withdrawal changes at most the sort port. -/
theorem State.withdrawNotice_cases (s : State) (i : SlotId) :
    (s.sort.holds i = true ∧ s.withdrawNotice i = s.putSort (s.sort.withdrawn i)) ∨
      (s.sort.holds i = false ∧ s.withdrawNotice i = s) := by
  unfold State.withdrawNotice; cases h : s.sort.holds i <;> simp

/-- After a withdrawal the queue holds no notice of the slot. -/
theorem SortPort.withdrawn_holds (p : SortPort) (i : SlotId) : (p.withdrawn i).holds i = false := by
  simp [SortPort.withdrawn, SortPort.holds]

/-! ## The chamber line -/

@[simp] theorem LineReceiver.run_nil (r : LineReceiver) : r.run [] = (r, []) := rfl

@[simp] theorem LineReceiver.run_cons (r : LineReceiver) (level : Bool) (rest : List Bool) :
    r.run (level :: rest) = (((r.sample level).1.run rest).1, (r.sample level).2.toList ++ ((r.sample level).1.run rest).2) := rfl

/-- Samples taken in two parts: the events of the first before those of the second. -/
theorem LineReceiver.run_append (a b : List Bool) : ∀ r : LineReceiver,
    r.run (a ++ b) = (((r.run a).1.run b).1, (r.run a).2 ++ ((r.run a).1.run b).2) := by
  induction a with
  | nil => intro r; rfl
  | cons x a ih => intro r; simp [ih]

@[simp] theorem LineReceiver.discarded_waiting (m : Bool) : (LineReceiver.waiting m).discarded = .waiting m := rfl
@[simp] theorem LineReceiver.discarded_character (n : Nat) (bits : List Bool) (solid : Bool) :
    (LineReceiver.character n bits solid).discarded = .waiting false := rfl
@[simp] theorem LineReceiver.discarded_heldBack (n : Nat) (solid : Bool) :
    (LineReceiver.heldBack n solid).discarded = .waiting false := rfl
@[simp] theorem LineReceiver.discarded_inBreak : LineReceiver.inBreak.discarded = .inBreak := rfl

/-- A load leaves the receiver with LINE_BREAK as it was, or waiting for a mark (R119). -/
theorem LineReceiver.afresh_cases (r : LineReceiver) :
    (r = .inBreak ∧ r.afresh = .inBreak) ∨ (r ≠ .inBreak ∧ r.afresh = .waiting false) := by
  cases r <;> simp [LineReceiver.afresh]

/-- LINE_BREAK is kept by a divisor's change (R119). -/
theorem LineReceiver.discarded_eq_inBreak (r : LineReceiver) : r.discarded = .inBreak ↔ r = .inBreak := by
  cases r <;> simp

/-- A load and a reset hear nothing of the line (R119). -/
theorem State.hearLine_not_receiving (s : State) (levels : List Bool) (h : s.receiving = false) : s.hearLine levels = s := by
  simp [State.hearLine, h]

/-- Everything the line can do: the receiver moves on, and the frame receiver takes what it found. -/
theorem State.hearLine_receiving (s : State) (levels : List Bool) (h : s.receiving = true) :
    s.hearLine levels = (s.chamber.receiver.run levels).2.foldl State.takeEvent
      (s.modChamber (fun c => { c with receiver := (s.chamber.receiver.run levels).1 })) := by
  simp [State.hearLine, h]

/-- What every event of the line keeps, and a move of the character receiver keeps, its samples keep. -/
theorem State.hearLine_induct {P : State → Prop} (hr : ∀ s r, P s → P (s.modChamber (fun c => { c with receiver := r })))
    (he : ∀ s event, P s → P (s.takeEvent event)) (s : State) (levels : List Bool) (hs : P s) : P (s.hearLine levels) := by
  cases h : s.receiving with
  | false => rwa [s.hearLine_not_receiving levels h]
  | true =>
    rw [s.hearLine_receiving levels h]
    generalize (s.chamber.receiver.run levels).2 = events
    have hm := hr s (s.chamber.receiver.run levels).1 hs
    revert hm
    generalize s.modChamber (fun c => { c with receiver := (s.chamber.receiver.run levels).1 }) = u
    induction events generalizing u with
    | nil => exact fun hu => hu
    | cons event events ih => exact fun hu => ih (u.takeEvent event) (he u event hu)

/-- A completed frame brings the profile's H1 into effect (R112). -/
@[simp] theorem Chamber.completed_h1InEffect (c : Chamber) (f : FrameInProgress) (status : Byte) (now : Time) (h1 : Nat) :
    (c.completed f status now h1).h1InEffect = h1 := rfl

/-- A credited second is an excursion exactly above the H1 in effect (R112, R116). -/
theorem SoakBlock.credit_excursionSeconds (k : SoakBlock) (p : Profile) (h1 h : Nat) :
    (k.credit p h1 h).excursionSeconds = if h1 < h then inc32 k.excursionSeconds else k.excursionSeconds := rfl

/-! ## Folds -/

/-- What every step of a fold over the slots keeps, the fold keeps. -/
theorem State.forSlots_induct {P : State → Prop} {f : State → SlotId → State} (h : ∀ s i, P s → P (f s i)) (s : State)
    (hs : P s) : P (s.forSlots f) := by
  unfold State.forSlots
  generalize allSlots = l
  induction l generalizing s with
  | nil => exact hs
  | cons i l ih => exact ih (f s i) (h s i hs)

/-- What every byte of a frame keeps, the frame keeps. -/
theorem State.passBytes_induct {P : State → Prop} (i : SlotId) (good : Bool) (h : ∀ s b, P s → P (s.passOne i good b).1)
    (bs : List Byte) : ∀ s, P s → P (s.passBytes i good bs).1 := by
  induction bs with
  | nil => intro s hs; exact hs
  | cons b bs ih => intro s hs; exact ih _ (h s b hs)

/-- The bytes of a frame in two parts do what they do in one (R30). -/
theorem State.passBytes_append (i : SlotId) (good : Bool) (a b : List Byte) : ∀ s : State,
    s.passBytes i good (a ++ b) =
      let first := s.passBytes i good a
      let second := first.1.passBytes i good b
      (second.1, first.2.1 ++ second.2.1, first.2.2 || second.2.2) := by
  induction a with
  | nil => intro s; simp [State.passBytes]
  | cons x a ih => intro s; simp [State.passBytes, ih, Bool.or_assoc]

/-- A sector in progress after bytes of one frame, taken one by one (R60). -/
theorem SectorInProgress.take_foldl (good : Bool) : ∀ (bs : List Byte) (x : SectorInProgress), bs ≠ [] →
    bs.foldl (fun y b => y.take good b) x = { x with received := x.received ++ bs, checksGood := x.checksGood && good }
  | [b], x, _ => by simp [SectorInProgress.take]
  | b :: c :: bs, x, _ => by
    rw [List.foldl_cons, SectorInProgress.take_foldl good (c :: bs) _ (by simp)]
    cases good <;> simp [SectorInProgress.take]

/-- A frame is sent on with as many bytes as it came with (R24). -/
theorem State.passBytes_length (i : SlotId) (good : Bool) (bs : List Byte) : ∀ s : State,
    (s.passBytes i good bs).2.1.length = bs.length := by
  induction bs with
  | nil => intro s; rfl
  | cons b bs ih => intro s; simp [State.passBytes, ih]

end Sys2Proof.Machine
end

