-- ==== Sys2Proof/Laws/PatternMemory.lean ====
section
/-!
SUPPORT. The laws of the pattern table RAM: every operation keeps the canonical form, a word written is read back, and every
other word is left alone.
-/
namespace Sys2Proof.Machine

theorem Memory.wfFrom_mono {lo hi : Nat} (h : lo ≤ hi) : ∀ {m : List Host.Cell}, Memory.wfFrom hi m = true →
    Memory.wfFrom lo m = true
  | [], _ => rfl
  | c :: m, hm => by
    simp only [Memory.wfFrom, Bool.and_eq_true, decide_eq_true_eq] at hm ⊢
    exact ⟨⟨by omega, hm.1.2⟩, hm.2⟩

/-- A write keeps the canonical form. -/
theorem Memory.wfFrom_writeByte {addr lo : Nat} (b : Byte) (h : lo ≤ addr) : ∀ {m : List Host.Cell} {l : Nat},
    l ≤ addr → Memory.wfFrom l m = true → Memory.wfFrom l (Memory.writeByte addr b m) = true
  | [], l, hl, _ => by
    unfold Memory.writeByte; split
    · rfl
    · rename_i hb; simp [Memory.wfFrom, hl, hb]
  | c :: m, l, hl, hm => by
    have hm' := hm
    simp only [Memory.wfFrom, Bool.and_eq_true, decide_eq_true_eq] at hm'
    obtain ⟨⟨h1, h2⟩, h3⟩ := hm'
    unfold Memory.writeByte
    split
    · rename_i hlt
      simp only [Memory.wfFrom, Bool.and_eq_true, decide_eq_true_eq]
      exact ⟨⟨h1, h2⟩, Memory.wfFrom_writeByte b h (by omega) h3⟩
    · split
      · rename_i heq
        split
        · exact Memory.wfFrom_mono (by omega) h3
        · rename_i hb
          simp only [Memory.wfFrom, Bool.and_eq_true, decide_eq_true_eq, bne_iff_ne, ne_eq]
          exact ⟨⟨hl, hb⟩, heq ▸ h3⟩
      · split
        · exact hm
        · rename_i hb
          simp only [Memory.wfFrom, Bool.and_eq_true, decide_eq_true_eq, bne_iff_ne, ne_eq]
          exact ⟨⟨hl, hb⟩, ⟨by omega, by simpa using h2⟩, h3⟩

/-- A write keeps the canonical form. -/
theorem Memory.wf_writeByte (addr : Nat) (b : Byte) {m : List Host.Cell} (h : Memory.wf m = true) :
    Memory.wf (Memory.writeByte addr b m) = true := Memory.wfFrom_writeByte (lo := addr) b (le_refl _) (Nat.zero_le _) h

theorem Memory.readByte_below {a : Nat} : ∀ {m : List Host.Cell} {lo : Nat}, Memory.wfFrom lo m = true → a < lo →
    Memory.readByte a m = Memory.background
  | [], _, _, _ => rfl
  | c :: m, lo, h, ha => by
    simp only [Memory.wfFrom, Bool.and_eq_true, decide_eq_true_eq] at h
    rw [Memory.readByte, if_neg (by omega)]
    exact Memory.readByte_below h.2 (by omega)

/-- A byte written is read back, and every other byte is left alone. -/
theorem Memory.readByte_writeByte (addr a : Nat) (b : Byte) : ∀ {m : List Host.Cell} {lo : Nat},
    Memory.wfFrom lo m = true →
      Memory.readByte a (Memory.writeByte addr b m) = if a = addr then b else Memory.readByte a m
  | [], _, _ => by
    unfold Memory.writeByte
    split
    · rename_i hb; split
      · simp [Memory.readByte, hb]
      · rfl
    · simp only [Memory.readByte]; split_ifs <;> first | rfl | omega
  | c :: m, lo, h => by
    have h' := h
    simp only [Memory.wfFrom, Bool.and_eq_true, decide_eq_true_eq] at h'
    obtain ⟨⟨h1, h2⟩, h3⟩ := h'
    unfold Memory.writeByte
    split
    · simp only [Memory.readByte]
      rw [Memory.readByte_writeByte addr a b h3]
      split_ifs <;> first | rfl | omega
    · split
      · rename_i heq
        split
        · rename_i hb
          simp only [Memory.readByte]
          by_cases ha : a = addr
          · rw [if_pos ha, ha, Memory.readByte_below h3 (by omega), hb]
          · rw [if_neg ha, if_neg (by omega)]
        · simp only [Memory.readByte]
          split_ifs <;> first | rfl | omega
      · split
        · rename_i hb
          by_cases ha : a = addr
          · subst ha; rw [if_pos rfl, hb, Memory.readByte, if_neg (by omega), Memory.readByte_below h3 (by omega)]
          · rw [if_neg ha]
        · simp only [Memory.readByte]
          split_ifs <;> first | rfl | omega

/-- A write at an address below a bound leaves every address below it. -/
theorem Memory.writeByte_bound {addr n : Nat} (b : Byte) (h : addr < n) : ∀ {m : List Host.Cell}, (∀ c ∈ m, c.1 < n) →
    ∀ c ∈ Memory.writeByte addr b m, c.1 < n
  | [], _, c, hc => by
    unfold Memory.writeByte at hc; split at hc
    · cases hc
    · rw [List.mem_singleton] at hc; subst hc; exact h
  | d :: m, hm, c, hc => by
    have hd := hm d (List.mem_cons_self ..)
    have hr : ∀ c ∈ m, c.1 < n := fun c h => hm c (List.mem_cons_of_mem _ h)
    unfold Memory.writeByte at hc
    split at hc
    · rcases List.mem_cons.1 hc with rfl | h'
      · exact hd
      · exact Memory.writeByte_bound b h hr c h'
    · split at hc
      · split at hc
        · exact hr c hc
        · rcases List.mem_cons.1 hc with rfl | h'
          · exact h
          · exact hr c h'
      · split at hc
        · exact hm c hc
        · rcases List.mem_cons.1 hc with rfl | h'
          · exact h
          · exact hm c h'

/-- Writing a word keeps the canonical form. -/
theorem wf_writeTableWord {m : List Host.Cell} (w : Nat) (x : Word32) (h : Memory.wf m = true) :
    Memory.wf (writeTableWord m w x) = true :=
  Memory.wf_writeByte _ _ (Memory.wf_writeByte _ _ (Memory.wf_writeByte _ _ (Memory.wf_writeByte _ _ h)))

/-- Writing words keeps the canonical form. -/
theorem wf_writeTableWords (xs : List Word32) : ∀ {m : List Host.Cell} (w : Nat), Memory.wf m = true →
    Memory.wf (writeTableWords m w xs) = true := by
  induction xs with
  | nil => intro m w h; exact h
  | cons x xs ih => intro m w h; exact ih (w + 1) (wf_writeTableWord w x h)

/-- A word written is read back, and every other word is left alone. -/
theorem readTableWord_writeTableWord {m : List Host.Cell} (h : Memory.wf m = true) (w v : Nat) (x : Word32) :
    readTableWord (writeTableWord m w x) v = if v = w then x else readTableWord m v := by
  have h0 := Memory.wf_writeByte (4 * w) (x.extractLsb' 0 8) h
  have h1 := Memory.wf_writeByte (4 * w + 1) (x.extractLsb' 8 8) h0
  have h2 := Memory.wf_writeByte (4 * w + 2) (x.extractLsb' 16 8) h1
  have key : ∀ k, Memory.readByte k (writeTableWord m w x) =
      if k = 4 * w + 3 then x.extractLsb' 24 8 else if k = 4 * w + 2 then x.extractLsb' 16 8
      else if k = 4 * w + 1 then x.extractLsb' 8 8 else if k = 4 * w then x.extractLsb' 0 8
      else Memory.readByte k m := by
    intro k
    unfold writeTableWord
    rw [Memory.readByte_writeByte _ _ _ h2, Memory.readByte_writeByte _ _ _ h1, Memory.readByte_writeByte _ _ _ h0,
      Memory.readByte_writeByte _ _ _ h]
  unfold readTableWord
  rw [key, key, key, key]
  by_cases hv : v = w
  · subst hv
    simp only [if_true, show ¬(4 * v + 2 = 4 * v + 3) by omega, show ¬(4 * v + 1 = 4 * v + 3) by omega,
      show ¬(4 * v = 4 * v + 3) by omega, show ¬(4 * v + 1 = 4 * v + 2) by omega, show ¬(4 * v = 4 * v + 2) by omega,
      show ¬(4 * v = 4 * v + 1) by omega, if_false]
    ext i hi
    simp only [BitVec.getElem_append, BitVec.getElem_extractLsb']
    split
    · simp [BitVec.getLsbD_eq_getElem, hi]
    · split
      · rw [BitVec.getLsbD_eq_getElem (by omega)]; congr 1; omega
      · split
        · rw [BitVec.getLsbD_eq_getElem (by omega)]; congr 1; omega
        · rw [BitVec.getLsbD_eq_getElem (by omega)]; congr 1; omega
  · simp only [show ¬(4 * v + 3 = 4 * w + 3) by omega, show ¬(4 * v + 3 = 4 * w + 2) by omega,
      show ¬(4 * v + 3 = 4 * w + 1) by omega, show ¬(4 * v + 3 = 4 * w) by omega,
      show ¬(4 * v + 2 = 4 * w + 3) by omega, show ¬(4 * v + 2 = 4 * w + 2) by omega,
      show ¬(4 * v + 2 = 4 * w + 1) by omega, show ¬(4 * v + 2 = 4 * w) by omega,
      show ¬(4 * v + 1 = 4 * w + 3) by omega, show ¬(4 * v + 1 = 4 * w + 2) by omega,
      show ¬(4 * v + 1 = 4 * w + 1) by omega, show ¬(4 * v + 1 = 4 * w) by omega,
      show ¬(4 * v = 4 * w + 3) by omega, show ¬(4 * v = 4 * w + 2) by omega,
      show ¬(4 * v = 4 * w + 1) by omega, show ¬(4 * v = 4 * w) by omega, if_false, if_neg hv]

/-- The reset state's pattern table is in canonical form. -/
theorem wf_reset : Memory.wf State.reset.patternTable = true := rfl

end Sys2Proof.Machine
end

