-- ==== Sys2Proof/Tests/Slice0.lean ====
section
/-!
SUPPORT. Tests: ill-formed commands refused, the transactions of Table 12-2, the worked examples of the manual, one step of
each command on a small state, and states that meet the hypotheses of the statements (named witness_<statement>).
Expected results come from spec/, named at each group.
-/
namespace Sys2Proof.Tests
open Sys2Proof Sys2Proof.Machine

/- The many small evaluations are checked one after another, which keeps the memory of the check low. -/
set_option Elab.async false

/-! ## Well-formedness (R23, R159) and the transactions of Table 12-2 -/

theorem test_wf_refuses_known_code_as_unknown : (Instr.unknownCommand 0x15#8 [3#8]).wf = false := by decide
theorem test_wf_refuses_empty_data_frame : (DataFrame.mk .toDrive [] true).wf = false := by decide
theorem test_wf_refuses_long_data_frame : (DataFrame.mk .toDrive (List.replicate 8193 0#8) true).wf = false := by
  decide +kernel
theorem test_wf_refuses_queued_success_of_no_tag : (Instr.successStatus 0 (.queued 0#32)).wf = false := by decide
theorem test_wf_admits : (Instr.unknownCommand 0x99#8 []).wf = true ∧ (Instr.start []).wf = true ∧
    (Instr.successStatus 0 (.queued 0x80000000#32)).wf = true := by decide

theorem test_decode_queries : decodeTransaction [0x01#8] = some (.status []) ∧
    decodeTransaction [0x02#8, 3#8] = some (.slotStatus [3#8]) ∧
    decodeTransaction [0x03#8, 3#8] = some (.slotCounters [3#8]) ∧
    decodeTransaction [0x04#8, 3#8] = some (.histogram [3#8]) ∧
    decodeTransaction [0x05#8, 3#8, 6#8, 1#8] = some (.defectRead [3#8, 6#8, 1#8]) := by decide
theorem test_decode_start : decodeTransaction [0x10#8, 3#8, 0xDE#8, 0xC0#8, 0x17#8, 0x5A#8, 0x70#8, 0x08#8] =
    some (.start [3#8, 0xDE#8, 0xC0#8, 0x17#8, 0x5A#8, 0x70#8, 0x08#8]) := by decide
theorem test_decode_phase_commands : ([0x11#8, 0x12#8, 0x13#8, 0x14#8, 0x15#8, 0x16#8, 0x17#8, 0x18#8, 0x19#8].map
    (fun c => decodeTransaction [c, 5#8])) =
      [.advancePass [5#8], .endBurn [5#8], .pause [5#8], .resume [5#8], .grade [5#8], .ship [5#8], .sealSlot [5#8],
        .release [5#8], .clearSlot [5#8]].map some := by decide
theorem test_decode_windows : decodeTransaction [0x21#8, 2#8, 5#8] = some (.windowRead [2#8, 5#8]) ∧
    decodeTransaction [0x22#8, 0xFF#8, 3#8, 1#8, 1#8, 2#8, 3#8, 4#8] =
      some (.tableWrite [0xFF#8, 3#8, 1#8, 1#8, 2#8, 3#8, 4#8]) ∧
    decodeTransaction [0x20#8, 1#8] = some (.windowWrite [1#8]) := by decide
theorem test_decode_captures : decodeTransaction [0x30#8, 1#8, 0x0C#8, 0x08#8] = some (.captureSet [1#8, 0x0C#8, 0x08#8]) ∧
    ([[0x31#8, 1#8], [0x32#8], [0x33#8]].map decodeTransaction) =
      [.captureOpen [1#8], .captureRead [], .captureClose []].map some := by decide
theorem test_decode_alerts_sort_profile_reset : ([[0x40#8], [0x41#8, 0#8, 1#8, 0#8], [0x42#8, 0#8, 1#8, 0#8], [0x50#8],
    [0x60#8, 0x0B#8, 0#8, 0x9C#8, 0#8, 0#8, 0#8], [0x61#8], [0x70#8]].map decodeTransaction) =
      [.alertRead [], .alertAck [0#8, 1#8, 0#8], .alertMask [0#8, 1#8, 0#8], .sortResume [],
        .profileSet [0x0B#8, 0#8, 0x9C#8, 0#8, 0#8, 0#8], .profileReload [], .softReset []].map some := by decide
theorem test_decode_unknown : decodeTransaction [0x06#8, 1#8] = some (.unknownCommand 0x06#8 [1#8]) ∧
    decodeTransaction [] = none := by decide
/-- No row of spec/opcode_table.json has bits. -/
theorem test_no_word_spells_a_command : decodeTableWord 8 0x15 = none ∧ State.reset.withFetchWord 8 0x15 = State.reset :=
  ⟨rfl, rfl⟩

/-! ## Worked examples of the functions -/

/-- 04_pattern_generation_and_checking.md 4.7: words 0, 1 and 2 of the image of LBA 2^32 + 16 in pass 3, and the substitute. -/
theorem test_stamp_words : (stampWords 128 4294967312 3 0x5A17C0DE#32).take 3 =
    [0x00000010#32, 0x00010003#32, 0x14A7BB03#32] ∧ stampStart 4294967312 3 0xDAA66D3B#32 = 0x1D872B41#32 := by decide
/-- 4.7, read 2: one word of the image changed. -/
theorem test_classify_corrupt : classify [] 4 16 (.stamp 4294967312 3 0x5A17C0DE#32)
    ((stampWords 4 4294967312 3 0x5A17C0DE#32).set 2 0x14A7BB13#32) =
      .corrupt 2 0x14A7BB03#32 0x14A7BB13#32 1 := by decide
/-- 4.7, reads 3 and 4: an image of pass 3 read in pass 4, and that of LBA L + 2. -/
theorem test_classify_stale_slip : classify [] 8 16 (.stamp 4294967312 4 0x5A17C0DE#32)
      (stampWords 8 4294967312 3 0x5A17C0DE#32) = .stale 3 ∧
    classify [] 8 16 (.stamp 4294967312 4 0x5A17C0DE#32) (stampWords 8 4294967314 4 0x5A17C0DE#32) = .slip 2 := by decide
/-- 4.7, last paragraph: the offset 20 is past the reach; the older pass at L + 2 is neither. -/
theorem test_classify_beyond_reach : (match classify [] 8 16 (.stamp 4294967312 4 0x5A17C0DE#32)
      (stampWords 8 4294967332 4 0x5A17C0DE#32) with | .corrupt 0 16#32 36#32 _ => true | _ => false) = true ∧
    (match classify [] 8 16 (.stamp 4294967312 4 0x5A17C0DE#32)
      (stampWords 8 4294967314 3 0x5A17C0DE#32) with | .corrupt 0 16#32 18#32 _ => true | _ => false) = true := by decide
/-- 4.8: words 0, 23, 24 and 127 of LBA 500,000,010, and word 0 of the next, come from table words 1000, 1023, 1000, 1007, 1008. -/
theorem test_table_band : (let m := writeTableWords [] 1000 [1#32, 2#32, 3#32, 4#32, 5#32, 6#32, 7#32, 8#32, 9#32]
    let m := writeTableWord m 1023 24#32
    ([0, 23, 24, 127].map (tableWord m 128 500000010 1000 24) ++ [tableWord m 128 500000011 1000 24 0])) =
      [1#32, 24#32, 1#32, 8#32, 9#32] := by decide +kernel
/-- R150 and R166: the check values of "123456789" that the manual gives. -/
theorem test_crc : crc32 ([0x31, 0x32, 0x33, 0x34, 0x35, 0x36, 0x37, 0x38, 0x39].map (BitVec.ofNat 8)) = 0xCBF43926#32 ∧
    crc16 ([0x31, 0x32, 0x33, 0x34, 0x35, 0x36, 0x37, 0x38, 0x39].map (BitVec.ofNat 8)) = 0x29B1#16 := by decide +kernel
/-- 03_windows_and_sector_actions.md, below R47: table start 1000 and length 100 is stored with length 24. -/
theorem test_table_length_clamped : clampTableLength (clampTableStart 1000) 100 = 24 ∧ clampTableStart 5000 = 1023 ∧
    clampTableLength 1023 0 = 1 := by decide
/-- 07_chamber_line_and_soak_accounting.md Table 7-3. -/
theorem test_soak_factors : [60, 80, 90, 105, 145, 158, 170, 200].map (soakFactor Profile.builtIn) =
    [none, some 128, some 192, some 288, some 576, some 742, some 896, some 896] := by decide
/-- 7.9: a falling segment. -/
theorem test_soak_falling : interpolate 150 156 600 500 151 = 584 := by decide
/-- R103, R104: even parity, stop at mark; spaces alone are held back. -/
theorem test_judge_character : judgeCharacter 0xB3#8 true true = .good 0xB3#8 ∧ judgeCharacter 0xB3#8 false true = .error ∧
    judgeCharacter 0xB3#8 true false = .error ∧ judgeCharacter 0#8 false false = .heldBack := by decide

/-- The inputs of 08_grading.md 8.7. -/
def slot3 : GradeInputs :=
  { stale := 2, slip := 0, timeouts := 1, slowCount := 140, excursionSeconds := 300, a := 33177600, g := 2160
    extentCount := 5, defectSectors := 37, truncated := false, items := GradingItems.builtIn }
theorem test_grade_slot3 : slot3.answer = { score := 3750, bin := .b, reason := .score } ∧
    { slot3 with truncated := true }.answer = { score := 3750, bin := .reject, reason := .truncated } := by decide +kernel
theorem test_grade_ended_early : { slot3 with a := 30000000 }.answer = { score := 14100, bin := .reject, reason := .score } ∧
    { slot3 with a := 30000000, items := { GradingItems.builtIn with strictSoak := true } }.answer =
      { score := 14100, bin := .reject, reason := .soakShort } := by decide +kernel
theorem test_grade_saturates : { slot3 with
    defectSectors := 33553920, items := { GradingItems.builtIn with wDefsec := 65535 } }.answer.score = 4294967295 := by decide

/-- One insertion after the other, cap 3. -/
def inserted (l : List (Cause × Nat × Nat)) : Defects × Nat :=
  l.foldl (fun x i => insertDefect 3 i.2.1 i.1 i.2.2 x.1 x.2) (Defects.none, 472)
/-- 05_defect_extents.md 5.7, I1 to I5. -/
theorem test_defects_merge : inserted
    [(.corrupt, 1000, 2), (.corrupt, 1002, 2), (.media, 1001, 2), (.corrupt, 1001, 2), (.corrupt, 999, 3)] =
      ({ extents := [{ start := 999, length := 4, corrupt := true, media := true, firstPass := 2, hits := 5 }]
         sectors := 4, unrecorded := 0, truncated := false }, 471) := by decide
/-- 5.7, I6 to I9 after them: the cap, and an extension that uses no record. -/
theorem test_defects_truncate : (let r := inserted [(.corrupt, 999, 2), (.corrupt, 50000, 3), (.media, 80000, 3),
      (.corrupt, 90000, 3), (.corrupt, 80001, 3)]
    (r.1.extents.map (fun e => (e.start, e.length, e.hits)), r.1.sectors, r.1.unrecorded, r.1.truncated, r.2)) =
      ([(999, 1, 1), (50000, 1, 1), (80000, 2, 2)], 4, 1, true, 469) := by decide
/-- 5.8: the length limit. -/
theorem test_defects_length_limit : (let e (s n : Nat) : Extent :=
      { start := s, length := n, corrupt := true, media := false, firstPass := 1, hits := 1 }
    ((insertDefect 64 265535 .corrupt 1
      { extents := [e 200000 65535, e 265536 10], sectors := 65545, unrecorded := 0, truncated := false } 9).1.extents.map
        (fun x => (x.start, x.length)))) = [(200000, 65535), (265535, 11)] := by decide
/-- 02_command_tracking_on_the_drive_links.md Table 2-1 with its example: buckets of 100 us. -/
theorem test_latency_bucket : [199, 200, 3276799, 3276800, 29999000].map (fun l => (latencyBucket 100 l).val) =
    [0, 1, 14, 15, 15] := by decide
/-- 10_shipping_and_sealing.md 10.6 and Table 10-2. -/
theorem test_record_sectors : shipRecordLength 5 = 148 ∧ recordSectorCount .s512 5 = 1 ∧ recordSectorCount .s512 27 = 1 ∧
    recordSectorCount .s512 28 = 2 ∧ recordSectorCount .s512 512 = 17 ∧ recordSectorCount .s4096 512 = 3 := by decide

/-! ## A small state -/

/-- The state a command leaves. -/
def after (c : Instr) (s : State) : State :=
  match exec c s with
  | .next t => t
  | .fault _ => s
  | .refused _ => s

/-- A drive of 1,000,000 sectors in a slot of a phase. -/
def drive (p : Phase) (g : Option GradeResult) : SlotRecord :=
  { SlotRecord.initial 0 with
    phase := p, identity := { valid := true, serial := Vector.replicate 20 0x41#8, capacity := 1000000 }, pass := 2
    grade := g }

/-- The burn of 07_chamber_line_and_soak_accounting.md 7.10 after its T1. -/
def burning : SlotRecord := { drive .burn none with soak := { SoakBlock.withTarget 2160 with a := 33177476, maxH := 150 } }

/-- A shipping slot whose one record sector is written and verified. -/
def shipping : SlotRecord :=
  { drive .ship (some { score := 40, bin := .a, reason := .score }) with
    ship := { ShipState.emptied 0#8 with written := 1#17, verified := 1#17 } }

/-- An entry issued at 1 s. -/
def entryOf1s (c : CommandClass) (lba count : Nat) (p : PhaseName) : TagEntry :=
  { late := false, cls := c, lba := lba, count := count, done := 0, issueTime := 1000000#32, issuePhase := p, pass := 2
    seed := 0#32, untracked := false, overrunNoted := false, errorSectors := 0, snoop := Snoop.empty }

/-- Slot 0 in BURN, 1 SCAN, 2 GRADED, 3 SHIP, 4 SEALED and offered, 5 HOLD over BURN by PAUSE, 6 IDLE, 7 in computation; the lane
of slot 0 has a write on tag 0 at the position, a read on tag 1 and an IDENT; the lane of slot 5 has a status waiting. Time is 40 s. -/
def lab : State :=
  { State.reset with
    loader := .ready
    timebase := 40000000#32
    soakTimer := some 39000000#32
    slots := ⟨#[burning, drive .scan none, drive .graded (some { score := 3750, bin := .b, reason := .score }), shipping,
      drive .sealed (some { score := 40, bin := .a, reason := .score }), drive (.hold .burn true false) none,
      drive .idle none, drive .gradeWait none], rfl⟩
    presence := Vector.replicate 8 { raw := true, debounced := true, interval := none }
    lanes := (Vector.replicate 8 Lane.initial).set 0
        { Lane.initial with
          tags := (((Vector.replicate 33 none).set 0 (some (entryOf1s .qwrite 3000 2 .burn))).set 1
            (some (entryOf1s .qread 9000 1 .burn))).set 32
              (some { entryOf1s .ident 0 0 .burn with done := 1, snoop := { Snoop.empty with intact := true } })
          position := some { entry := 0, offset := 0 } }
      |>.set 5 { Lane.initial with upstream := [.synthesized 3, .fromDrive (.success .nonQueued)] }
    windows := (((Vector.replicate 16 Window.builtIn).set 0
        { Window.builtIn with
          enabled := true, mask := 0xFF#8, anchor := .fromEnd, base := 64, length := 64, action := .record }).set 1
        { Window.builtIn with enabled := true, mask := 0xFF#8, length := 2048, action := .exclude }).set 2
        { Window.builtIn with
          enabled := true, mask := 0x7F#8, base := 0, length := 281474976710655, action := .test, kind := .fill
          fill := 0xA5#8 }
    chamber := { Chamber.initial with
      receiver := .waiting true
      readings := Vector.replicate 8 (.valid 158), fresh := true, prevSeq := some 2#4, staleTimer := some 35000000#32 }
    engine := some { slot := 7, void := false, takeTime := 39999999#32, inputs := slot3 }
    sort := { State.reset.sort with queue := [{ slot := 4, bin := some .a }], handshake := .offer 10000000#32 }
    capture := { CaptureUnit.initial with
      records := (CaptureUnit.initial.records.set 0 (CaptureRecord.filtered 0x04#8 0b000111#6)).set 1
        (CaptureRecord.filtered 0x0C#8 0b001000#6) } }

theorem lab_ready : lab.ready := ⟨rfl, rfl⟩

/-! ## One step of each command -/

/-- R170: the outputs of CHIP_RESET, and the address 0x3B of a part strapped with ADDR = 3 (11.8). -/
theorem test_chip_reset : (after .chipReset lab).acknowledges 0x38#7 = false ∧ (after .chipReset lab).timebase = 0#32 := by
  decide
theorem test_chip_reset_release : (let t := after (.chipResetRelease ⟨3#3, false, false, true⟩) lab
    (t.acknowledges 0x3B#7, t.acknowledges 0x38#7, t.sectorSize, (t.slot 0).phase, (t.presenceOf 0).interval)) =
      (true, false, .s4096, .empty, some 0#32) := by decide
/-- An image of H1 = 180, H2 = 170, an unknown item: 11.8 in small. -/
def items118 : List ProfileItem := [⟨0x000B, [180#8]⟩, ⟨0x000C, [170#8]⟩, ⟨0x0777, [1#8, 2#8]⟩]
theorem test_profile_ready : (let t := after (.profileReady (some (encodeImage items118))) State.reset
    (t.loaderResult, t.profile.h1, t.profile.h2, t.loader, t.alertSet .loaderDone)) =
      ({ source := .eeprom, stored := 2, skipped := 1, clamped := 1, firstClamped := some 0x000B }, 169, 170, .ready, true) := by
  decide +kernel
theorem test_soft_reset : (let t := after (.softReset []) (lab.modSlot 0 (fun r => { r with shipped := 7 }))
    ((t.slot 0).shipped, (t.slot 0).phase, t.reply.status, t.timebase)) = (7, .empty, .ok, 40000000#32) := by decide
/-- R167: the sector size in force changes only at READY, which with no image brings the strap's, here 512. -/
theorem test_soft_reset_keeps_sector_size : (let t := after (.softReset []) { lab with sectorSize := .s4096 }
    (t.sectorSize, (after (.profileReady none) t).sectorSize)) = (.s4096, .s512) := by decide +kernel
theorem test_profile_reload : (after (.profileReload []) lab).reply.status = .busy := by decide
theorem test_unknown_command : (after (.unknownCommand 0x99#8 []) lab).reply = { status := .unknown, payload := [] } := by decide
/-- R160 and Table 12-4: 62 bytes, READY, 512 free records; also during a load. -/
theorem test_status : (let p := (after (.status []) lab).reply.payload
    (p.length, p.take 1, (p.drop 17).take 2, (after (.status []) State.reset).reply.status)) =
      (62, [1#8], [0#8, 2#8], .ok) := by decide +kernel
theorem test_slot_status : (let p := (after (.slotStatus [5#8]) lab).reply.payload
    (p.length, p.take 4, (p.drop 24).take 8)) =
      (61, [8#8, 2#8, 1#8, 12#8], [0x40#8, 0x42#8, 0x0F#8, 0#8, 0#8, 0#8, 2#8, 0#8]) := by decide +kernel
theorem test_slot_counters : ((after (.slotCounters [0#8]) lab).reply.payload.drop 32).take 6 =
    [0x84#8, 0x3F#8, 0xFA#8, 0x01#8, 0x70#8, 0x08#8] := by decide +kernel
theorem test_histogram : (let p := (after (.histogram [0#8]) lab).reply.payload
    (p.length, p.drop 38)) = (41, [100#8, 0#8, 10#8]) := by decide +kernel
theorem test_defect_read : (after (.defectRead [0#8, 0#8, 0#8]) lab).reply =
    { status := .ok, payload := List.replicate 10 0#8 } ∧
    (after (.defectRead [0#8, 0#8, 2#8]) lab).reply.status = .range := by decide
theorem test_start : (let r := (after (.start [6#8, 0xDE#8, 0xC0#8, 0x17#8, 0x5A#8, 0#8, 0#8]) lab).slot 6
    (r.phase, r.seed, r.pass, r.soak.target)) = (.burn, 0x5A17C0DE#32, 1, 1) := by decide
theorem test_advance_pass : ((after (.advancePass [5#8]) lab).slot 5).pass = 3 := by decide
theorem test_end_burn : ((after (.endBurn [5#8]) lab).slot 5).phase = .hold .scan true false := by decide
theorem test_pause : ((after (.pause [3#8]) lab).slot 3).phase = .hold .ship true false := by decide
theorem test_resume : ((after (.resume [5#8]) lab).slot 5).phase = .burn := by decide
theorem test_grade : (after (.grade [1#8]) lab).gradeQueue = [1] ∧ ((after (.grade [1#8]) lab).slot 1).phase = .gradeWait := by
  decide
theorem test_ship : ((after (.ship [2#8]) lab).slot 2).phase = .ship := by decide
theorem test_seal : ((after (.sealSlot [3#8]) lab).slot 3).phase = .sealed ∧
    (after (.sealSlot [3#8]) lab).sort.queue = [⟨4, some .a⟩, ⟨3, some .a⟩] := by decide
theorem test_release : ((after (.release [3#8]) lab).slot 3).grade = some { score := 40, bin := .reject, reason := .shipAbandoned } := by
  decide
theorem test_clear_slot : (let t := after (.clearSlot [7#8]) lab
    ((t.slot 7).phase, t.engine.map (·.void))) = (.idle, some true) := by decide
/-- R47: table start 1000, length 100 stored as 24, and marked clamped. -/
theorem test_window_write : (let args := 9#8 :: [1#8, 0x40#8, 0#8, 0#8, 2#8, 0#8] ++ le 6 5 ++ le 6 7 ++ le 2 1000 ++ le 2 100
    let t := after (.windowWrite args) lab
    (t.windows[9].tableLength, t.reply.payload.drop 20)) = (24, [24#8, 0#8, 1#8]) := by decide +kernel
/-- Table 12-3: an END window of base 64 over 1,000,000 sectors, the record window. -/
theorem test_window_read : ((after (.windowRead [0#8, 2#8]) lab).reply.payload.drop 22) =
    3#8 :: le 6 999936 ++ le 6 999999 := by decide +kernel
theorem test_table_write : (after (.tableWrite [0xFF#8, 3#8, 1#8, 1#8, 2#8, 3#8, 4#8]) lab).reply.status = .busy ∧
    readTableWord (after (.tableWrite [0xFF#8, 3#8, 1#8, 1#8, 2#8, 3#8, 4#8])
      { State.reset with loader := .ready }).patternTable 1023 = 0x04030201#32 := by decide +kernel
theorem test_capture_set : ((after (.captureSet [5#8, 0xFF#8, 0x10#8]) lab).capture.records[5]).state = .empty := by decide

/-- The example of 06_capture_records.md 6.7, an event of a kind on a slot. -/
def event67 (slot : SlotId) (d : CaptureDetail) : CaptureEvent := { slot := slot, tag := 4, lba := 7000, time := 9000100#32, detail := d }
/-- 6.7 after E1, E2, C1, E3, E4 and E5. -/
def unit67 : CaptureUnit :=
  let u := (lab.capture.deliver (event67 2 (.corrupt 2 0#32 1#32 1))).1
  let u := (u.deliver (event67 3 (.media .qread 41000 1 true 0))).1
  let u := (u.opened 0).1
  let u := (u.deliver (event67 2 (.stale 1 2))).1
  let u := (u.deliver (event67 2 (.slip (-3) 2))).1
  (u.deliver (event67 2 (.anomaly true false 5))).1
def lab67 : State := { lab with capture := unit67 }
theorem test_capture_example : (unit67.records[0].state.code, unit67.records[0].arrivals, unit67.locked, unit67.stagedLost,
    unit67.unmatched) = (2, 1, some 0, 1, 1) := by decide
theorem test_capture_open : (let t := after (.captureOpen [1#8]) lab67
    (t.capture.records[0].arrivals, t.capture.records[0].state.code, t.capture.locked, t.capture.staging, t.alertSet .captureNew,
      t.reply.payload)) =
      (2, 2, some 1, none, true, [1#8, 2#8, 1#8, 0x0C#8, 8#8, 1#8, 0#8, 0#8]) := by decide
theorem test_capture_read : (after (.captureRead []) lab67).reply.payload.take 8 =
    [2#8, 2#8, 2#8, 4#8, 0x58#8, 0x1B#8, 0#8, 0#8] := by decide +kernel
theorem test_capture_close : (let t := after (.captureClose []) lab67
    (t.capture.records[0].arrivals, t.capture.openRecord, t.capture.staging)) = (2, none, none) := by decide
theorem test_alert_read : (after (.alertRead []) (lab.raise .gradeDone)).reply.payload =
    [0x40#8, 0#8, 0#8, 0xFF#8, 0xFF#8, 1#8] := by decide
theorem test_alert_ack : (after (.alertAck [0x40#8, 0#8, 0xFE#8]) (lab.raise .gradeDone)).alerts = 0#17 := by decide
theorem test_alert_mask : (after (.alertMask [0#8, 1#8, 0#8]) (lab.raise .loaderDone)).alertOutput = true ∧
    (after (.alertMask [0xFF#8, 0xFE#8, 1#8]) (lab.raise .loaderDone)).alertOutput = false := by decide
theorem test_sort_resume : (after (.sortResume []) (after .faultDeasserted (after .faultAsserted lab))).sort.handshake =
    .offer 40000000#32 ∧ (after (.sortResume []) lab).reply.status = .refused := by decide
/-- 11.8: PROFILE_SET(H1, 156) with H2 = 170. -/
theorem test_profile_set : (after (.profileSet [0x0B#8, 0#8, 156#8, 0#8, 0#8, 0#8]) lab).reply =
    { status := .ok, payload := [156#8, 0#8, 0#8, 0#8] } ∧
    (after (.profileSet [0x0B#8, 0#8, 200#8, 0#8, 0#8, 0#8]) lab).profile.h1 = 169 := by decide +kernel
theorem test_raw_presence_change : ((after (.rawPresenceChange 6 false) lab).presenceOf 6).interval = some 40000000#32 := by decide

/-- A carrier of a slot pulled 100 ms ago. -/
def pulled (s : State) (i : SlotId) : State :=
  s.setPresence i { raw := false, debounced := true, interval := some 39900000#32 }
/-- 09_sort_port.md 9.6: an offered slot pulled by hand is a mispull and the offer falls; a SORTED one has departed. -/
theorem test_debounce_end : (let t := after (.debounceEnd 4) (pulled lab 4)
    ((t.slot 4).orphaned, t.alertSet .mispull, t.sort.queue, t.sort.handshake)) = (true, true, [], .idle) ∧
    (let t := after (.debounceEnd 4) (after .takeAsserted (pulled lab 4));
      ((t.slot 4).phase, (t.slot 4).shipped, t.alertSet .mispull)) = (.empty, 1, false) := by decide
theorem test_command_frame : ((after (.commandFrame 1 ⟨.qread 7, 5000#48, 0#16⟩) lab).lane 1).entry 7 =
    some { entryOf1s .qread 5000 65536 .scan with issueTime := 40000000#32 } := by decide
theorem test_command_withheld : (let t := after (.commandFrame 5 ⟨.write, 5000#48, 1#16⟩) lab
    ((t.lane 5).toDrive, (t.lane 5).pendingStatuses, (t.slot 5).counters.withheld)) = ([], [3, 32], 1) := by decide
theorem test_pending_status_send : (let l := (after (.pendingStatusSend 5) lab).lane 5
    (l.toServer, l.upstream)) =
      ([.status (.error ⟨some 3, .abort⟩), .status (.success .nonQueued)], []) := by decide
theorem test_data_setup_notice : ((after (.dataSetupNotice 0 ⟨some 1, 0, .toServer⟩) lab).lane 0).position =
    some { entry := 1, offset := 0 } ∧
    ((after (.dataSetupNotice 0 ⟨some 1, 0, .toDrive⟩) lab).slot 0).counters.anomalies = 1 := by decide
/-- R65: the bytes of a write in a TEST window are the window's image. -/
theorem test_data_frame : ((after (.dataFrame 0 ⟨.toDrive, [1#8, 2#8, 3#8], true⟩) lab).lane 0).toDrive =
    [.data [0xA5#8, 0xA5#8, 0xA5#8] .computed] := by decide +kernel
/-- R31: data past the command's end on an UNTRACKED entry counts one anomaly more, once. -/
theorem test_overrun_untracked : (let a := after (.dataSetupNotice 0 ⟨some 0, 1024, .toDrive⟩) lab
    let b := after (.dataFrame 0 ⟨.toDrive, [1#8], true⟩) a
    let c := after (.dataFrame 0 ⟨.toDrive, [1#8], true⟩) b
    ((a.slot 0).counters.anomalies, (b.slot 0).counters.anomalies, (c.slot 0).counters.anomalies)) = (1, 2, 2) := by
  decide +kernel
/-- R65, R72: a written sector counts only if every frame that carried it had a correct check; done rises either way. -/
theorem test_sector_needs_every_check : [true, false].map (fun good =>
    let s := lab.modLane 0 (fun l => { l with
      position := some ⟨0, 511⟩
      sector := some { entry := 0, index := 0, lba := 3000, substitutes := true, image := .fill 0xA5#8
                       received := List.replicate 511 0#8, checksGood := good } })
    let t := after (.dataFrame 0 ⟨.toDrive, [1#8], true⟩) s
    ((t.slot 0).counters.writtenSectors, ((t.lane 0).entry 0).map (·.done), (t.lane 0).toDrive)) =
    [(1, some 1, [.data [0xA5#8] .computed]), (0, some 1, [.data [0xA5#8] .computed])] := by decide +kernel
/-- The IDENT of lab closes; the drive's serial differs (R44). -/
theorem test_success_status : (let t := after (.successStatus 0 .nonQueued) lab
    ((t.lane 0).entry 32, (t.slot 0).counters.anomalies, t.alertSet .unmatched)) = (none, 1, true) := by decide
/-- 2.12 E5: a MEDIA error closes tag 1, aborts tag 0 and inserts its LBA. -/
theorem test_error_status : (let t := after (.errorStatus 0 ⟨some 1, .media (some 9000#48)⟩) lab
    ((t.lane 0).entry 0, (t.slot 0).counters.media, (t.slot 0).counters.aborted, (t.slot 0).defects.sectors, (t.lane 0).position)) =
      (none, 1, 1, 1, none) := by decide +kernel
theorem test_command_timeout : (let t := after (.commandTimeout 0 1) lab
    (((t.lane 0).entry 1).map (·.late), (t.slot 0).counters.timeouts)) = (some true, 1) := by decide
theorem test_drive_link_reset : (let t := after (.driveLinkReset 0) lab
    ((t.slot 0).counters.abandoned, (t.lane 0).position)) = (3, none) := by decide
/-- 7.10 T4. -/
theorem test_soak_tick : (let r := (after .soakTick lab).slot 0
    (r.phase, r.soak.a, r.soak.maxH, r.soak.excursionSeconds)) = (.scan, 33178218, 158, 1) := by decide
/-- The levels of a good character of a byte, with the parity bit that makes the ones even (R103). -/
def goodLevels (b : Byte) : List Bool := characterLevels b ((List.range 8).foldl (fun p k => p ^^ b.getLsbD k) false) true
/-- The levels of a character of odd parity: five ones and no parity bit. -/
def oddLevels : List Bool := characterLevels 0xB3#8 false true
/-- R104, R105: a space that is mark again at the middle of the start bit is a glitch; a character of spaces is held back and is an error
at the return to mark; the line at space through 22 bit times is a break and not an error, and the next mark ends it. -/
theorem test_line_glitch_held_back_break : (LineReceiver.waiting true).run (List.replicate 8 false ++ [true]) = (.waiting true, []) ∧
    ((LineReceiver.waiting true).run (characterLevels 0#8 false false ++ [true])).2 = [.error] ∧
    ((LineReceiver.waiting true).run (List.replicate 353 false ++ [true])).2 = [.lineBreak, .markAfterBreak] := by decide +kernel
/-- R104: after an error at a stop bit at space, no start bit is recognised before the line has been at mark. -/
theorem test_line_waits_for_mark : ((LineReceiver.waiting true).run (characterLevels 0xB3#8 true false ++ List.replicate 200 false)) =
    (.waiting false, [.error]) := by decide +kernel
theorem test_chamber_byte : (after (.chamberByte (goodLevels 0xB3#8)) lab).chamber.frame = some ⟨3#4, []⟩ ∧
    (after (.chamberByte (goodLevels 0x0D#8)) lab).chamber.frame = none ∧
    (after (.chamberByte oddLevels) lab).chamber.lineErrors = 1 := by decide +kernel
/-- A frame of eight readings of one byte, one byte short of complete. -/
def inFrame (b : Byte) (s : State) : State := s.modChamber (fun c => { c with frame := some ⟨3#4, List.replicate 8 b⟩ })
/-- 7.8: 170 adds THERMAL, 157 leaves it, 156 removes it. -/
theorem test_chamber_frame : (let a := after (.chamberByte (goodLevels 0#8)) (inFrame 170#8 lab)
    let b := after (.chamberByte (goodLevels 0#8)) (inFrame 157#8 a)
    let c := after (.chamberByte (goodLevels 0#8)) (inFrame 156#8 b)
    ((a.slot 0).phase, (b.slot 0).phase, (c.slot 0).phase, a.chamber.seqGaps, b.chamber.seqGaps)) =
      (.hold .burn false true, .hold .burn false true, .burn, 0, 1) := by decide +kernel
/-- R112, R116: H1 raised from 156 to 160 does not yet stop a second at 158 from being an excursion; the next completed frame does. -/
theorem test_h1_in_effect : (let a := after (.profileSet [0x0B#8, 0#8, 160#8, 0#8, 0#8, 0#8]) lab
    let b := after (.chamberByte (goodLevels 0#8)) (inFrame 158#8 a)
    (a.profile.h1, ((after .soakTick a).slot 0).soak.excursionSeconds, ((after .soakTick b).slot 0).soak.excursionSeconds,
      ((after .soakTick b).slot 0).soak.maxH)) = (160, 1, 0, 158) := by decide +kernel
theorem test_chamber_error : (let t := after .chamberCharacterError (inFrame 150#8 lab)
    (t.chamber.frame, t.chamber.lineErrors, t.alertSet .chamberLine)) = (none, 1, true) := by decide +kernel
/-- R104, R105: a character of spaces alone is held back; it is an error at the return to mark, or vanishes in a break. -/
theorem test_held_back : (let t := after (.chamberByte (characterLevels 0#8 false false)) (inFrame 150#8 lab)
    let error := after .chamberCharacterError t
    let broken := after .chamberBreak t
    (t.chamber.lineErrors, error.chamber.lineErrors, error.chamber.receiver, broken.chamber.lineErrors, broken.chamber.breaks)) =
      (0, 1, .waiting true, 0, 1) := by decide +kernel
theorem test_chamber_break : (let t := after .chamberBreak (inFrame 150#8 lab)
    (t.chamber.frame, t.chamber.lineErrors, t.chamber.breaks, t.chamber.lineBreak)) = (none, 0, 1, true) := by decide +kernel
theorem test_line_break_clear : (after .lineBreakClear (after .chamberBreak lab)).chamber.lineBreak = false := by decide +kernel
theorem test_stale_timer_expiry : (after .staleTimerExpiry lab).chamber.fresh = false := by decide
theorem test_grade_take : (let t := after .gradeTake (after .gradeCompletion { lab with gradeQueue := [1, 6] })
    (t.engine.map (·.slot), t.gradeQueue)) = (some 1, [6]) := by decide
theorem test_grade_completion : (let t := after .gradeCompletion lab
    ((t.slot 7).grade, (t.slot 7).phase, t.alertSet .gradeDone)) = (some ⟨3750, .b, .score⟩, .graded, true) := by decide +kernel
/-- 9.6 P3 and P5. -/
theorem test_take_asserted : (let t := after .takeAsserted lab
    ((t.slot 4).sorted, t.sort.strobe, t.sort.slotOut, t.sort.binOut)) = (true, false, 4#3, 1#3) := by decide
theorem test_take_deasserted : (let t := after .takeDeasserted (after .takeAsserted { lab with
    sort := { lab.sort with queue := lab.sort.queue ++ [⟨6, some .reject⟩] } })
    (t.sort.queue, t.sort.strobe, t.sort.slotOut, t.sort.binOut)) = ([⟨6, some .reject⟩], true, 6#3, 4#3) := by decide
/-- 9.6 P7, P9. -/
theorem test_fault : (after .faultAsserted lab).sort.handshake = .stalled ∧ (after .faultAsserted lab).alertSet .sortStalled = true ∧
    (after .faultDeasserted (after .faultAsserted lab)).sort.handshake = .stalled := by decide
theorem test_busy : (after .busyAsserted lab).sort.strobe = true ∧
    (after .busyDeasserted { lab with sort := { lab.sort with handshake := .idle, busy := true } }).sort.strobe = true := by decide
theorem test_offer_timer_expiry : (after .offerTimerExpiry lab).sort.handshake = .stalled := by decide
/-- The timebase on an empty queue of reset, and an own event (log entry 2). -/
theorem test_step_idle : (match step State.reset with
    | .next t => t.timebase
    | .fault _ => 0#32
    | .refused _ => 0#32) = 1#32 := by decide +kernel

/-! ## States that meet the hypotheses of the statements

Each theorem names its statement; its conjuncts are the hypotheses of the statement, clause by clause, at a state. -/

/-- The part READY after a reset with nothing inserted. -/
def bare : State := { State.reset with loader := .ready }
theorem bare_ready : bare.ready := ⟨rfl, rfl⟩

theorem witness_EmptyQueueTakesDueEventOrTicks : State.reset.pending = [] ∧ State.reset.dueEvents = [] ∧
    lab.pending = [] ∧ lab.dueEvents ≠ [] := by decide +kernel

theorem witness_ChipResetSetsEveryBlock : State.reset.pending = [] ∧ State.reset.tieCount = 0 ∧
    (∀ i, (State.reset.presenceOf i).raw = false) ∧ (∀ i, (State.reset.lane i).upstream = []) ∧
    State.reset.sort.take = false ∧ State.reset.sort.busy = false ∧ State.reset.sort.fault = false := by decide

theorem witness_SoftResetAndProfileReload : bare.ready ∧ (∀ i, (bare.slot i).phase = .empty ∨ (bare.slot i).phase = .idle) ∧
    lab.ready ∧ ∃ i, (lab.slot i).phase ≠ .empty ∧ (lab.slot i).phase ≠ .idle :=
  ⟨bare_ready, by decide, lab_ready, 0, by decide⟩

/-- An EEPROM whose image of one stray byte has a good CRC. -/
def strayImage : List Byte := let b := [0x5A#8, 0x57#8, 0x50#8, 0x31#8, 9#8, 0#8, 7#8]; b ++ le 2 (crc16 b).toNat
theorem strayImage_has_no_items (items : List ProfileItem) : encodeItems items ≠ (strayImage.take 7).drop 6 := by
  intro h
  have hl := congrArg List.length h
  cases items with
  | nil => revert hl; decide
  | cons x xs =>
    have hs : ((strayImage.take 7).drop 6).length = 1 := by decide
    rw [hs] at hl
    simp [encodeItems, encodeItem, le] at hl
theorem witness_ProfileReadyStoresProfile : State.reset.inReset = false ∧
    State.reset.loader = .loading .afterReset 0#32 ∧ State.reset.straps.noload = false ∧
    (after (.profileReload []) bare).loader = .loading .reload 0#32 ∧ (after (.profileReload []) bare).inReset = false ∧
    noImage true none .noload ∧ noImage false none .absent ∧ noImage false (some (List.replicate 6 0xFF#8)) .badSignature ∧
    noImage false (some [0x5A#8, 0x57#8, 0x50#8, 0x31#8, 7#8, 0#8]) .badLength ∧
    noImage false (some [0x5A#8, 0x57#8, 0x50#8, 0x31#8, 1#8, 0x20#8]) .badLength ∧
    noImage false (some [0x5A#8, 0x57#8, 0x50#8, 0x31#8, 8#8, 0#8, 0#8, 0#8]) .badCrc ∧
    noImage false (some strayImage) .badFormat ∧ State.reset.largestCount ≤ 64 ∧ (0x0005, 1, 15) ∈ rangeItems ∧
    itemSize 0x0005 = some 1 ∧ 255 < 256 ^ 1 :=
  ⟨rfl, rfl, rfl, by decide, by decide, .inl ⟨rfl, rfl⟩, .inr (.inl ⟨rfl, rfl, rfl⟩),
    .inr (.inr ⟨_, rfl, rfl, .inl (by decide)⟩), .inr (.inr ⟨_, rfl, rfl, .inr (.inl (by decide))⟩),
    .inr (.inr ⟨_, rfl, rfl, .inr (.inl (by decide))⟩),
    .inr (.inr ⟨_, rfl, rfl, .inr (.inr (.inl (by decide +kernel)))⟩),
    .inr (.inr ⟨strayImage, rfl, rfl, .inr (.inr (.inr ⟨by decide +kernel, by decide +kernel, rfl,
      fun items _ => strayImage_has_no_items items⟩))⟩), by decide, by decide, by decide, by decide⟩

theorem witness_ProfileImageItemsStored : State.reset.inReset = false ∧ State.reset.loader = .loading .afterReset 0#32 ∧
    State.reset.straps.noload = false ∧ (after (.profileReload []) bare).loader = .loading .reload 0#32 ∧
    (65535 < 65536 ∧ 281474976710655 < 2 ^ 48 ∧ 16777215 < 16777216 ∧ 4294967295 < 2 ^ 32) ∧
    (1 ≤ (List.replicate 63 1#32).length ∧ (List.replicate 63 1#32).length ≤ 63 ∧ 961 + (List.replicate 63 1#32).length = 1024) ∧
    (∀ i : Fin 9, (Vector.replicate 9 65535)[i] < 65536) ∧
    (∀ x ∈ [(⟨0x0001, le 2 512⟩ : ProfileItem), ⟨0x0001, le 2 4096⟩, ⟨0x000B, [7#8]⟩, ⟨0x0300, le 2 5 ++ le 4 9⟩,
      ⟨0x0300, le 2 5 ++ le 4 8⟩], x.taken = true) := by decide +kernel

/-- Items that fill an image of exactly 8192 bytes. -/
def fullItems : List ProfileItem := List.replicate 31 ⟨0x0777, List.replicate 255 1#8⟩ ++ [⟨0x0778, List.replicate 183 2#8⟩]
theorem witness_ProfileImageRoundTrip : (∀ x ∈ fullItems, x.code < 65536 ∧ x.data.length < 256) ∧
    8 + (encodeItems fullItems).length = 8192 ∧ (∀ x ∈ items118, x.code < 65536 ∧ x.data.length < 256) ∧
    8 + (encodeItems items118).length ≤ 8192 := by decide +kernel

theorem witness_ProfileSetClampsToRange : lab.ready ∧ (0x0003, 1, 60000) ∈ rangeItems ∧ (0x001B, 1, 65535) ∈ rangeItems ∧
    0 < 4294967296 ∧ 4294967295 < 4294967296 ∧ 0x001B ∉ [0x0003, 0x0009, 0x000A, 0x000D] :=
  ⟨lab_ready, by decide, by decide, by decide, by decide, by decide⟩

theorem witness_ProfileSetKeepsOrder : lab.ready ∧ 4294967295 < 4294967296 := ⟨lab_ready, by decide⟩

theorem witness_ProfileSetActsAtOnce : lab.ready ∧ max 1 (min 29999 60000) < lab.profile.commandTimeout ∧
    lab.profile.commandTimeout ≤ max 1 (min 30000 60000) ∧
    (lab.chamber.staleTimer = some 35000000#32 ∧ max 1 (min 5 60) * 1000000 = lab.elapsed 35000000#32 ∧
      lab.elapsed 35000000#32 < max 1 (min 6 60) * 1000000) ∧
    lab.sort.handshake = .offer 10000000#32 ∧ max 1 (min 30 255) * 1000000 = lab.elapsed 10000000#32 ∧
    lab.elapsed 10000000#32 < max 1 (min 31 255) * 1000000 := ⟨lab_ready, by decide⟩

theorem witness_ProfileSetOtherCodes : lab.ready ∧ (∀ code ∈ [0, 0x000E, 0x001D, 0x002A, 0x0030, 0x003A, 0x0110, 0x0210, 0xFFFF],
    code < 65536 ∧ code ∉ knownCodes) := ⟨lab_ready, by decide +kernel⟩

theorem witness_ManagementChecksInOrder :
    (State.reset.inReset = false ∧ (Instr.start []).wf = true ∧ encodeTransaction (.start []) = some [0x10#8] ∧
      State.reset.loader ≠ .ready ∧ Instr.start [] ≠ .status []) ∧
    (lab.inReset = false ∧ (Instr.unknownCommand 0x99#8 []).wf = true ∧ lab.loader = .ready ∧
      encodeTransaction (.unknownCommand 0x99#8 []) = some [0x99#8]) ∧
    (commandArity 0x10 = some 7 ∧ ([] : List Byte).length ≠ 7) ∧
    (∀ args ∈ [[], [0#8, 0#8], [0#8, 0#8, 0#8], [0#8, 0#8, 16#8], [0#8, 0#8, 1#8, 0#8]],
      encodeTransaction (.tableWrite args) = some (0x22#8 :: args) ∧ (args.length < 3 ∨ (args.getD 2 0#8).toNat < 1 ∨
        15 < (args.getD 2 0#8).toNat ∨ args.length ≠ 3 + 4 * (args.getD 2 0#8).toNat)) := by decide +kernel

theorem witness_ManagementChecksInOrder_not_ok : lab.inReset = false ∧ encodeTransaction (.start []) = some [0x10#8] ∧
    exec (.start []) lab = .next (after (.start []) lab) ∧ (after (.start []) lab).reply.status ≠ .ok :=
  ⟨rfl, rfl, rfl, by decide⟩

theorem witness_TransactionsAndReplies : lab.inReset = false ∧ (Instr.pause [0#8]).wf = true ∧
    encodeTransaction (.pause [0#8]) = some [0x13#8, 0#8] ∧ exec (.pause [0#8]) lab = .next (after (.pause [0#8]) lab) ∧
    (after (.pause [0#8]) lab).reply.status = .ok ∧ okLength 0x13 = some 0 ∧
    (after (.defectRead [0#8, 0#8, 0#8]) lab).reply.status = .ok :=
  ⟨rfl, rfl, rfl, rfl, by decide, by decide, by decide⟩

theorem witness_StatusReply : State.reset.inReset = false := rfl

theorem witness_SlotStatusReply : lab.ready ∧ 8 ≤ (8#8 : Byte).toNat ∧ (lab.slot 5).phase = .hold .burn true false ∧ (lab.slot 0).phase.name ≠ .hold ∧
    lab.chamber.fresh = true ∧ lab.chamber.readings[0] = .valid 158 ∧ bare.chamber.fresh = false ∧ (lab.slot 0).grade = none ∧
    (lab.slot 4).grade = some { score := 40, bin := .a, reason := .score } :=
  ⟨lab_ready, by decide⟩

theorem witness_CountersHistogramDefectReplies : lab.ready ∧ 511 ≤ 511 ∧ 8 ≤ (8#8 : Byte).toNat ∧ 511 < 512 ∧
    512 < 65536 := ⟨lab_ready, by decide⟩
theorem witness_AlertCommandsAndOutput : lab.ready ∧ 16777215 < 16777216 := ⟨lab_ready, by decide⟩

theorem witness_StartAndClearSlot : lab.ready ∧ 65535 < 65536 ∧ (lab.slot 6).phase = .idle ∧ (lab.slot 6).orphaned = false ∧
    (lab.slot 6).identity.valid = true := ⟨lab_ready, by decide⟩

theorem witness_PassAndHoldCommands : lab.ready ∧ (lab.slot 0).phase = ActivePhase.phase .burn ∧ (lab.slot 1).phase.name = .scan ∧
    (lab.slot 5).phase = .hold .burn true false ∧ (lab.slot 0).pass ≠ 65535 ∧
    ((lab.modSlot 0 (fun r => { r with pass := 65535 })).slot 0).pass = 65535 := ⟨lab_ready, by decide⟩

/-- lab with 28 extents in slot 2's list, and a RECORD window of one sector. -/
def labShort : State := { (lab.modSlot 2 (fun r => { r with
    defects := { r.defects with extents := List.replicate 28 (Extent.created 0 .media 1) } })) with
  windows := lab.windows.set 0 { lab.windows[0] with length := 1 } }
/-- lab with an open command on every lane, and no window enabled. -/
def labOpen : State := { lab with lanes := Vector.replicate 8 (lab.lane 0), windows := bare.windows }
theorem region_of_window0 (s : State) (i : SlotId) (first last : Nat) (h : s.windows[(0 : Fin 16)].enabled = true ∧
    s.windows[(0 : Fin 16)].mask.getLsbD i.val = true ∧ s.windows[(0 : Fin 16)].action = .record ∧
    s.windows[(0 : Fin 16)].resolve (s.slot i).identity = some (first, last)) :
    ∃ k : Fin 16, (s.windows[k].enabled = true ∧ s.windows[k].mask.getLsbD i.val = true ∧ s.windows[k].action = .record ∧
      s.windows[k].resolve (s.slot i).identity = some (first, last)) ∧
      ∀ j, j < k → ∀ x y, ¬(s.windows[j].enabled = true ∧ s.windows[j].mask.getLsbD i.val = true ∧
        s.windows[j].action = .record ∧ s.windows[j].resolve (s.slot i).identity = some (x, y)) :=
  ⟨0, h, fun j hj => absurd hj (Nat.not_lt_zero j.val)⟩
theorem witness_GradeShipSeal : lab.ready ∧
    ((lab.slot 1).phase = .scan ∧ (¬∃ e, (lab.lane 1).entry e ≠ none) ∧ ∃ e, (labOpen.lane 1).entry e ≠ none) ∧
    ((lab.slot 2).phase = .graded ∧ (lab.slot 2).grade = some { score := 3750, bin := .b, reason := .score } ∧
      (¬∃ e, (lab.lane 2).entry e ≠ none) ∧
      lab.windows[(0 : Fin 16)].resolve (lab.slot 2).identity = some (999936, 999999) ∧ 1 ≤ 999999 - 999936 + 1 ∧
      labShort.windows[(0 : Fin 16)].resolve (labShort.slot 2).identity = some (999936, 999936) ∧
      (64 + 16 * (labShort.slot 2).defects.extents.length + 4 + 511) / 512 = 2 ∧
      ∀ k : Fin 16, labOpen.windows[k].enabled = false) ∧
    ((lab.slot 3).phase = .ship ∧ (¬∃ e, (lab.lane 3).entry e ≠ none) ∧ (∃ e, (labOpen.lane 3).entry e ≠ none) ∧
      (∀ k < 1, (lab.slot 3).ship.written.getLsbD k = true ∧ (lab.slot 3).ship.verified.getLsbD k = true) ∧
      (lab.slot 3).ship.bad = 0 ∧ ((lab.modSlot 3 SlotRecord.shipBad).slot 3).ship.bad ≠ 0) :=
  ⟨lab_ready, by decide +kernel, by decide +kernel, by decide +kernel⟩

/-- Slot 2 of lab graded REJECT, slot 3 held in shipping. -/
def labReject : State := (lab.modSlot 2 (fun r => { r with grade := some { score := 1, bin := .reject, reason := .truncated } })).setPhase 3
  (.hold .ship true false)
theorem witness_ReleaseSealsAsReject : labReject.ready ∧
    ((labReject.slot 2).grade = some { score := 1, bin := .reject, reason := .truncated } ∧ (labReject.slot 2).phase = .graded) ∧
    ((lab.slot 3).grade = some { score := 40, bin := .a, reason := .score } ∧ (lab.slot 3).phase = .ship) ∧
    (labReject.slot 3).phase = .hold .ship true false := ⟨⟨rfl, rfl⟩, by decide, by decide, by decide⟩

theorem witness_PhaseCommandsTurnedAway : lab.ready ∧ 8 ≤ (8#8 : Byte).toNat ∧ (lab.slot 0).phase ≠ .idle ∧
    ((lab.modSlot 6 (fun r => { r with orphaned := true })).slot 6).orphaned = true ∧
    ((lab.slot 3).phase ≠ .burn ∧ (lab.slot 3).phase ≠ .scan ∧ (∀ m th, (lab.slot 3).phase ≠ .hold .burn m th) ∧
      ∀ m th, (lab.slot 3).phase ≠ .hold .scan m th) ∧ (lab.slot 2).phase = .graded ∧ (lab.slot 2).phase.name ≠ .hold ∧
    (lab.slot 0).phase ≠ .ship ∧ (∀ m th, (lab.slot 0).phase ≠ .hold .ship m th) ∧ (lab.slot 0).phase ≠ .graded ∧
    (labReject.slot 2).phase = .graded ∧ (labReject.slot 2).grade.map (·.bin) = some .reject := ⟨lab_ready, by decide⟩

/-- A carrier inserted in slot 6 of bare, 100 ms ago. -/
def inserted6 : State :=
  { bare with timebase := 100000#32, presence := bare.presence.set 6 { raw := true, debounced := false, interval := some 0#32 } }
theorem witness_PresenceEvents : (lab.inReset = false ∧ lab.straps.slots4 = false ∧ (lab.presenceOf 6).raw ≠ false) ∧
    ((inserted6.presenceOf 6).interval = some 0#32 ∧ 100000 = inserted6.elapsed 0#32 ∧
      (inserted6.presenceOf 6).raw ≠ (inserted6.presenceOf 6).debounced ∧ (inserted6.presenceOf 6).raw = true ∧
      (inserted6.slot 6).phase = .empty) ∧
    (∀ i ∈ [(6 : SlotId), 4, 0], ((pulled lab i).presenceOf i).interval = some 39900000#32 ∧
      100000 ≤ (pulled lab i).elapsed 39900000#32 ∧
      ((pulled lab i).presenceOf i).raw ≠ ((pulled lab i).presenceOf i).debounced) ∧
    (lab.slot 6).phase = .idle ∧ (lab.slot 4).phase = .sealed ∧ ((after .takeAsserted lab).slot 4).sorted = true ∧
    (lab.slot 4).sorted = false := by decide +kernel

/-- lab with the first sector of tag 0 three bytes on, brought by a frame of correct check or not. -/
def labBegun (good : Bool) : State := after (.dataFrame 0 ⟨.toDrive, [1#8, 2#8, 3#8], good⟩) lab
theorem witness_CommandFrameOpensEntry : (State.reset.bypassed 0 = true ∧ (bare.slot 0).phase = .empty) ∧
    (lab.bypassed 5 = false ∧ (lab.slot 5).phase ≠ .empty ∧
      ¬((lab.slot 5).phase.name = .hold ∧ (CommandClass.qread = .qwrite ∨ CommandClass.qread = .write)) ∧
      ¬(lab.slot 5).phase = .sealed) ∧ (lab.lane 0).entry (commandEntry (.qwrite 0)) ≠ none ∧
    (lab.lane 1).entry (commandEntry .read) = none ∧
    ((labBegun true).lane 0).sector.map (·.entry) = some (commandEntry (.qwrite 0)) := by decide +kernel

theorem witness_WithheldCommandAndItsStatus : (lab.bypassed 5 = false ∧ (lab.slot 5).phase.name = .hold) ∧
    (lab.bypassed 4 = false ∧ (lab.slot 4).phase = .sealed) ∧ (lab.lane 0).upstream = [] ∧
    (lab.lane 5).upstream = .synthesized 3 :: [.fromDrive (.success .nonQueued)] := by decide

theorem witness_DataSetupSetsPosition : State.reset.bypassed 0 = true ∧ lab.bypassed 0 = false ∧ (lab.lane 0).entry 2 = none ∧
    (lab.lane 0).entry 1 = some (entryOf1s .qread 9000 1 .burn) := by decide

/-- lab with the first sector of tag 0 three bytes on and its entry then UNTRACKED by data in the wrong direction. -/
def labPartial : State := after (.dataFrame 0 ⟨.toServer, [9#8], true⟩) (labBegun true)
/-- lab with a setup notice for the last byte of tag 0, which makes it UNTRACKED, and for the first one past it. -/
def labLast (n : Nat) : State := after (.dataSetupNotice 0 ⟨some 0, n, .toDrive⟩) lab
/-- lab with a non-queued command begun in a slot. -/
def labCommand (i : SlotId) (k : CommandKind) (lba : BitVec 48) : State := after (.commandFrame i ⟨k, lba, 1#16⟩) lab
/-- lab with the position on the read of tag 1. -/
def labRead : State := after (.dataSetupNotice 0 ⟨some 1, 0, .toServer⟩) lab
theorem witness_DataFramePassesUnaltered : ((DataFrame.mk .toDrive [1#8] true).wf = true ∧ State.reset.bypassed 0 = true ∧
      (DataFrame.mk .toDrive [] true).wf = false ∧ (lab.bypassed 1 = false ∧ (lab.lane 1).position = none) ∧
      ((lab.modLane 1 (fun l => { l with position := some { entry := 5, offset := 0 } })).lane 1).entry 5 = none) ∧
    (lab.bypassed 0 = false ∧ (lab.lane 0).position = some { entry := 0, offset := 0 } ∧
      (lab.lane 0).entry 0 = some (entryOf1s .qwrite 3000 2 .burn)) ∧
    (∀ k ∈ [CommandKind.other, .flush, .ident], ((labCommand 1 k 0#48).lane 1).position = some { entry := 32, offset := 0 } ∧
      (((labCommand 1 k 0#48).lane 1).entry 32).map (fun x => (x.cls, x.untracked)) = some (commandClass k, false)) ∧
    ((labPartial.lane 0).position = some { entry := 0, offset := 3 } ∧
      ((labPartial.lane 0).entry 0).map (·.untracked) = some true ∧
      (labPartial.lane 0).sector.map (fun z => (z.substitutes, z.received.length)) = some (true, 3)) ∧
    (((labLast 1023).lane 0).position = some { entry := 0, offset := 1023 } ∧
      (((labLast 1023).lane 0).entry 0).map (fun x => (x.untracked, x.count * lab.sectorSize.bytes)) = some (true, 1023 + 1) ∧
      ((labLast 1023).lane 0).sector = none ∧ ((labLast 1024).lane 0).position = some { entry := 0, offset := 1024 }) ∧
    (((labCommand 0 .write 100#48).lane 0).position = some { entry := 32, offset := 0 * 512 } ∧
      matchingWindow lab.windows 0 (lab.slot 0).identity 100 = some 1 ∧
      lab.windows[(1 : Fin 16)].action = .exclude) ∧
    (labRead.lane 0).position = some { entry := 1, offset := 0 * 512 } := by decide +kernel

theorem witness_TestSectorIsSubstituted : lab.bypassed 0 = false ∧ (List.replicate 512 0#8 : List Byte).length = lab.sectorSize.bytes ∧
    (lab.lane 0).position = some { entry := 0, offset := (entryOf1s .qwrite 3000 2 .burn).done * lab.sectorSize.bytes } ∧
    (lab.lane 0).entry 0 = some (entryOf1s .qwrite 3000 2 .burn) ∧ (entryOf1s .qwrite 3000 2 .burn).cls = .qwrite ∧
    (entryOf1s .qwrite 3000 2 .burn).untracked = false ∧ 0 < (entryOf1s .qwrite 3000 2 .burn).count ∧ 3000 + 0 < 2 ^ 48 ∧
    matchingWindow lab.windows 0 (lab.slot 0).identity (3000 + 0) = some 2 ∧ lab.windows[(2 : Fin 16)].action = .test := by
  decide +kernel

theorem witness_TestSectorIsChecked : labRead.bypassed 0 = false ∧ (labRead.slot 0).phase = .burn ∧
    (List.replicate 512 0xA5#8 : List Byte).length = labRead.sectorSize.bytes ∧
    (labRead.lane 0).position = some { entry := 1, offset := (entryOf1s .qread 9000 1 .burn).done * labRead.sectorSize.bytes } ∧
    (labRead.lane 0).entry 1 = some (entryOf1s .qread 9000 1 .burn) ∧
    matchingWindow labRead.windows 0 (labRead.slot 0).identity (9000 + 0) = some 2 ∧
    labRead.windows[(2 : Fin 16)].action = .test ∧
    wordsOf (List.replicate 512 0xA5#8) = (labRead.windows[(2 : Fin 16)].image 9000 2 0#32).words labRead.patternTable
      labRead.sectorSize.words ∧
    wordsOf (List.replicate 512 0#8) ≠ (labRead.windows[(2 : Fin 16)].image 9000 2 0#32).words labRead.patternTable
      labRead.sectorSize.words := by decide +kernel

/-- The state, position and entry of a command of slot 3, shipping, at an LBA. -/
def shippingAt (k : CommandKind) (lba : BitVec 48) : Prop :=
  (labCommand 3 k lba).bypassed 3 = false ∧ ((labCommand 3 k lba).lane 3).position = some { entry := 32, offset := 0 } ∧
    ((labCommand 3 k lba).lane 3).entry 32 = some
      { entryOf1s (commandClass k) lba.toNat 1 .ship with issueTime := lab.timebase }
theorem witness_ShipSectorsAndRecord_commands : shippingAt .write 5000#48 ∧ shippingAt .read 5000#48 ∧
    shippingAt .write 999936#48 ∧ shippingAt .read 999936#48 ∧ shippingAt .write 999937#48 ∧ shippingAt .read 999937#48 := by
  unfold shippingAt; decide +kernel
theorem witness_ShipSectorsAndRecord : (List.replicate 512 7#8 : List Byte).length = lab.sectorSize.bytes ∧
    recordWindow lab.windows 3 (lab.slot 3).identity = some 0 ∧
    lab.windows[(0 : Fin 16)].resolve (lab.slot 3).identity = some (999936, 999999) ∧
    (64 + 16 * (lab.slot 3).defects.extents.length + 4 + 511) / 512 = 1 ∧
    (matchingWindow lab.windows 3 (lab.slot 3).identity 5000 = some 2 ∧ lab.windows[(2 : Fin 16)].action ≠ .exclude) ∧
    matchingWindow lab.windows 3 (lab.slot 3).identity 999936 = some 0 ∧
    matchingWindow lab.windows 3 (lab.slot 3).identity 999937 = some 0 ∧
    matchingWindow labOpen.windows 3 (labOpen.slot 3).identity 5000 = none := by decide +kernel

theorem witness_DataFramesCompose : ([1#8] : List Byte) ≠ [] ∧
    (List.replicate 8191 0#8 : List Byte).length + ([1#8] : List Byte).length = 8192 := by decide +kernel

/-- labRead with the sector three bytes on. -/
def readBegun (good : Bool) : State := after (.dataFrame 0 ⟨.toServer, [0xA5#8, 0xA5#8, 0xA5#8], good⟩) labRead
/-- The position and the sector in progress of a followed command, an entry not UNTRACKED. -/
def progress (s : State) (i : SlotId) : Option (EntryId × Nat × Bool) × Option (Nat × Bool × Bool) :=
  ((s.lane i).position.bind (fun p => ((s.lane i).entry p.entry).map (fun x => (p.entry, p.offset, x.untracked))),
    (s.lane i).sector.map (fun z => (z.received.length, z.substitutes, z.checksGood)))
theorem witness_SectorInProgressFollowed : (lab.bypassed 0 = false ∧ lab.sectorSize.bytes = 512 ∧
      0 / 512 < (entryOf1s .qwrite 3000 2 .burn).count ∧ 3 % 512 + 509 = 512 ∧ 3 % 512 + 508 < 512 ∧
      (DataFrame.mk .toDrive (List.replicate 509 9#8) true).wf = true) ∧
    [(lab, (0 : SlotId)), (labBegun true, 0), (labBegun false, 0), (readBegun true, 0), (readBegun false, 0),
      (after (.dataFrame 3 ⟨.toServer, [0#8], true⟩) (labCommand 3 .read 5000#48), 3),
      (after (.dataFrame 3 ⟨.toDrive, [0#8], true⟩) (labCommand 3 .write 999936#48), 3),
      (after (.dataFrame 0 ⟨.toDrive, [0#8], true⟩) (labCommand 0 .write 100#48), 0)].map (fun q => progress q.1 q.2) =
    [(some (0, 0, false), none), (some (0, 3, false), some (3, true, true)), (some (0, 3, false), some (3, true, false)),
      (some (1, 3, false), some (3, false, true)), (some (1, 3, false), some (3, false, false)),
      (some (32, 1, false), some (1, false, true)), (some (32, 1, false), some (1, true, true)),
      (some (32, 1, false), none)] := ⟨by decide +kernel, by decide +kernel⟩

theorem witness_SuccessClosesEntries : lab.bypassed 0 = false ∧ (lab.slot 0).phase = .burn ∧ 1 ≤ lab.profile.latencyBase ∧
    lab.profile.slowBucket ≤ 15 ∧ (lab.lane 0).entry (tagEntry 1) = some (entryOf1s .qread 9000 1 .burn) ∧
    (lab.lane 0).upstream = [] ∧
    ((labCommand 1 .read 7#48).lane 1).entry 32 = some { entryOf1s .read 7 1 .scan with issueTime := lab.timebase } ∧
    ((labCommand 3 .read 7#48).lane 3).entry 32 = some { entryOf1s .read 7 1 .ship with issueTime := lab.timebase } ∧
    (((labCommand 6 .read 7#48).lane 6).entry 32).map (·.cls) = some .read ∧ (lab.slot 6).phase = .idle := by decide +kernel

/-- lab with an IDENT begun on slot 1, the bytes of its block so far brought by a frame of wrong check. -/
def identAfter (bytes : List Byte) : State := after (.dataFrame 1 ⟨.toServer, bytes, false⟩) (labCommand 1 .ident 0#48)
theorem witness_IdentSetsOrComparesIdentity : lab.bypassed 0 = false ∧
    (lab.lane 0).entry 32 = some { entryOf1s .ident 0 0 .burn with done := 1, snoop := { Snoop.empty with intact := true } } ∧
    (labOpen.bypassed 6 = false ∧ ((labOpen.lane 6).entry 32).isSome = true ∧ (labOpen.slot 6).phase = .idle ∧
      (labOpen.slot 6).orphaned = false) ∧ (lab.slot 0).phase ≠ .idle ∧
    (∀ bytes ∈ [[1#8], []], ((identAfter bytes).bypassed 1 = false ∧ (((identAfter bytes).lane 1).entry 32).map (fun x =>
      (x.cls, x.done, x.snoop.intact, x.untracked)) = some (.ident, 0, bytes.isEmpty, false))) ∧
    (((after (.dataSetupNotice 0 ⟨none, 1, .toServer⟩) lab).lane 0).entry 32).map (fun x => (x.done, x.untracked)) =
      some (1, true) ∧
    decide (Snoop.empty.serial ≠ (lab.slot 0).identity.serial) = true := by decide +kernel

theorem witness_ErrorStatusClosesAndAborts : lab.bypassed 0 = false ∧ (lab.lane 0).entry 1 = some (entryOf1s .qread 9000 1 .burn) ∧
    (lab.slot 0).phase ≠ .empty ∧ (lab.slot 0).phase ≠ .idle ∧ (labOpen.slot 6).phase = .idle ∧
    ((labCommand 3 .read 7#48).lane 3).entry 32 = some { entryOf1s .read 7 1 .ship with issueTime := lab.timebase } ∧
    ((labCommand 2 .read 7#48).lane 2).entry 32 = some { entryOf1s .read 7 1 .graded with issueTime := lab.timebase } ∧
    (lab.slot 2).phase = .graded := by decide +kernel

theorem witness_TimeoutAndLinkReset : lab.bypassed 0 = false ∧ (lab.lane 0).entry 1 = some (entryOf1s .qread 9000 1 .burn) ∧
    lab.profile.commandTimeout * 1000 ≤ lab.elapsed (entryOf1s .qread 9000 1 .burn).issueTime ∧
    ({ lab with timebase := 31000000#32 } : State).elapsed (entryOf1s .qread 9000 1 .burn).issueTime = 30000000 := by decide

theorem witness_WindowWriteAndRead : bare.ready ∧ 281474976710655 < 2 ^ 48 ∧ 65535 < 65536 ∧
    ((1#8 : Byte).toNat ≤ 1 ∧ (3#8 : Byte).toNat ≤ 3 ∧ (2#8 : Byte).toNat ≤ 2) ∧ ¬(4#8 : Byte).toNat ≤ 3 ∧
    (∀ i, (bare.slot i).phase ≠ .burn ∧ (bare.slot i).phase ≠ .scan ∧ (bare.slot i).phase ≠ .ship ∧
      ∀ e, (bare.lane i).entry e = none) ∧
    ((lab.windows[(0 : Fin 16)]).mask.getLsbD 0 = true ∧ (lab.slot 0).phase = .burn) ∧ 16 ≤ (16#8 : Byte).toNat ∧
    8 ≤ (8#8 : Byte).toNat ∧ ((lab.windows[(0 : Fin 16)]).anchor = .fromEnd ∧ (lab.windows[(1 : Fin 16)]).anchor = .fromStart) :=
  ⟨bare_ready, by decide +kernel⟩

theorem witness_TableWriteStoresWords : bare.ready ∧ 1009 < 65536 ∧ (List.replicate 15 1#32).length ≤ 15 ∧
    1009 + (List.replicate 15 1#32).length = 1024 ∧ 1024 < 1010 + (List.replicate 15 1#32).length ∧
    (∀ i, (bare.slot i).phase ≠ .burn ∧ (bare.slot i).phase ≠ .scan ∧ (bare.slot i).phase ≠ .ship ∧
      ∀ e, (bare.lane i).entry e = none) ∧ Memory.wf bare.patternTable = true ∧ (lab.slot 0).phase = .burn :=
  ⟨bare_ready, by decide +kernel⟩

theorem witness_MatchingWindowIsLowest : (lab.windows[(2 : Fin 16)]).anchor = .fromStart ∧ (lab.windows[(2 : Fin 16)]).base < 2 ^ 48 ∧
    1 ≤ (lab.windows[(2 : Fin 16)]).length ∧ matchingWindow lab.windows 0 (lab.slot 0).identity 2047 = some 1 ∧
    matchingWindow lab.windows 0 (lab.slot 0).identity 2048 = some 2 ∧
    matchingWindow lab.windows 7 (lab.slot 7).identity 2048 = none := by decide +kernel

theorem witness_StampImageAndClassification : 2 ≤ 128 ∧ 281474976710655 < 2 ^ 48 ∧ 65535 < 65536 ∧ 1 ≤ 65534 ∧ 65534 < 65535 ∧
    (17 : Nat) ≠ 1 ∧ (((17 : Nat) : Int) - (1 : Nat)).natAbs ≤ 16 := by decide

/-- Single failing sectors at 999, 1001 and 50000. -/
def three : Defects := (inserted [(.corrupt, 999, 2), (.corrupt, 1001, 2), (.media, 50000, 3)]).1
theorem witness_InsertionKeepsTheList : 281474976710655 < 2 ^ 48 ∧ extentsOk three.extents = true ∧ three.extents.length = 3 ∧
    three.sectors = sectorSum three.extents ∧
    three.extents.map (fun e => (e.start, e.length)) = [(999, 1), (1001, 1), (50000, 1)] ∧
    (∀ l ∈ [1000, 50001, 998, 5], ∀ e ∈ three.extents, ¬(e.start ≤ l ∧ l < e.start + e.length)) ∧
    (∀ l ∈ [998, 5], ∀ e ∈ three.extents, ¬(e.start + e.length = l ∧ e.length < 65535)) ∧
    (∀ e ∈ three.extents, ¬(e.start = 5 + 1 ∧ e.length < 65535)) ∧ 999 + 1 + 1 = 1001 ∧ (1 + 1) + 1 ≤ 65535 := by decide

theorem witness_CaptureDelivery : (lab.capture.records[(0 : Fin 16)].accepts (event67 2 (.stale 1 2)) = true ∧
      lab.capture.records[(0 : Fin 16)].state = .empty) ∧
    (unit67.records[(1 : Fin 16)].state.isUnread = true ∧ unit67.locked ≠ some 1) ∧
    (unit67.records[(0 : Fin 16)].accepts (event67 2 (.stale 1 2)) = true ∧ unit67.locked = some 0 ∧ unit67.staging ≠ none) ∧
    (∀ m : Fin 16, unit67.records[m].accepts (event67 2 (.anomaly true true 0)) = false) ∧
    (lab.slot (event67 2 (.stale 1 2)).slot).phase = .graded := by decide +kernel

theorem witness_CaptureCommands : lab67.ready ∧ 16 ≤ (16#8 : Byte).toNat ∧ 64 ≤ (64#8 : Byte).toNat ∧ (63#8 : Byte).toNat < 64 ∧
    (lab.capture.openRecord = none ∧ lab.capture.locked = none) ∧
    (unit67.openRecord = some 0 ∧ unit67.records[(0 : Fin 16)].state.content.isSome = true ∧ unit67.locked = some 0) :=
  ⟨⟨rfl, rfl⟩, by decide⟩

theorem witness_ChamberByteTaken : lab.ready ∧ ¬State.reset.loader = .ready ∧ lab.chamber.frame = none ∧
    (lab.chamber.receiver.run (goodLevels 0xBF#8)).2 = [.byte 0xBF#8] ∧ (0xBF#8 : Byte).extractLsb' 4 4 = 0xB#4 ∧
    (lab.chamber.receiver.run (goodLevels 0xC0#8)).2 = [.byte 0xC0#8] ∧ (0xC0#8 : Byte).extractLsb' 4 4 ≠ 0xB#4 ∧
    (lab.chamber.receiver.run [true]).2 = [] ∧ (lab.chamber.receiver.run oddLevels).2 = [.error] ∧
    (inFrame 170#8 lab).chamber.frame = some ⟨3#4, List.replicate 8 170#8⟩ ∧
    (inFrame 170#8 lab).chamber.receiver = .waiting true := ⟨lab_ready, by decide +kernel⟩

theorem witness_ErrorsBreaksAndStaleness : (lab.ready ∧ (lab.chamber.receiver.run oddLevels).2 = [.error] ∧ lab.chamber.frame = none ∧
      lab.chamber.receiver ≠ .inBreak ∧ (inFrame 170#8 lab).chamber.frame.isSome = true) ∧ lab.chamber.receiver = .waiting true ∧
    (lab.chamber.receiver.run (List.replicate 353 false)).2 = [.lineBreak] ∧
    (after .chamberBreak lab).chamber.receiver = .inBreak ∧
    (after (.chamberByte (characterLevels 0#8 true false)) lab).chamber.receiver = .waiting false ∧
    (after (.chamberByte ((characterLevels 0#8 true false).take 160)) lab).chamber.receiver =
      .character 159 (List.replicate 8 false ++ [true]) false ∧
    lab.chamber.staleTimer = some 35000000#32 ∧ lab.profile.staleTimeout * 1000000 = lab.elapsed 35000000#32 ∧
    ({ lab with timebase := 39999999#32 } : State).elapsed 35000000#32 < lab.profile.staleTimeout * 1000000 ∧
    bare.chamber.staleTimer = none := ⟨⟨lab_ready, by decide +kernel⟩, by decide +kernel⟩

theorem witness_SoakTickTaken : lab.inReset = false ∧ lab.soakTimer = some 39000000#32 ∧ 1000000 = lab.elapsed 39000000#32 ∧
    (lab.slot 5).phase = .hold .burn true false ∧ (lab.slot 0).phase = .burn ∧ lab.chamber.fresh = true ∧
    lab.chamber.readings[(0 : SlotId)] = .valid 158 ∧ lab.chamber.status = 0#8 ∧ lab.chamber.h1InEffect < 158 := by decide

theorem witness_SoakFactorOfReading : rising Profile.builtIn.knots.toList = true ∧
    (∀ i : Fin 9, Profile.builtIn.factors[i] ≤ 4095) ∧ 79 < Profile.builtIn.knots[0] ∧ Profile.builtIn.knots[8] ≤ 170 := by decide

theorem witness_GradeTakeAndCompletion : (bare.engine = none ∧ ({ bare with gradeQueue := [1, 6] } : State).gradeQueue = [1, 6]) ∧
    lab.engine = some { slot := 7, void := false, takeTime := 39999999#32, inputs := slot3 } ∧ (lab.slot 7).phase = .gradeWait ∧
    ((after (.clearSlot [7#8]) lab).engine.map (·.void)) = some true := by decide

theorem witness_GradeAnswer : slot3.items.b1 ≤ slot3.items.b2 ∧ slot3.items.b2 ≤ slot3.items.b3 ∧
    ({ slot3 with slip := 100 } : GradeInputs).items.slipLimit ≤ 100 := by decide

theorem witness_SortHandshake : lab.sort.handshake = .offer 10000000#32 ∧ lab.sort.queue = ⟨4, some .a⟩ :: [] ∧
    bare.sort.handshake = .idle ∧ (after .takeAsserted lab).sort.handshake = .release ⟨4, some .a⟩ true ∧
    (after (.clearSlot [4#8]) (after .takeAsserted lab)).sort.handshake = .release ⟨4, some .a⟩ false ∧
    lab.profile.offerTimeout * 1000000 = lab.elapsed 10000000#32 ∧
    ({ lab with timebase := 39999999#32 } : State).elapsed 10000000#32 < lab.profile.offerTimeout * 1000000 ∧ lab.inReset = false ∧
    (after .faultAsserted lab).sort.handshake = .stalled := by decide

/-- lab with a command in front: a step of a state that meets every invariant. -/
def labStep : State := { lab with pending := [.grade [1#8]] }
theorem labStep_next : step labStep = .next (after (.grade [1#8]) lab) := rfl

theorem witness_PoolInvariant : labStep.poolSafe := by
  refine ⟨by decide, by decide, by decide, fun i => ?_⟩
  have h : (labStep.slot i).defects = Defects.none ∧ (labStep.lane i).sector = none := by revert i; decide
  rw [h.1, h.2]
  exact ⟨by decide, by unfold Defects.whole; decide, fun x hx => by cases hx⟩
theorem witness_TableAndProfileInvariant : labStep.tableSafe ∧ labStep.poolSafe ∧ labStep.profile.inRange ∧
    labStep.chamber.h1InEffect ≤ 249 :=
  ⟨by unfold State.tableSafe; decide, witness_PoolInvariant, by unfold Profile.inRange; decide, by decide⟩
theorem witness_PhaseInvariant : labStep.phaseSafe := by
  intro i
  have h : ((labStep.slot i).phase ≠ .empty ↔ (labStep.presenceOf i).debounced = true) ∧ (labStep.slot i).orphaned = false ∧
      ∀ p ∈ [ActivePhase.burn, .scan, .ship], (labStep.slot i).phase ≠ .hold p false false := by revert i; decide
  exact ⟨h.1, fun ho => absurd ho (by simp [h.2.1]), fun p => h.2.2 p (by cases p <;> decide)⟩
theorem witness_LaneInvariant : labStep.laneSafe := by
  intro i
  have h : (∀ p ∈ (labStep.lane i).position.toList, ((labStep.lane i).entry p.entry).isSome = true) ∧
      (labStep.lane i).sector = none := by revert i; decide
  exact ⟨fun p hp => h.1 p (by simp [hp]), fun x hx => by simp [h.2] at hx⟩
theorem witness_CaptureInvariant : labStep.captureSafe := by
  refine ⟨fun st h => ?_, fun n h => ?_, fun t h => ?_⟩ <;> cases h
theorem witness_QueueInvariant : labStep.gradeSafe ∧ labStep.sortSafe := by
  refine ⟨⟨by decide, by decide, fun c h _ => ?_⟩, by decide, by decide, fun _ _ => by decide, fun n h => ?_⟩
  · cases h; decide
  · cases h
theorem witness_CountInvariant : labStep.countsSafe := by
  refine ⟨fun i => ?_, by unfold CaptureUnit.countsInRange; decide, ⟨by decide, fun i h hr => ?_⟩, fun i e t ht => ?_⟩
  · unfold SlotRecord.countsInRange
    revert i; decide
  · have hv : ∀ i : SlotId, labStep.chamber.readings[i] = .valid 158 := by decide
    rw [hv i] at hr
    cases hr; decide
  · have hz : ∀ i, ∀ e, ((labStep.lane i).entry e).all (fun t => decide (t.errorSectors ≤ max16)) = true := by decide +kernel
    simpa [ht] using hz i e
theorem witness_FrozenFieldsInvariant : labStep.frozenSafe ∧ (labStep.slot 3).phase.frozen = true := by
  refine ⟨fun i e t hp he => ?_, by decide⟩
  have h : ∀ i, (labStep.slot i).phase.frozen = true → ∀ e, (labStep.lane i).entry e = none := by decide +kernel
  simp [h i hp e] at he

end Sys2Proof.Tests
end

section
/-!
What a step can do to the slots, said once (01_slot_runs.md): every command and event is a sequence of a few kinds of move of slot
records, lanes and presence, or a START, and only three commands change the sector size. The invariants of the slot runs are then a
case analysis over the moves.
-/
namespace Sys2Proof.Machine

/-! ## Moves -/

/-- A lane has no OPEN or LATE entry issued in BURN or SCAN. -/
def Lane.untested (l : Lane) : Prop := ∀ e t, l.entry e = some t → t.issuePhase.isTest = false

/-- A phase stays, or becomes another of a run: neither is EMPTY or IDLE, both or none are frozen, and the new one is no HOLD without
a cause unless the old one was. -/
def Phase.TurnsTo (p q : Phase) : Prop :=
  q = p ∨ (p.counts = true ∧ q.counts = true ∧ q.frozen = p.frozen ∧
    ∀ a, q = .hold a false false → ∃ b, p = .hold b false false)

/-- A slot record becomes another within a run: its phase turns, ORPHANED stays, and in a frozen phase with no open test command the
frozen fields stay. -/
structure SlotRecord.TurnsTo (r q : SlotRecord) (l : Lane) : Prop where
  orphaned : q.orphaned = r.orphaned
  phase : r.phase.TurnsTo q.phase
  same : r.phase.frozen = true → l.untested → r.sameFrozen q

/-- Every open entry of the second lane was open in the first with the same issue phase. -/
def Lane.KeepsIssue (l m : Lane) : Prop :=
  ∀ e t, m.entry e = some t → ∃ u, l.entry e = some u ∧ u.issuePhase = t.issuePhase

/-- One move of the slot records, lanes and presence. -/
inductive Move : State → State → Prop
  /-- Slot records, debounced presence and sector size stay, and the lanes open no entry. -/
  | aside {s t : State} (slots : t.slots = s.slots) (lanes : ∀ i, (s.lane i).KeepsIssue (t.lane i))
      (size : t.sectorSize = s.sectorSize)
      (present : ∀ i, (t.presenceOf i).debounced = (s.presenceOf i).debounced) : Move s t
  /-- A slot's record changes within its run. -/
  | turn (s : State) (i : SlotId) (f : SlotRecord → SlotRecord) (h : (s.slot i).TurnsTo (f (s.slot i)) (s.lane i)) :
      Move s (s.modSlot i f)
  /-- A lane's open entries keep their issue phases, or have the slot's phase (R27). -/
  | lane (s : State) (i : SlotId) (f : Lane → Lane)
      (h : ∀ e t, (f (s.lane i)).entry e = some t →
        (∃ u, (s.lane i).entry e = some u ∧ u.issuePhase = t.issuePhase) ∨ t.issuePhase = (s.slot i).phase.name) :
      Move s (s.modLane i f)
  /-- GRADE is taken in SCAN with no entry open (R17). -/
  | queued (s : State) (i : SlotId) (hp : (s.slot i).phase = .scan) (h : ∀ e, (s.lane i).entry e = none) :
      Move s (s.setPhase i .gradeWait)
  /-- Presence is gained (R4). -/
  | gained (s : State) (i : SlotId) (p : Presence) (h : (s.presenceOf i).debounced = false) (hp : p.debounced = true) :
      Move s ((s.setPresence i p).setPhase i (s.slot i).phase.gained)
  /-- One slot is at rest, IDLE where present and EMPTY where not: cleared, orphaned or removed (R5 to R8). -/
  | rest {s t : State} (i : SlotId)
      (others : ∀ j, j ≠ i → t.slot j = s.slot j ∧ t.lane j = s.lane j ∧ t.presenceOf j = s.presenceOf j)
      (size : t.sectorSize = s.sectorSize)
      (atRest : (t.slot i).phase = if (t.presenceOf i).debounced then .idle else .empty) : Move s t
  /-- Every slot is EMPTY and absent (R2). -/
  | reset {s t : State} (size : t.sectorSize = s.sectorSize)
      (empty : ∀ i, (t.slot i).phase = .empty ∧ (t.presenceOf i).debounced = false) : Move s t

/-- A sequence of moves. -/
def Moves : State → State → Prop := Relation.ReflTransGen Move

theorem Moves.refl (s : State) : Moves s s := Relation.ReflTransGen.refl

theorem Moves.trans {s t u : State} (h : Moves s t) (g : Moves t u) : Moves s u := Relation.ReflTransGen.trans h g

theorem Moves.of_move {s t : State} (h : Move s t) : Moves s t := Relation.ReflTransGen.single h

theorem Lane.KeepsIssue.of_tags {l m : Lane} (h : m.tags = l.tags) : l.KeepsIssue m :=
  fun e t ht => ⟨t, by simpa [Lane.entry, h] using ht, rfl⟩

/-- What is beside the slot records, lanes and presence. -/
theorem Moves.beside {s t : State} (slots : t.slots = s.slots) (lanes : t.lanes = s.lanes) (size : t.sectorSize = s.sectorSize)
    (presence : t.presence = s.presence) : Moves s t :=
  .of_move (.aside slots (fun i => .of_tags (by rw [State.lane, State.lane, lanes])) size
    (fun i => by rw [State.presenceOf, State.presenceOf, presence]))

/-- What every move keeps, a sequence of moves keeps. -/
theorem Moves.induct {P : State → Prop} (hm : ∀ s t, Move s t → P s → P t) {s t : State} (h : Moves s t) (hs : P s) : P t := by
  induction h with
  | refl => exact hs
  | tail _ hlast ih => exact hm _ _ hlast ih

/-- No move changes the sector size (R167). -/
theorem Move.sectorSize {s t : State} (h : Move s t) : t.sectorSize = s.sectorSize := by
  cases h with
  | aside _ _ size _ => exact size
  | turn => rfl
  | lane => rfl
  | queued => rfl
  | gained => rfl
  | rest _ _ size _ => exact size
  | reset size _ => exact size

theorem Moves.sectorSize {s t : State} (h : Moves s t) : t.sectorSize = s.sectorSize :=
  h.induct (P := fun u => u.sectorSize = s.sectorSize) (fun _ _ hm hs => hm.sectorSize.trans hs) rfl

/-- A fold of operations that are moves. -/
theorem Moves.foldl {α : Type} {f : State → α → State} (h : ∀ u x, Moves u (f u x)) (l : List α) : ∀ s, Moves s (l.foldl f s) := by
  induction l with
  | nil => exact Moves.refl
  | cons x l ih => exact fun s => (h s x).trans (ih (f s x))

theorem Moves.forSlots {f : State → SlotId → State} (h : ∀ u i, Moves u (f u i)) (s : State) : Moves s (s.forSlots f) :=
  Moves.foldl h allSlots s

/-! ## Moves of the shared operations -/

theorem SlotRecord.sameFrozen_refl (r : SlotRecord) : r.sameFrozen r := ⟨rfl, rfl, rfl, rfl, rfl, rfl, rfl, rfl, rfl, rfl⟩

/-- A record whose phase stays turns within its run where its frozen fields stay. -/
theorem SlotRecord.TurnsTo.of_phase {r q : SlotRecord} {l : Lane} (hp : q.phase = r.phase) (ho : q.orphaned = r.orphaned)
    (hs : r.phase.frozen = true → l.untested → r.sameFrozen q) : r.TurnsTo q l :=
  ⟨ho, .inl hp, hs⟩

theorem State.putCapture_moves (s : State) (u : CaptureUnit × Option AlertFlag) : Moves s (s.putCapture u) :=
  .beside (by simp) (by simp) (by simp) (by simp)

theorem State.capturing_moves (s : State) (e : CaptureEvent) : Moves s (s.capturing e) := by
  obtain ⟨-, h⟩ | ⟨-, h⟩ := s.capturing_cases e
  · rw [h]; exact s.putCapture_moves _
  · rw [h]; exact .refl s

@[simp] theorem State.capturing_lane (s : State) (e : CaptureEvent) (j : SlotId) : (s.capturing e).lane j = s.lane j := by
  obtain ⟨-, h⟩ | ⟨-, h⟩ := s.capturing_cases e <;> simp [h, State.putCapture_lane]

theorem State.raise_moves (s : State) (a : AlertFlag) : Moves s (s.raise a) :=
  .beside rfl rfl rfl rfl

theorem State.answer_moves (s : State) (st : Status) (p : List Byte) : Moves s (s.answer st p) :=
  .beside rfl rfl rfl rfl

theorem State.putSort_moves (s : State) (p : SortPort) : Moves s (s.putSort p) :=
  .beside rfl rfl rfl rfl

theorem State.modChamber_moves (s : State) (f : Chamber → Chamber) : Moves s (s.modChamber f) :=
  .beside rfl rfl rfl rfl

theorem State.modSlot_moves (s : State) (i : SlotId) (f : SlotRecord → SlotRecord)
    (h : (s.slot i).TurnsTo (f (s.slot i)) (s.lane i)) : Moves s (s.modSlot i f) := .of_move (.turn s i f h)

@[simp] theorem State.report_lane (s : State) (i : SlotId) (f : SlotRecord → SlotRecord) (j : SlotId) :
    (s.report i f).lane j = s.lane j := by
  obtain ⟨-, h⟩ | ⟨-, h⟩ := s.report_cases i f <;> simp [h]

theorem State.report_moves (s : State) (i : SlotId) (f : SlotRecord → SlotRecord)
    (h : (s.slot i).TurnsTo (f (s.slot i)) (s.lane i)) : Moves s (s.report i f) := by
  obtain ⟨-, hr⟩ | ⟨-, hr⟩ := s.report_cases i f
  · rw [hr]; exact s.modSlot_moves i f h
  · rw [hr]; exact .refl s

/-- A count that is no frozen field. -/
theorem State.report_count_moves (s : State) (i : SlotId) (f : TestCounters → TestCounters)
    (h : ∀ c, (f c).stale = c.stale ∧ (f c).slip = c.slip ∧ (f c).timeouts = c.timeouts) :
    Moves s (s.report i (SlotRecord.count f)) := by
  obtain ⟨hst, hsl, hti⟩ := h (s.slot i).counters
  exact s.report_moves i _ (.of_phase rfl rfl
    (fun _ _ => ⟨rfl, rfl, rfl, rfl, rfl, rfl, hst.symm, hsl.symm, hti.symm, rfl⟩))

/-- A report of a test command: the slot is not frozen, or the invariant of R17 fails. -/
theorem State.report_test_moves (s : State) (i : SlotId) (f : SlotRecord → SlotRecord) (ht : ¬(s.lane i).untested)
    (hp : (f (s.slot i)).phase = (s.slot i).phase) (ho : (f (s.slot i)).orphaned = (s.slot i).orphaned) :
    Moves s (s.report i f) :=
  s.report_moves i f (.of_phase hp ho (fun _ hu => absurd hu ht))

/-- A report of the ship state, which is no frozen field (R73, R74). -/
theorem State.report_ship_moves (s : State) (i : SlotId) (f : SlotRecord → ShipState) :
    Moves s (s.report i (fun r => { r with ship := f r })) :=
  s.report_moves i _ (.of_phase rfl rfl (fun _ _ => SlotRecord.sameFrozen_refl _))

@[simp] theorem State.insertDefect_lane (s : State) (i : SlotId) (lba : Nat) (c : Cause) (pass : Nat) (j : SlotId) :
    (s.insertDefect i lba c pass).lane j = s.lane j := by
  obtain ⟨-, d, free, -, h⟩ | ⟨-, h⟩ := s.insertDefect_cases i lba c pass
  · rw [h]; rfl
  · rw [h]

theorem State.insertDefect_moves (s : State) (i : SlotId) (lba : Nat) (c : Cause) (pass : Nat)
    (ht : ¬(s.lane i).untested) : Moves s (s.insertDefect i lba c pass) := by
  obtain ⟨-, d, free, -, h⟩ | ⟨-, h⟩ := s.insertDefect_cases i lba c pass
  · rw [h]
    exact (s.modSlot_moves i (fun r => { r with defects := d })
      (.of_phase rfl rfl (fun _ hu => absurd hu ht))).trans (.beside rfl rfl rfl rfl)
  · rw [h]; exact .refl s

/-! ## Lanes -/

/-- An open entry written with its issue phase. -/
theorem Lane.KeepsIssue.setEntry {l : Lane} {e : EntryId} {t u : TagEntry} (h : l.entry e = some t)
    (hp : u.issuePhase = t.issuePhase) : l.KeepsIssue (l.setEntry e (some u)) := by
  intro d v hv
  rw [Lane.entry_setEntry] at hv
  split at hv
  · cases hv; subst d; exact ⟨t, h, hp.symm⟩
  · exact ⟨v, hv, rfl⟩

theorem Lane.KeepsIssue.free (l : Lane) (e : EntryId) : l.KeepsIssue (l.free e) := by
  intro d v hv
  rw [Lane.entry_free] at hv
  split at hv
  · cases hv
  · exact ⟨v, hv, rfl⟩

theorem Lane.KeepsIssue.of_closed {l m : Lane} (h : ∀ e, m.entry e = none) : l.KeepsIssue m :=
  fun e t ht => by simp [h e] at ht

/-- A lane then changed outside its entries. -/
theorem Lane.KeepsIssue.then_tags {l m n : Lane} (h : l.KeepsIssue m) (ht : n.tags = m.tags) : l.KeepsIssue n :=
  fun e t he => h e t (by simpa [Lane.entry, ht] using he)

theorem State.modLane_moves (s : State) (i : SlotId) (f : Lane → Lane) (h : (s.lane i).KeepsIssue (f (s.lane i))) :
    Moves s (s.modLane i f) :=
  .of_move (.lane s i f (fun e t ht => .inl (h e t ht)))

/-- A lane with one open entry written with its issue phase, and changed outside its entries. -/
theorem State.setEntry_moves (s : State) (i : SlotId) (f : Lane → Lane) {e : EntryId} {t u : TagEntry}
    (he : (s.lane i).entry e = some t) (hf : (f (s.lane i)).tags = ((s.lane i).setEntry e (some u)).tags)
    (hp : u.issuePhase = t.issuePhase) : Moves s (s.modLane i f) :=
  s.modLane_moves i f ((Lane.KeepsIssue.setEntry he hp).then_tags hf)

/-- A lane changed outside its entries. -/
theorem State.modLane_tags_moves (s : State) (i : SlotId) (f : Lane → Lane) (h : ∀ l, (f l).tags = l.tags) :
    Moves s (s.modLane i f) := s.modLane_moves i f (.of_tags (h _))

@[simp] theorem Lane.sendsDown_tags (l : Lane) (fs : List SentFrame) : (l.sendsDown fs).tags = l.tags := rfl
@[simp] theorem Lane.sendsUp_tags (l : Lane) (fs : List SentFrame) : (l.sendsUp fs).tags = l.tags := rfl
@[simp] theorem Lane.moveTo_tags (l : Lane) (p : Option Position) : (l.moveTo p).tags = l.tags := rfl
@[simp] theorem Lane.advance_tags (l : Lane) : l.advance.tags = l.tags := rfl
@[simp] theorem Lane.dropPending_tags (l : Lane) : l.dropPending.tags = l.tags := rfl
@[simp] theorem Lane.sendsData_tags (l : Lane) (d : Direction) (bs : List Byte) (c : OutgoingCheck) :
    (l.sendsData d bs c).tags = l.tags := by cases d <;> rfl
@[simp] theorem Lane.relaysData_tags (l : Lane) (f : DataFrame) : (l.relaysData f).tags = l.tags := by simp [Lane.relaysData]
@[simp] theorem Lane.joinPending_tags (l : Lane) (e : EntryId) : (l.joinPending e).tags = l.tags := by
  unfold Lane.joinPending; split <;> rfl
@[simp] theorem Lane.relayStatus_tags (l : Lane) (st : DriveStatus) : (l.relayStatus st).tags = l.tags := by
  unfold Lane.relayStatus; split <;> rfl
@[simp] theorem Lane.sendNext_tags (l : Lane) : l.sendNext.tags = l.tags := by
  unfold Lane.sendNext; split <;> rfl

@[simp] theorem Lane.entry_dropPending (l : Lane) (e : EntryId) : l.dropPending.entry e = l.entry e := rfl

end Sys2Proof.Machine
end

section
/-!
The moves of the drive links' events (02_command_tracking_on_the_drive_links.md): what follows data, closes entries or times them
out leaves phases alone, and changes a frozen field only through an entry issued in BURN or SCAN.
-/
namespace Sys2Proof.Machine

/-! ## Entries -/

/-- An open entry issued in BURN or SCAN is a test command of its lane. -/
theorem Lane.not_untested {l : Lane} {e : EntryId} {t : TagEntry} (h : l.entry e = some t) (ht : t.issuePhase.isTest = true) :
    ¬l.untested := fun hu => by simp [hu e t h] at ht

theorem State.free_moves (s : State) (i : SlotId) (e : EntryId) : Moves s (s.modLane i (·.free e)) :=
  s.modLane_moves i _ (.free _ e)

theorem State.modEntry_moves (s : State) (i : SlotId) (e : EntryId) (f : TagEntry → TagEntry)
    (hf : ∀ t, (f t).issuePhase = t.issuePhase) : Moves s (s.modEntry i e f) := by
  obtain ⟨-, h⟩ | ⟨t, he, h⟩ := s.modEntry_cases i e f
  · rw [h]; exact .refl s
  · rw [h]; exact s.setEntry_moves i _ he rfl (hf t)

theorem State.anomaly_moves (s : State) (i : SlotId) : Moves s (s.report i (SlotRecord.count TestCounters.anomaly)) :=
  s.report_count_moves i _ (fun _ => ⟨rfl, rfl, rfl⟩)

theorem State.markUntracked_moves (s : State) (i : SlotId) (e : EntryId) : Moves s (s.markUntracked i e) := by
  obtain h | ⟨t, he, -, h⟩ := s.markUntracked_cases i e
  · rw [h]; exact .refl s
  · rw [h]; exact (s.anomaly_moves i).trans (State.setEntry_moves _ i _ (t := t) (by simpa using he) rfl rfl)

theorem State.noteOverrun_moves (s : State) (i : SlotId) {e : EntryId} {t : TagEntry} (he : (s.lane i).entry e = some t) :
    Moves s (s.noteOverrun i e t) := by
  obtain ⟨-, h⟩ | ⟨-, h⟩ := s.noteOverrun_cases i e t
  · rw [h]; exact .refl s
  · rw [h]; exact (s.anomaly_moves i).trans (State.setEntry_moves _ i _ (t := t) (by simpa using he) rfl rfl)

/-! ## Command frames (R27, R28, R40) -/

theorem State.collide_moves (s : State) (i : SlotId) (e : EntryId) : Moves s (s.collide i e) := by
  unfold State.collide
  split
  · exact (s.report_count_moves i (fun c => c.abandon.anomaly) (fun _ => ⟨rfl, rfl, rfl⟩)).trans (State.free_moves _ i e)
  · exact .refl s

theorem State.withhold_moves (s : State) (i : SlotId) (e : EntryId) : Moves s (s.withhold i e) :=
  (s.report_count_moves i (fun c => { c with withheld := inc16 c.withheld }) (fun _ => ⟨rfl, rfl, rfl⟩)).trans
    (State.modLane_moves _ i _ ((Lane.KeepsIssue.free _ e).then_tags (by simp)))

/-- The entry that a command frame opens has the slot's phase (R27). -/
theorem State.openEntry_moves (s : State) (i : SlotId) (f : CommandFrame) : Moves s (s.openEntry i f) := by
  refine .of_move (.lane s i _ (fun e t ht => ?_))
  have hset : ((s.lane i).setEntry (commandEntry f.kind) (some (TagEntry.opened f (s.slot i) s.timebase))).entry e = some t := by
    split at ht <;> exact ht
  rw [Lane.entry_setEntry] at hset
  split at hset
  · cases hset; exact .inr rfl
  · exact .inl ⟨t, hset, rfl⟩

theorem execCommandFrame_moves {i : SlotId} {f : CommandFrame} {s t : State} (h : execCommandFrame i f s = .next t) :
    Moves s t := by
  unfold execCommandFrame at h
  split at h
  · cases h; exact s.modLane_tags_moves i _ (by simp)
  · cases h
    refine (s.collide_moves i (commandEntry f.kind)).trans ?_
    split
    · exact State.withhold_moves _ i _
    · exact State.openEntry_moves _ i f

theorem execPendingStatusSend_moves {i : SlotId} {s t : State} (h : execPendingStatusSend i s = .next t) : Moves s t := by
  cases h; exact s.modLane_tags_moves i _ (by simp)

theorem execDataSetupNotice_moves {i : SlotId} {n : SetupNotice} {s t : State} (h : execDataSetupNotice i n s = .next t) :
    Moves s t := by
  have hup := s.modLane_tags_moves i (·.sendsUp [.setup n]) (by simp)
  unfold execDataSetupNotice at h
  dsimp only at h
  split at h
  · cases h; exact hup
  · split at h
    · cases h; exact hup.trans (State.modLane_tags_moves _ i _ (by simp))
    · split at h <;> cases h
      · exact hup.trans (State.modLane_tags_moves _ i _ (by simp))
      · exact (hup.trans (State.markUntracked_moves _ i _)).trans (State.modLane_tags_moves _ i _ (by simp))

/-! ## Sectors (R65, R66, R70 to R74) -/

theorem State.countSubstituted_moves (s : State) (i : SlotId) (issue : PhaseName) (img : Image) :
    Moves s (s.countSubstituted i issue img) := by
  unfold State.countSubstituted
  split
  · exact s.report_count_moves i _ (fun _ => ⟨rfl, rfl, rfl⟩)
  · exact s.report_count_moves i _ (fun _ => ⟨rfl, rfl, rfl⟩)
  · exact s.report_ship_moves i (fun r => r.ship.sent img)
  all_goals exact .refl s

theorem State.testResult_moves (s : State) (i : SlotId) (e : EntryId) (lba pass : Nat) (res : CheckResult)
    (ht : ¬(s.lane i).untested) : Moves s (s.testResult i e lba pass res) := by
  have hcount : Moves s (s.report i (SlotRecord.count (·.checkedWith res))) := s.report_test_moves i _ ht rfl rfl
  cases res with
  | isMatch => exact hcount
  | stale p => exact hcount.trans (State.capturing_moves _ _)
  | slip offset => exact hcount.trans (State.capturing_moves _ _)
  | corrupt first expected actual n =>
    exact (hcount.trans (State.insertDefect_moves _ i lba .corrupt pass (by simpa using ht))).trans (State.capturing_moves _ _)

theorem State.applyResult_moves (s : State) (i : SlotId) {e : EntryId} {t : TagEntry} (x : SectorInProgress) (res : CheckResult)
    (he : (s.lane i).entry e = some t) : Moves s (s.applyResult i e t x res) := by
  let s1 := if res = .isMatch then s else s.modEntry i e (fun u => { u with errorSectors := inc16 u.errorSectors })
  have h1 : Moves s s1 := by
    unfold s1; split
    · exact .refl s
    · exact s.modEntry_moves i e _ (fun _ => rfl)
  have he1 : ∃ u, (s1.lane i).entry e = some u ∧ u.issuePhase = t.issuePhase := by
    unfold s1; split
    · exact ⟨t, he, rfl⟩
    · exact ⟨{ t with errorSectors := inc16 t.errorSectors }, by simp [State.modEntry, he, Lane.entry_setEntry], rfl⟩
  obtain ⟨u, hu, hp⟩ := he1
  have htest (h : t.issuePhase.isTest = true) : ¬(s1.lane i).untested := Lane.not_untested hu (by rw [hp, h])
  show Moves s (match t.issuePhase with
    | .burn | .scan => s1.testResult i e x.lba t.pass res
    | .ship => s1.report i (fun r => { r with ship := r.ship.checked x.image (res == .isMatch) })
    | .empty | .idle | .gradeWait | .graded | .sealed | .hold => s1)
  split
  case h_1 hb => exact h1.trans (s1.testResult_moves i e _ _ res (htest (by simp [hb, PhaseName.isTest])))
  case h_2 hb => exact h1.trans (s1.testResult_moves i e _ _ res (htest (by simp [hb, PhaseName.isTest])))
  case h_3 => exact h1.trans (s1.report_ship_moves i _)
  all_goals exact h1

theorem State.finishSector_moves (s : State) (i : SlotId) {e : EntryId} {t : TagEntry} (x : SectorInProgress)
    (he : (s.lane i).entry e = some t) : Moves s (s.finishSector i e t x) := by
  unfold State.finishSector
  split
  · exact .refl s
  · split
    · exact s.countSubstituted_moves i _ _
    · exact s.applyResult_moves i x _ he

/-! ## Data frames (R30, R31) -/

theorem State.passByte_moves (s : State) (i : SlotId) {e : EntryId} {t : TagEntry} (offset : Nat) (good : Bool) (b : Byte)
    (he : (s.lane i).entry e = some t) : Moves s (s.passByte i e t offset good b).1 := by
  unfold State.passByte
  dsimp only
  split
  · have h1 : Moves s (s.modLane i (fun l => { (l.setEntry e (some { t with done := t.done + 1 })).advance with sector := none })) :=
      s.setEntry_moves i _ he rfl rfl
    dsimp only
    split
    · exact h1
    · refine h1.trans (State.finishSector_moves _ i _ ?_)
      rw [State.lane_modLane_self]
      exact (Lane.entry_setEntry _ e e _).trans (if_pos rfl)
  · dsimp only
    exact s.modLane_tags_moves i _ (by intro; rfl)

theorem State.passIdent_moves (s : State) (i : SlotId) {e : EntryId} {t : TagEntry} (offset : Nat) (good : Bool) (b : Byte)
    (he : (s.lane i).entry e = some t) : Moves s (s.passIdent i e t offset good b) :=
  s.setEntry_moves i _ he rfl rfl

theorem State.passUntracked_moves (s : State) (i : SlotId) (good : Bool) (b : Byte) : Moves s (s.passUntracked i good b).1 := by
  unfold State.passUntracked
  dsimp only
  exact s.modLane_tags_moves i _ (by intro; rfl)

theorem State.passOne_moves (s : State) (i : SlotId) (good : Bool) (b : Byte) : Moves s (s.passOne i good b).1 := by
  obtain h | ⟨p, t, -, he, h⟩ := s.passOne_cases i good b
  · rw [h]; exact .refl s
  · obtain ⟨-, h⟩ | ⟨-, -, h⟩ | ⟨-, -, -, h⟩ | ⟨-, -, -, h⟩ | ⟨-, -, -, -, h⟩ := h <;> rw [h]
    · exact (s.noteOverrun_moves i he).trans (State.modLane_tags_moves _ i _ (by simp))
    · exact s.passUntracked_moves i good b
    · exact s.passByte_moves i _ _ _ he
    · exact s.passIdent_moves i _ _ _ he
    · exact s.modLane_tags_moves i _ (by simp)

theorem State.passBytes_moves (s : State) (i : SlotId) (good : Bool) (bs : List Byte) : Moves s (s.passBytes i good bs).1 :=
  State.passBytes_induct (P := Moves s) i good (fun u b hu => hu.trans (u.passOne_moves i good b)) bs s (.refl s)

theorem execDataFrame_moves {i : SlotId} {f : DataFrame} {s t : State} (h : execDataFrame i f s = .next t) : Moves s t := by
  have hrelay (u : State) : Moves u (u.modLane i (·.relaysData f)) := u.modLane_tags_moves i _ (by simp)
  unfold execDataFrame at h
  split at h
  · cases h; exact hrelay s
  · split at h
    · cases h; exact hrelay s
    · rename_i p _
      split at h
      · cases h; exact hrelay s
      · split at h <;> cases h
        · exact (s.passBytes_moves i _ _).trans (State.modLane_tags_moves _ i _ (by simp))
        · exact ((s.markUntracked_moves i p.entry).trans (State.modLane_tags_moves _ i _ (by intro; rfl))).trans (hrelay _)

/-! ## Statuses (R33 to R36, R43, R44) -/

theorem State.sampleEntry_moves (s : State) (i : SlotId) {e : EntryId} {t : TagEntry} (he : (s.lane i).entry e = some t) :
    Moves s (s.sampleEntry i t) := by
  unfold State.sampleEntry
  split
  · rename_i hc
    have htest : t.issuePhase.isTest = true := (Bool.and_eq_true _ _ ▸ hc).1
    refine s.report_test_moves i _ (Lane.not_untested he htest) ?_ ?_ <;> split <;> rfl
  · exact .refl s

theorem State.compareIdentity_moves (s : State) (i : SlotId) (sn : Snoop) : Moves s (s.compareIdentity i sn) := by
  unfold State.compareIdentity
  dsimp only
  split
  · exact (s.anomaly_moves i).trans (State.capturing_moves _ _)
  · exact .refl s

/-- An offered identity is taken in IDLE only, which is not frozen (R43). -/
theorem State.offerSnoop_moves (s : State) (i : SlotId) (t : TagEntry) : Moves s (s.offerSnoop i t) := by
  unfold State.offerSnoop
  split
  · split
    case h_1 => exact .refl s
    case h_2 hp =>
      split
      · exact .refl s
      · exact s.modSlot_moves i _ (.of_phase rfl rfl (fun hf => by simp [hp, Phase.frozen] at hf))
    all_goals exact s.compareIdentity_moves i _
  · exact .refl s

theorem State.closeSuccess_moves (s : State) (i : SlotId) (e : EntryId) : Moves s (s.closeSuccess i e) := by
  unfold State.closeSuccess
  split
  · exact .refl s
  · rename_i t he
    refine Moves.trans ?_ (State.free_moves _ i e)
    split
    · exact (s.sampleEntry_moves i he).trans (State.offerSnoop_moves _ i t)
    · exact s.sampleEntry_moves i he

theorem execSuccessStatus_moves {i : SlotId} {st : Success} {s t : State} (h : execSuccessStatus i st s = .next t) : Moves s t := by
  have hrelay := s.modLane_tags_moves i (·.relayStatus (.success st)) (by simp)
  unfold execSuccessStatus at h
  dsimp only at h
  split at h
  · cases h; exact hrelay
  · cases st with
    | nonQueued => cases h; exact hrelay.trans (State.closeSuccess_moves _ i _)
    | queued tags =>
      cases h
      refine hrelay.trans (Moves.foldl (fun u x => ?_) allTags _)
      split
      · exact u.closeSuccess_moves i _
      · exact .refl u

theorem State.mediaError_moves (s : State) (i : SlotId) {e : EntryId} {t : TagEntry} (lba : Option (BitVec 48))
    (he : (s.lane i).entry e = some t) : Moves s (s.mediaError i e t lba) := by
  have htest (ht : t.issuePhase.isTest = true) : Moves s
      (match lba with
        | none => s.report i (SlotRecord.count (fun c => { c with media := inc16 c.media }))
        | some l => (s.report i (SlotRecord.count (fun c => { c with media := inc16 c.media }))).insertDefect i l.toNat .media t.pass) := by
    have hm := s.report_count_moves i (fun c => { c with media := inc16 c.media }) (fun _ => ⟨rfl, rfl, rfl⟩)
    cases lba with
    | none => exact hm
    | some l => exact hm.trans (State.insertDefect_moves _ i _ _ _ (by simpa using Lane.not_untested he ht))
  unfold State.mediaError
  split
  case h_1 hb => exact (htest (by simp [hb, PhaseName.isTest])).trans (State.capturing_moves _ _)
  case h_2 hb => exact (htest (by simp [hb, PhaseName.isTest])).trans (State.capturing_moves _ _)
  case h_3 => exact s.report_ship_moves i (fun r => { r.ship with bad := inc16 r.ship.bad })
  all_goals exact .refl s

theorem State.closeError_moves (s : State) (i : SlotId) (r : ErrorReport) : Moves s (s.closeError i r) := by
  unfold State.closeError
  dsimp only
  split
  · exact .refl s
  · rename_i t he
    refine Moves.trans ?_ (State.free_moves _ i _)
    split
    · exact s.mediaError_moves i _ he
    · exact .refl s
    · exact .refl s

theorem State.abortSibling_moves (i : SlotId) (s : State) (x : Fin 32) : Moves s (State.abortSibling i s x) := by
  unfold State.abortSibling
  split
  · exact (s.report_count_moves i (fun c => { c with aborted := inc16 c.aborted }) (fun _ => ⟨rfl, rfl, rfl⟩)).trans
      (State.free_moves _ i _)
  · exact .refl s

theorem execErrorStatus_moves {i : SlotId} {r : ErrorReport} {s t : State} (h : execErrorStatus i r s = .next t) : Moves s t := by
  have hrelay := s.modLane_tags_moves i (·.relayStatus (.error r)) (by simp)
  unfold execErrorStatus at h
  dsimp only at h
  split at h
  · cases h; exact hrelay
  · have hclose := hrelay.trans (State.closeError_moves _ i r)
    split at h <;> rw [← Host.Outcome.next.inj h]
    · exact hclose
    · exact hclose.trans (Moves.foldl (State.abortSibling_moves i) allTags _)

/-! ## Timeouts and link reset (R37, R42) -/

/-- A due entry was issued in BURN, SCAN or SHIP, and only one of BURN or SCAN counts in a frozen field (R37). -/
theorem State.expireEntry_moves (s : State) (i : SlotId) (e : EntryId) (h : s.timeoutDue i e = true) :
    Moves s (s.expireEntry i e) := by
  unfold State.timeoutDue at h
  unfold State.expireEntry
  cases he : (s.lane i).entry e with
  | none => exact .refl s
  | some t =>
    simp only [he, PhaseName.isTimed, Bool.and_eq_true, Bool.or_eq_true, beq_iff_eq] at h
    obtain ⟨⟨-, htimed⟩, -⟩ := h
    have hlate : Moves s (s.modLane i (·.setEntry e (some { t with late := true }))) := s.setEntry_moves i _ he rfl rfl
    refine Moves.trans ?_ (State.capturing_moves _ _)
    split
    · exact hlate.trans (State.report_ship_moves _ i (fun r => { r.ship with bad := inc16 r.ship.bad }))
    · rename_i hship
      refine hlate.trans (State.report_test_moves _ i _ ?_ rfl rfl)
      rw [State.lane_modLane_self]
      exact Lane.not_untested (t := { t with late := true }) ((Lane.entry_setEntry _ e e _).trans (if_pos rfl))
        (htimed.resolve_right hship)

theorem State.expireSlot_moves (s : State) (i : SlotId) : Moves s (s.expireSlot i) :=
  Moves.foldl (fun u e => by
    split
    · rename_i hd; exact u.expireEntry_moves i e hd
    · exact .refl u) allEntries s

theorem execCommandTimeout_moves {i : SlotId} {e : EntryId} {s t : State} (h : execCommandTimeout i e s = .next t) : Moves s t := by
  cases h
  split
  · rename_i hd; exact s.expireEntry_moves i e hd
  · exact .refl s

theorem execDriveLinkReset_moves {i : SlotId} {s t : State} (h : execDriveLinkReset i s = .next t) : Moves s t := by
  unfold execDriveLinkReset at h
  split at h <;> cases h
  · exact .refl s
  · exact (s.report_count_moves i (TestCounters.abandonMany _) (fun _ => ⟨rfl, rfl, rfl⟩)).trans
      (State.modLane_moves _ i _ (.of_closed (by simp)))

end Sys2Proof.Machine
end

section
/-!
What the shared operations on a slot leave, as one equation each: withdrawal of its notice (R143), slot clear (R8), orphaning (R7),
departure (R6).
-/
namespace Sys2Proof.Machine

/-- One value of eight replaced, read back. -/
theorem eight_set_get {α : Type} (v : Vector α 8) (i j : SlotId) (x : α) : (v.set i x)[j] = if i = j then x else v[j] := by
  simp [Vector.getElem_set, Fin.ext_iff]

/-- The slot records of a state that has one replaced. -/
theorem State.slot_of_set {s t : State} {i : SlotId} {r : SlotRecord} (h : t.slots = s.slots.set i r) (j : SlotId) :
    t.slot j = if i = j then r else s.slot j := by
  unfold State.slot; rw [h]; exact eight_set_get _ i j r

/-- The lanes of a state that has one replaced. -/
theorem State.lane_of_set {s t : State} {i : SlotId} {l : Lane} (h : t.lanes = s.lanes.set i l) (j : SlotId) :
    t.lane j = if i = j then l else s.lane j := by
  unfold State.lane; rw [h]; exact eight_set_get _ i j l

/-- The presences of a state that has one replaced. -/
theorem State.presenceOf_of_set {s t : State} {i : SlotId} {p : Presence} (h : t.presence = s.presence.set i p) (j : SlotId) :
    t.presenceOf j = if i = j then p else s.presenceOf j := by
  unfold State.presenceOf; rw [h]; exact eight_set_get _ i j p

/-- The sort port after the withdrawal of a slot's notice, if the queue holds one, with R138 applied (R143). -/
def State.sortWithdrawn (s : State) (i : SlotId) : SortPort :=
  if s.sort.holds i then (s.sort.withdrawn i).offering s.timebase else s.sort

/-- A withdrawal changes the sort port alone. -/
theorem State.withdrawNotice_eq (s : State) (i : SlotId) : s.withdrawNotice i = { s with sort := s.sortWithdrawn i } := by
  unfold State.withdrawNotice State.sortWithdrawn
  split <;> rfl

/-- A slot clear, field by field (R8). -/
theorem State.slotClear_eq (s : State) (i : SlotId) : s.slotClear i = { s with
    slots := s.slots.set i ((s.slot i).cleared (s.presenceOf i).debounced)
    lanes := s.lanes.set i (s.lane i).forgotten
    gradeQueue := s.gradeQueue.filter (· != i)
    engine := s.engine.map (fun c => if c.slot = i then { c with void := true } else c)
    sort := s.sortWithdrawn i
    freeExtents := s.freeExtents + (s.slot i).defects.extents.length } := by
  unfold State.slotClear
  rw [State.withdrawNotice_eq]
  rfl

/-- The slot record after orphaning a slot with `n` open entries (R7). -/
def SlotRecord.orphanedWith (r : SlotRecord) (n : Nat) : SlotRecord :=
  { r with phase := .empty, orphaned := true, counters := r.counters.abandonMany n }

/-- Orphaning, field by field (R7). -/
theorem State.orphan_eq (s : State) (i : SlotId) : s.orphan i = { s with
    slots := s.slots.set i ((s.slot i).orphanedWith (s.lane i).openEntries.length)
    lanes := s.lanes.set i (s.lane i).forgotten
    gradeQueue := s.gradeQueue.filter (· != i)
    engine := s.engine.map (fun c => if c.slot = i then { c with void := true } else c)
    sort := s.sortWithdrawn i
    alerts := if s.sort.holds i then s.alerts ||| AlertFlag.mispull.set else s.alerts } := by
  unfold State.orphan State.withdrawMispull
  rw [State.withdrawNotice_eq]
  cases h : ((s.abandonCounted i).withdrawGrade i).sort.holds i
  all_goals
    have h' : s.sort.holds i = _ := h
    simp only [h', if_true, if_false, Bool.false_eq_true]
    simp [State.sortWithdrawn, h', State.abandonCounted, State.modSlot, State.modLane, State.withdrawGrade, State.raise,
      State.slot, SlotRecord.orphanedWith, SlotRecord.count, State.lane]

/-- The shipped counter after a departure: one more unless the bin is REJECT (R6). -/
def SlotRecord.shippedOff (r : SlotRecord) : SlotRecord :=
  match r.grade with
  | none => r
  | some g => if g.bin = .reject then r else { r with shipped := inc16 r.shipped }

theorem SlotRecord.shippedOff_defects (r : SlotRecord) : r.shippedOff.defects = r.defects := by
  unfold SlotRecord.shippedOff
  split
  · rfl
  · split <;> rfl

/-- A departure, field by field: a slot clear with the shipped counter raised before it (R6). -/
theorem State.depart_eq (s : State) (i : SlotId) : s.depart i = { s with
    slots := s.slots.set i ((s.slot i).shippedOff.cleared (s.presenceOf i).debounced)
    lanes := s.lanes.set i (s.lane i).forgotten
    gradeQueue := s.gradeQueue.filter (· != i)
    engine := s.engine.map (fun c => if c.slot = i then { c with void := true } else c)
    sort := s.sortWithdrawn i
    freeExtents := s.freeExtents + (s.slot i).defects.extents.length } := by
  show (s.modSlot i SlotRecord.shippedOff).slotClear i = _
  rw [State.slotClear_eq, State.slot_modSlot_self, SlotRecord.shippedOff_defects, State.modSlot_slots, Vector.set_set]
  rfl

end Sys2Proof.Machine
end

section
/-!
The moves of the other commands and events: the phase commands, the chamber line and the soak, grading, the sort port, presence,
resets. Then what a whole step can do.
-/
namespace Sys2Proof.Machine

/-! ## Phases within a run -/

theorem Phase.TurnsTo.refl (p : Phase) : p.TurnsTo p := .inl rfl

/-- The phase of a hold with its causes is one of the same run (R15, R16). -/
theorem Phase.turnsTo_held (a : ActivePhase) (m th m' th' : Bool) : (Phase.hold a m th).TurnsTo (Phase.held a m' th') := by
  refine .inr ⟨rfl, ?_⟩
  cases a <;> cases m' <;> cases th' <;> exact ⟨rfl, rfl, nofun⟩

theorem Phase.turnsTo_addThermal (p : Phase) : p.TurnsTo p.addThermal.1 := by
  cases p with
  | hold a m th => cases th with
    | false => exact .inr ⟨rfl, rfl, by cases a <;> rfl, nofun⟩
    | true => exact .refl _
  | burn | scan | ship => exact .inr ⟨rfl, rfl, rfl, nofun⟩
  | empty | idle | gradeWait | graded | sealed => exact .refl _

theorem Phase.turnsTo_removeThermal (p : Phase) : p.TurnsTo p.removeThermal.1 := by
  cases p with
  | hold a m th => cases th with
    | false => exact .refl _
    | true => exact Phase.turnsTo_held a m true m false
  | burn | scan | ship | empty | idle | gradeWait | graded | sealed => exact .refl _

theorem Phase.turnsTo_thermalCheck (p : Profile) (r : Reading) (ph : Phase) : ph.TurnsTo (thermalCheck p r ph).1 := by
  unfold thermalCheck
  split
  · split
    · exact ph.turnsTo_addThermal
    · split
      · exact ph.turnsTo_removeThermal
      · exact .refl _
  · exact .refl _
  · exact .refl _

theorem Phase.turnsTo_endBurn {p q : Phase} (h : p.endBurn = some q) : p.TurnsTo q := by
  unfold Phase.endBurn at h
  split at h <;> cases h
  · exact .inr ⟨rfl, rfl, rfl, nofun⟩
  · rename_i m th
    exact .inr ⟨rfl, rfl, rfl, fun a ha => ⟨.burn, by cases ha; rfl⟩⟩

theorem Phase.turnsTo_pause {p q : Phase} (h : p.pause = some q) : p.TurnsTo q := by
  unfold Phase.pause at h
  split at h <;> cases h
  · exact .inr ⟨rfl, rfl, rfl, nofun⟩
  · exact .inr ⟨rfl, rfl, rfl, nofun⟩
  · exact .inr ⟨rfl, rfl, rfl, nofun⟩
  · rename_i a _ _
    exact .inr ⟨rfl, rfl, by cases a <;> rfl, nofun⟩

theorem Phase.turnsTo_resume {p q : Phase} (h : p.resume = some q) : p.TurnsTo q := by
  unfold Phase.resume at h
  split at h <;> cases h
  exact Phase.turnsTo_held _ _ _ _ _

/-! ## Management commands -/

/-- A management command moves the slots at most by its effects. -/
theorem State.command_moves {s : State} {rule : State → Answer} (h : ∀ t p, rule s = .ok t p → Moves s t) :
    Moves s (s.command rule) := by
  obtain ⟨-, hc⟩ | ⟨-, -, hc⟩ | ⟨-, -, t, p, hr, hc⟩ | ⟨-, -, st, -, hc⟩ := s.command_cases rule <;> rw [hc]
  · exact .refl s
  · exact s.answer_moves _ _
  · exact (h t p hr).trans (t.answer_moves _ _)
  · exact s.answer_moves _ _

/-- A slot command moves the slots at most by its effects. -/
theorem State.slotCommand_moves {s : State} {args : List Byte} {rule : State → SlotId → Answer}
    (h : ∀ i t p, rule s i = .ok t p → Moves s t) : Moves s (s.command fun s => slotCommand args (rule s)) :=
  s.command_moves fun t p hr => by
    obtain ⟨i, -, hi⟩ := slotCommand_ok hr
    exact h i t p hi

/-- A command of no argument bytes moves the slots at most by its effects. -/
theorem State.plainCommand_moves {s : State} {args : List Byte} {answer : State → Answer}
    (h : ∀ t p, answer s = .ok t p → Moves s t) : Moves s (s.command fun s => plainCommand args (answer s)) :=
  s.command_moves fun t p hr => h t p (plainCommand_ok hr).2

/-- A query changes nothing but the reply. -/
theorem State.slotQuery_moves (s : State) (args : List Byte) (payload : State → SlotId → List Byte) :
    Moves s (s.command fun s => slotCommand args fun i => .ok s (payload s i)) :=
  s.slotCommand_moves (rule := fun s i => .ok s (payload s i)) fun _ _ _ h => by cases h; exact .refl s

/-! ## Phase commands -/

theorem State.setPhase_moves (s : State) (i : SlotId) (q : Phase) (h : (s.slot i).phase.TurnsTo q) : Moves s (s.setPhase i q) :=
  s.modSlot_moves i _ ⟨rfl, h, fun _ _ => SlotRecord.sameFrozen_refl _⟩

/-- A command that changes a phase within its run. -/
theorem State.phaseChange_moves {s : State} {args : List Byte} {f : Phase → Option Phase} (hf : ∀ p q, f p = some q → p.TurnsTo q) :
    Moves s (s.command fun s => slotCommand args fun i => s.phaseChange i (f (s.slot i).phase)) :=
  State.slotCommand_moves (rule := fun s i => s.phaseChange i (f (s.slot i).phase)) fun i t p h => by
    unfold State.phaseChange at h
    split at h <;> cases h
    rename_i q hq
    exact s.setPhase_moves i q (hf _ _ hq)

theorem execEndBurn_moves {args : List Byte} {s t : State} (h : execEndBurn args s = .next t) : Moves s t := by
  cases h; exact State.phaseChange_moves (fun _ _ => Phase.turnsTo_endBurn)

theorem execPause_moves {args : List Byte} {s t : State} (h : execPause args s = .next t) : Moves s t := by
  cases h; exact State.phaseChange_moves (fun _ _ => Phase.turnsTo_pause)

theorem execResume_moves {args : List Byte} {s t : State} (h : execResume args s = .next t) : Moves s t := by
  cases h; exact State.phaseChange_moves (fun _ _ => Phase.turnsTo_resume)

/-- No phase in which ADVANCE_PASS is taken is frozen (R11). -/
theorem Phase.not_frozen_of_advances {p : Phase} (h : p.advances = true) : p.frozen = false := by
  unfold Phase.advances at h
  split at h
  case h_5 | h_6 | h_7 | h_8 | h_9 | h_10 | h_11 => cases h
  all_goals rfl

theorem execAdvancePass_moves {args : List Byte} {s t : State} (h : execAdvancePass args s = .next t) : Moves s t := by
  cases h
  refine State.slotCommand_moves fun i t p h => ?_
  split at h
  · rename_i ha
    split at h <;> cases h
    exact s.modSlot_moves i _ (.of_phase rfl rfl (fun hf => by simp [Phase.not_frozen_of_advances ha] at hf))
  · cases h

/-- The tag table has no open entry exactly where every entry is FREE. -/
theorem State.hasOpen_eq_false {s : State} {i : SlotId} : s.hasOpen i = false ↔ ∀ e, (s.lane i).entry e = none := by
  have hall : ∀ e : EntryId, e ∈ allEntries := by decide
  simp [State.hasOpen, Lane.openEntries, hall]

theorem execGrade_moves {args : List Byte} {s t : State} (h : execGrade args s = .next t) : Moves s t := by
  cases h
  refine State.slotCommand_moves fun i t p h => ?_
  split at h
  · rename_i hp
    cases ho : s.hasOpen i with
    | true => simp [ho] at h
    | false =>
      simp only [ho, Bool.false_eq_true, if_false] at h
      cases h
      exact (Moves.of_move (.queued s i hp (State.hasOpen_eq_false.mp ho))).trans (.beside rfl rfl rfl rfl)
  · cases h

theorem execShip_moves {args : List Byte} {s t : State} (h : execShip args s = .next t) : Moves s t := by
  cases h
  refine State.slotCommand_moves fun i t p h => ?_
  split at h
  · rename_i hp
    split at h
    · cases h
    · split at h
      · cases h
      · split at h <;> cases h
        exact s.modSlot_moves i _ ⟨rfl, .inr (by rw [hp]; exact ⟨rfl, rfl, rfl, nofun⟩), fun _ _ => SlotRecord.sameFrozen_refl _⟩
  · cases h

theorem execSeal_moves {args : List Byte} {s t : State} (h : execSeal args s = .next t) : Moves s t := by
  cases h
  refine State.slotCommand_moves fun i t p h => ?_
  split at h
  · rename_i hp
    split at h
    · cases h
    · split at h <;> cases h
      exact (s.setPhase_moves i .sealed (.inr (by rw [hp]; exact ⟨rfl, rfl, rfl, nofun⟩))).trans (State.putSort_moves _ _)
  · cases h

/-- RELEASE seals a slot of a frozen phase and changes its grade result alone beside (R21). -/
theorem SlotRecord.turnsTo_releasedRun {r q : SlotRecord} (l : Lane) (h : r.releasedRun = some q) : r.TurnsTo q l := by
  have hseal {p : Phase} (hp : p.frozen = true) (hc : p.counts = true) : p.TurnsTo .sealed := .inr ⟨hc, rfl, hp.symm, nofun⟩
  unfold SlotRecord.releasedRun at h
  dsimp only at h
  split at h
  case h_1 hp =>
    split at h <;> cases h
    exact ⟨rfl, hp ▸ hseal rfl rfl, fun _ _ => SlotRecord.sameFrozen_refl _⟩
  case h_2 hp => cases h; exact ⟨rfl, hp ▸ hseal rfl rfl, fun _ _ => SlotRecord.sameFrozen_refl _⟩
  case h_3 hp => cases h; exact ⟨rfl, hp ▸ hseal rfl rfl, fun _ _ => SlotRecord.sameFrozen_refl _⟩
  all_goals cases h

theorem execRelease_moves {args : List Byte} {s t : State} (h : execRelease args s = .next t) : Moves s t := by
  cases h
  refine State.slotCommand_moves fun i t p h => ?_
  split at h <;> cases h
  rename_i r hr
  exact (s.modSlot_moves i (fun _ => r) (SlotRecord.turnsTo_releasedRun _ hr)).trans (State.putSort_moves _ _)

/-- A slot clear leaves the slot at rest (R8). -/
theorem State.slotClear_moves (s : State) (i : SlotId) : Moves s (s.slotClear i) := by
  rw [s.slotClear_eq]
  refine .of_move (.rest i (fun j hj => ?_) rfl ?_)
  · exact ⟨(State.slot_of_set rfl j).trans (if_neg hj.symm), (State.lane_of_set rfl j).trans (if_neg hj.symm), rfl⟩
  · rw [State.slot_of_set rfl i, if_pos rfl]; rfl

theorem execClearSlot_moves {args : List Byte} {s t : State} (h : execClearSlot args s = .next t) : Moves s t := by
  cases h
  exact State.slotCommand_moves fun i t p h => by cases h; exact s.slotClear_moves i

/-- START takes an idle slot whose ORPHANED flag is clear into BURN, with a new record (R10). -/
structure State.StartsTo (s t : State) (i : SlotId) : Prop where
  idle : (s.slot i).phase = .idle
  started : (t.slot i).phase = .burn ∧ (t.slot i).orphaned = false
  others : ∀ j, j ≠ i → t.slot j = s.slot j
  lanes : t.lanes = s.lanes
  presence : t.presence = s.presence
  size : t.sectorSize = s.sectorSize

theorem State.startRun_startsTo {s t : State} {i : SlotId} {seed : Word32} {g : Nat} {p : List Byte}
    (h : s.startRun i seed g = .ok t p) : s.StartsTo t i := by
  unfold State.startRun at h
  dsimp only at h
  split at h
  · rename_i hp
    split at h <;> cases h
    exact ⟨hp, by simp [SlotRecord.started, SlotRecord.initial], fun j hj => by simp [State.slot_modSlot_ne _ hj.symm], rfl, rfl, rfl⟩
  · cases h

theorem execStart_cases {args : List Byte} {s t : State} (h : execStart args s = .next t) : Moves s t ∨ ∃ i, s.StartsTo t i := by
  cases h
  obtain ⟨-, hc⟩ | ⟨-, -, hc⟩ | ⟨-, -, t, p, hr, hc⟩ | ⟨-, -, st, -, hc⟩ := s.command_cases _ <;> rw [hc]
  · exact .inl (.refl s)
  · exact .inl (s.answer_moves _ _)
  · split at hr
    · split at hr
      · rename_i i _
        obtain ⟨hidle, hstarted, hothers, hlanes, hpres, hsize⟩ := State.startRun_startsTo hr
        exact .inr ⟨i, hidle, hstarted, hothers, hlanes, hpres, hsize⟩
      · cases hr
    · cases hr
  · exact .inl (s.answer_moves _ _)

/-! ## Presence (R3 to R7) -/

theorem execRawPresenceChange_moves {i : SlotId} {level : Bool} {s t : State} (h : execRawPresenceChange i level s = .next t) :
    Moves s t := by
  have hset (iv : Option Time) : Moves s (s.setPresence i { s.presenceOf i with raw := level, interval := iv }) :=
    .of_move (.aside rfl (fun _ => .of_tags rfl) rfl (fun j => by
      rw [State.presenceOf_setPresence]
      split
      · rename_i hj; rw [hj]
      · rfl))
  cases h
  split
  · exact .refl s
  · split
    · exact hset _
    · exact hset _

/-- A state in which one slot alone has changed, and is EMPTY (R5 to R7). -/
structure State.Leaves (s t : State) (i : SlotId) : Prop where
  others : ∀ j, j ≠ i → t.slot j = s.slot j ∧ t.lane j = s.lane j
  empty : (t.slot i).phase = .empty
  presence : t.presence = s.presence
  size : t.sectorSize = s.sectorSize

theorem State.removedIdle_leaves (s : State) (i : SlotId) : s.Leaves (s.removedIdle i) i :=
  ⟨fun j hj => ⟨State.slot_modSlot_ne _ hj.symm _, s.lane_modLane_ne hj.symm _⟩, by simp [State.removedIdle], rfl, rfl⟩

theorem State.orphan_leaves (s : State) (i : SlotId) : s.Leaves (s.orphan i) i := by
  rw [s.orphan_eq]
  exact ⟨fun j hj => ⟨(State.slot_of_set rfl j).trans (if_neg hj.symm), (State.lane_of_set rfl j).trans (if_neg hj.symm)⟩,
    by rw [State.slot_of_set rfl i, if_pos rfl]; rfl, rfl, rfl⟩

theorem State.depart_leaves (s : State) (i : SlotId) (h : (s.presenceOf i).debounced = false) : s.Leaves (s.depart i) i := by
  rw [State.depart_eq]
  exact ⟨fun j hj => ⟨(State.slot_of_set rfl j).trans (if_neg hj.symm), (State.lane_of_set rfl j).trans (if_neg hj.symm)⟩,
    by rw [State.slot_of_set rfl i, if_pos rfl, h]; rfl, rfl, rfl⟩

/-- A slot whose presence is lost is EMPTY (R5 to R7). -/
theorem State.removed_leaves (s : State) (i : SlotId) (h : (s.presenceOf i).debounced = false) : s.Leaves (s.removed i) i := by
  unfold State.removed
  split
  case h_1 hp => exact ⟨fun _ _ => ⟨rfl, rfl⟩, hp, rfl, rfl⟩
  case h_2 => exact s.removedIdle_leaves i
  case h_3 =>
    split
    · exact s.depart_leaves i h
    · exact s.orphan_leaves i
  all_goals exact s.orphan_leaves i

/-- The debounced presence takes a level that differs from it (R3 to R7). -/
theorem State.debounced_moves (s : State) (i : SlotId) (h : (s.presenceOf i).raw ≠ (s.presenceOf i).debounced) :
    Moves s (s.debounced i) := by
  unfold State.debounced
  dsimp only
  refine Moves.trans ?_ (State.raise_moves _ _)
  cases hr : (s.presenceOf i).raw with
  | true =>
    rw [hr] at h
    exact .of_move (.gained s i _ (by simpa using h.symm) rfl)
  | false =>
    simp only [Bool.false_eq_true, if_false]
    have hpres := State.presenceOf_of_set (s := s) (i := i) (p := { raw := false, debounced := false, interval := none })
      (t := s.setPresence i { raw := false, debounced := false, interval := none }) rfl
    obtain ⟨hothers, hempty, hpresence, hsize⟩ :=
      (s.setPresence i { raw := false, debounced := false, interval := none }).removed_leaves i (by rw [hpres, if_pos rfl])
    have hp (j : SlotId) := (congrArg (fun v : Vector Presence 8 => v[j]) hpresence).trans (hpres j)
    refine .of_move (.rest i (fun j hj => ⟨(hothers j hj).1, (hothers j hj).2, (hp j).trans (if_neg hj.symm)⟩) hsize ?_)
    rw [hempty, State.presenceOf, hp i, if_pos rfl]
    rfl

theorem execDebounceEnd_moves {i : SlotId} {s t : State} (h : execDebounceEnd i s = .next t) : Moves s t := by
  cases h
  split
  · rename_i hd
    refine s.debounced_moves i ?_
    unfold State.debounceDue at hd
    split at hd
    · cases hd
    · simp only [Bool.and_eq_true, bne_iff_ne] at hd
      exact hd.1.2
  · exact .refl s

/-! ## The chamber line and the soak (R108 to R116) -/

theorem State.applyHold_moves (s : State) (i : SlotId) (p : Phase × Bool) (h : (s.slot i).phase.TurnsTo p.1) :
    Moves s (s.applyHold i p) := by
  unfold State.applyHold
  split
  · exact (s.setPhase_moves i _ h).trans (State.raise_moves _ _)
  · exact s.setPhase_moves i _ h

theorem State.takeEvent_moves (s : State) (e : LineEvent) : Moves s (s.takeEvent e) := by
  cases e with
  | byte b =>
    show Moves s (s.takeByte b)
    unfold State.takeByte
    split
    · split
      · exact .refl s
      · exact s.modChamber_moves _
    · split
      · exact s.modChamber_moves _
      · exact (s.modChamber_moves _).trans (Moves.forSlots (fun u i => u.applyHold_moves i _ (Phase.turnsTo_thermalCheck _ _ _)) _)
  | error =>
    show Moves s s.takeError
    unfold State.takeError
    split
    · exact s.modChamber_moves _
    · exact (s.modChamber_moves _).trans (State.raise_moves _ _)
  | lineBreak => exact s.modChamber_moves (fun c => { c with frame := Option.none, breaks := inc16 c.breaks })
  | markAfterBreak => exact .refl s

theorem execChamberByte_moves {levels : List Bool} {s t : State} (h : execChamberByte levels s = .next t) : Moves s t := by
  cases h
  exact State.hearLine_induct (P := Moves s) (fun u _ hu => hu.trans (u.modChamber_moves _))
    (fun u e hu => hu.trans (u.takeEvent_moves e)) s levels (.refl s)

theorem execChamberCharacterError_moves {s t : State} (h : execChamberCharacterError s = .next t) : Moves s t := by
  cases h
  split
  · split
    · exact .refl s
    · exact (s.modChamber_moves _).trans (State.takeEvent_moves _ .error)
  · exact .refl s

theorem execChamberBreak_moves {s t : State} (h : execChamberBreak s = .next t) : Moves s t := by
  cases h
  split
  · exact (s.modChamber_moves _).trans (State.takeEvent_moves _ .lineBreak)
  · exact .refl s

theorem execLineBreakClear_moves {s t : State} (h : execLineBreakClear s = .next t) : Moves s t := by
  cases h
  split
  · exact s.modChamber_moves _
  · exact .refl s

theorem State.expireStale_moves (s : State) : Moves s s.expireStale := (s.modChamber_moves _).trans (State.raise_moves _ _)

theorem execStaleTimerExpiry_moves {s t : State} (h : execStaleTimerExpiry s = .next t) : Moves s t := by
  cases h
  split
  · exact s.expireStale_moves
  · exact .refl s

/-- A soak tick counts in BURN and HOLD alone, and in HOLD no frozen field (R116). -/
theorem State.soakSlot_moves (s : State) (i : SlotId) : Moves s (s.soakSlot i) := by
  unfold State.soakSlot
  split
  case h_1 => exact s.modSlot_moves i _ (.of_phase rfl rfl (fun _ _ => SlotRecord.sameFrozen_refl _))
  case h_2 hp =>
    have hk (k : SoakBlock) : Moves s (s.modSlot i (fun r => { r with soak := k })) :=
      s.modSlot_moves i _ (.of_phase rfl rfl (fun hf => by simp [hp, Phase.frozen] at hf))
    dsimp only
    split
    · refine ((hk _).trans (State.setPhase_moves _ i _ (.inr ?_))).trans (State.raise_moves _ _)
      rw [State.slot_modSlot_self, hp]
      exact ⟨rfl, rfl, rfl, nofun⟩
    · exact hk _
  all_goals exact .refl s

theorem State.soakTimer_moves (s : State) (x : Option Time) : Moves s { s with soakTimer := x } :=
  .beside rfl rfl rfl rfl

theorem execSoakTick_moves {s t : State} (h : execSoakTick s = .next t) : Moves s t := by
  cases h
  split
  · exact (Moves.forSlots State.soakSlot_moves s).trans (State.soakTimer_moves _ _)
  · exact .refl s

/-! ## Grading and the sort port -/

theorem execGradeTake_moves {s t : State} (h : execGradeTake s = .next t) : Moves s t := by
  unfold execGradeTake at h
  split at h <;> cases h
  · exact .beside rfl rfl rfl rfl
  · exact .refl s
  · exact .refl s

theorem execGradeCompletion_moves {s t : State} (h : execGradeCompletion s = .next t) : Moves s t := by
  have hidle : Moves s { s with engine := none } := .beside rfl rfl rfl rfl
  unfold execGradeCompletion at h
  split at h <;> cases h
  · exact .refl s
  · rename_i c _
    unfold State.completeGrade
    dsimp only
    split
    · rename_i hc
      simp only [Bool.and_eq_true, beq_iff_eq] at hc
      refine ((hidle.trans (State.modSlot_moves _ c.slot _ ⟨rfl, .inr ?_, fun _ _ => SlotRecord.sameFrozen_refl _⟩)).trans
        (State.raise_moves _ _)).trans (State.raise_moves _ _)
      rw [show (State.slot { s with engine := none } c.slot).phase = .gradeWait from hc.2]
      exact ⟨rfl, rfl, rfl, nofun⟩
    · exact hidle

theorem execTakeAsserted_moves {s t : State} (h : execTakeAsserted s = .next t) : Moves s t := by
  have hsort (p : SortPort) : Moves s { s with sort := p } := .beside rfl rfl rfl rfl
  unfold execTakeAsserted at h
  split at h <;> cases h
  case h_1 => exact (hsort _).trans (State.modSlot_moves _ _ _ (.of_phase rfl rfl (fun _ _ => SlotRecord.sameFrozen_refl _)))
  all_goals exact hsort _

theorem State.stallOffer_moves (s : State) : Moves s s.stallOffer := .beside rfl rfl rfl rfl

theorem execFaultAsserted_moves {s t : State} (h : execFaultAsserted s = .next t) : Moves s t := by
  cases h
  have hfault : Moves s { s with sort := { s.sort with fault := true } } := .beside rfl rfl rfl rfl
  split
  · exact hfault.trans (State.stallOffer_moves _)
  · exact hfault

theorem execOfferTimerExpiry_moves {s t : State} (h : execOfferTimerExpiry s = .next t) : Moves s t := by
  cases h
  split
  · exact s.stallOffer_moves
  · exact .refl s

theorem execSortResume_moves {args : List Byte} {s t : State} (h : execSortResume args s = .next t) : Moves s t := by
  cases h
  refine State.plainCommand_moves fun t p h => ?_
  split at h <;> cases h
  exact s.putSort_moves _

/-! ## Captures, alerts, windows and profile -/

theorem execCaptureSet_moves {args : List Byte} {s t : State} (h : execCaptureSet args s = .next t) : Moves s t := by
  cases h
  refine State.command_moves fun t p h => ?_
  split at h
  · split at h
    · split at h <;> cases h
      exact s.putCapture_moves _
    · cases h
  · cases h

theorem execCaptureOpen_moves {args : List Byte} {s t : State} (h : execCaptureOpen args s = .next t) : Moves s t := by
  cases h
  refine State.command_moves fun t p h => ?_
  split at h
  · split at h <;> cases h
    exact s.putCapture_moves _
  · cases h

theorem execCaptureRead_moves {args : List Byte} {s t : State} (h : execCaptureRead args s = .next t) : Moves s t := by
  cases h
  refine State.plainCommand_moves fun t p h => ?_
  split at h <;> cases h
  exact .refl s

theorem execCaptureClose_moves {args : List Byte} {s t : State} (h : execCaptureClose args s = .next t) : Moves s t := by
  cases h
  exact State.plainCommand_moves fun t p h => by cases h; exact s.putCapture_moves _

theorem execAlertRead_moves {args : List Byte} {s t : State} (h : execAlertRead args s = .next t) : Moves s t := by
  cases h
  exact State.plainCommand_moves fun t p h => by cases h; exact .refl s

theorem execAlertAck_moves {args : List Byte} {s t : State} (h : execAlertAck args s = .next t) : Moves s t := by
  cases h
  refine State.command_moves fun t p h => ?_
  split at h <;> cases h
  exact .beside rfl rfl rfl rfl

theorem execAlertMask_moves {args : List Byte} {s t : State} (h : execAlertMask args s = .next t) : Moves s t := by
  cases h
  refine State.command_moves fun t p h => ?_
  split at h <;> cases h
  exact .beside rfl rfl rfl rfl

/-- A held ship's restart changes its ship state alone (R154). -/
theorem SlotRecord.turnsTo_shipRestarted (r : SlotRecord) (fill : Byte) (l : Lane) : r.TurnsTo (r.shipRestarted fill) l := by
  unfold SlotRecord.shipRestarted
  split <;> exact .of_phase rfl rfl (fun _ _ => SlotRecord.sameFrozen_refl _)

theorem execWindowWrite_moves {args : List Byte} {s t : State} (h : execWindowWrite args s = .next t) : Moves s t := by
  cases h
  refine State.command_moves fun t p h => ?_
  split at h
  · split at h
    · cases h
    · split at h
      · split at h <;> cases h
        rename_i n w _ _ _
        have hw : Moves s { s with windows := s.windows.set n w } := .beside rfl rfl rfl rfl
        refine hw.trans (Moves.forSlots (fun u i => ?_) _)
        split
        · exact u.modSlot_moves i _ (SlotRecord.turnsTo_shipRestarted _ _ _)
        · exact .refl u
      · cases h
  · cases h

theorem execWindowRead_moves {args : List Byte} {s t : State} (h : execWindowRead args s = .next t) : Moves s t := by
  cases h
  refine State.command_moves fun t p h => ?_
  split at h
  · split at h <;> cases h
    exact .refl s
  · cases h

theorem execTableWrite_moves {args : List Byte} {s t : State} (h : execTableWrite args s = .next t) : Moves s t := by
  cases h
  refine State.command_moves fun t p h => ?_
  split at h
  · split at h
    · split at h
      · split at h <;> cases h
        exact .beside rfl rfl rfl rfl
      · cases h
    · cases h
  · cases h

theorem State.itemTakesEffect_moves (s : State) (code old : Nat) : Moves s (s.itemTakesEffect code old) := by
  unfold State.itemTakesEffect
  split
  · unfold State.timeoutsLowered
    split
    · exact Moves.forSlots State.expireSlot_moves s
    · exact .refl s
  · split
    · exact s.modChamber_moves _
    · split
      · split
        · exact s.expireStale_moves
        · exact .refl s
      · split
        · split
          · exact s.stallOffer_moves
          · exact .refl s
        · exact .refl s

theorem State.setProfile_moves {s t : State} {code v : Nat} {p : List Byte} (h : s.setProfile code v = .ok t p) : Moves s t := by
  unfold State.setProfile at h
  split at h
  · cases h
  · split at h
    · cases h; exact .beside rfl rfl rfl rfl
    · split at h
      · cases h; exact s.putCapture_moves _
      · split at h
        · rename_i q _
          have hq : Moves s { s with profile := q } := .beside rfl rfl rfl rfl
          rw [← (Answer.ok.inj h).1]
          exact hq.trans (State.itemTakesEffect_moves _ _ _)
        · cases h

theorem execProfileSet_moves {args : List Byte} {s t : State} (h : execProfileSet args s = .next t) : Moves s t := by
  cases h
  refine State.command_moves fun t p h => ?_
  split at h
  · exact State.setProfile_moves h
  · cases h

/-! ## Queries -/

theorem execStatus_moves {args : List Byte} {s t : State} (h : execStatus args s = .next t) : Moves s t := by
  cases h
  split
  · exact .refl s
  · cases ha : plainCommand args (.ok s s.statusPayload) with
    | no st => exact s.answer_moves _ _
    | ok t p =>
      obtain ⟨-, h⟩ := plainCommand_ok ha
      cases h; exact s.answer_moves _ _

theorem execDefectRead_moves {args : List Byte} {s t : State} (h : execDefectRead args s = .next t) : Moves s t := by
  cases h
  refine State.command_moves fun t p h => ?_
  split at h
  · split at h
    · split at h <;> cases h
      exact .refl s
    · cases h
  · cases h

/-! ## Resets and reload -/

/-- A restart empties every slot (R2). -/
theorem State.restarted_moves (s : State) (records : Vector SlotRecord 8) (h : ∀ i : SlotId, records[i].phase = .empty) :
    Moves s (s.restarted records) :=
  .of_move (.reset rfl (fun i => ⟨h i, by
    show ((perSlot s.presenceRestarted)[i]).debounced = false
    rw [perSlot_get]; rfl⟩))

theorem execSoftReset_moves {args : List Byte} {s t : State} (h : execSoftReset args s = .next t) : Moves s t := by
  cases h
  refine State.plainCommand_moves fun t p h => ?_
  cases h
  exact s.restarted_moves _ (fun i => by rw [State.softRecords, perSlot_get]; rfl)

/-- A lane in bypass has no open entry (R45). -/
@[simp] theorem Lane.entry_bypass (l : Lane) (e : EntryId) : l.bypass.entry e = none := by simp [Lane.bypass]

/-- Lanes put in bypass, read back. -/
theorem State.lane_of_bypassed {s t : State} (h : t.lanes = s.lanesBypassed) (i : SlotId) : t.lane i = (s.lane i).bypass := by
  unfold State.lane; rw [h, State.lanesBypassed, perSlot_get]; rfl

theorem execProfileReload_moves {args : List Byte} {s t : State} (h : execProfileReload args s = .next t) : Moves s t := by
  cases h
  refine State.plainCommand_moves fun t p h => ?_
  split at h <;> cases h
  refine .of_move (.aside rfl (fun i => .of_closed (fun e => ?_)) rfl (fun _ => rfl))
  rw [s.lane_of_bypassed rfl, Lane.entry_bypass]

/-- A chip reset empties every slot, and sets the sector size beside (R2, R170). -/
theorem State.chipReset_moves (s : State) (asserted : Bool) (straps : Straps) :
    Moves { s with sectorSize := (s.chipReset asserted straps).sectorSize } (s.chipReset asserted straps) :=
  Moves.trans (t := { s with
      inReset := asserted, timebase := 0#32, straps := straps, sectorSize := strappedSize straps
      loaderResult := LoaderResult.initial, reply := { status := .notReady, payload := [] } })
    (.beside rfl rfl rfl rfl)
    (State.restarted_moves _ _ (fun i => by simp [SlotRecord.initial]))

/-- READY sets the sector size, and leaves the slots alone (R167). -/
theorem State.profileLoaded_moves (s : State) (kind : LoadKind) (eeprom : Option (List Byte)) :
    Moves { s with sectorSize := (s.profileLoaded kind eeprom).sectorSize } (s.profileLoaded kind eeprom) := by
  cases kind <;> exact .beside rfl rfl rfl rfl

/-! ## A whole step -/

/-- The three rows that set the sector size in force (R167, log entry 20). -/
def setsSectorSize : Instr → Prop
  | .chipReset => True
  | .chipResetRelease _ => True
  | .profileReady _ => True
  | _ => False

/-- Every command or event but a START and the rows that set the sector size is a sequence of moves. -/
theorem exec_moves {c : Instr} {s t : State} (h : exec c s = .next t) (hstart : ∀ args, c ≠ .start args)
    (hsize : ¬setsSectorSize c) : Moves s t := by
  cases c with
  | chipReset => exact absurd trivial hsize
  | chipResetRelease straps => exact absurd trivial hsize
  | profileReady eeprom => exact absurd trivial hsize
  | start args => exact absurd rfl (hstart args)
  | unknownCommand code args => cases h; exact State.command_moves fun _ _ h => by cases h
  | slotStatus args => cases h; exact s.slotQuery_moves args _
  | slotCounters args => cases h; exact s.slotQuery_moves args (fun s i => (s.slot i).countersPayload)
  | histogram args => cases h; exact s.slotQuery_moves args _
  | takeDeasserted => cases h; exact s.putSort_moves _
  | faultDeasserted => cases h; exact s.putSort_moves _
  | busyAsserted => cases h; exact .beside rfl rfl rfl rfl
  | busyDeasserted => cases h; exact s.putSort_moves _
  | profileSet args => exact execProfileSet_moves h
  | profileReload args => exact execProfileReload_moves h
  | softReset args => exact execSoftReset_moves h
  | status args => exact execStatus_moves h
  | defectRead args => exact execDefectRead_moves h
  | advancePass args => exact execAdvancePass_moves h
  | endBurn args => exact execEndBurn_moves h
  | pause args => exact execPause_moves h
  | resume args => exact execResume_moves h
  | grade args => exact execGrade_moves h
  | ship args => exact execShip_moves h
  | sealSlot args => exact execSeal_moves h
  | release args => exact execRelease_moves h
  | clearSlot args => exact execClearSlot_moves h
  | windowWrite args => exact execWindowWrite_moves h
  | windowRead args => exact execWindowRead_moves h
  | tableWrite args => exact execTableWrite_moves h
  | captureSet args => exact execCaptureSet_moves h
  | captureOpen args => exact execCaptureOpen_moves h
  | captureRead args => exact execCaptureRead_moves h
  | captureClose args => exact execCaptureClose_moves h
  | alertRead args => exact execAlertRead_moves h
  | alertAck args => exact execAlertAck_moves h
  | alertMask args => exact execAlertMask_moves h
  | sortResume args => exact execSortResume_moves h
  | rawPresenceChange i level => exact execRawPresenceChange_moves h
  | debounceEnd i => exact execDebounceEnd_moves h
  | commandFrame i f => exact execCommandFrame_moves h
  | pendingStatusSend i => exact execPendingStatusSend_moves h
  | dataSetupNotice i n => exact execDataSetupNotice_moves h
  | dataFrame i f => exact execDataFrame_moves h
  | successStatus i st => exact execSuccessStatus_moves h
  | errorStatus i r => exact execErrorStatus_moves h
  | commandTimeout i e => exact execCommandTimeout_moves h
  | driveLinkReset i => exact execDriveLinkReset_moves h
  | soakTick => exact execSoakTick_moves h
  | chamberByte levels => exact execChamberByte_moves h
  | chamberCharacterError => exact execChamberCharacterError_moves h
  | chamberBreak => exact execChamberBreak_moves h
  | lineBreakClear => exact execLineBreakClear_moves h
  | staleTimerExpiry => exact execStaleTimerExpiry_moves h
  | gradeTake => exact execGradeTake_moves h
  | gradeCompletion => exact execGradeCompletion_moves h
  | takeAsserted => exact execTakeAsserted_moves h
  | faultAsserted => exact execFaultAsserted_moves h
  | offerTimerExpiry => exact execOfferTimerExpiry_moves h

/-- Everything a command or event can do to the slots: a START, or moves, with the sector size set by the resets and READY alone. -/
theorem exec_cases {c : Instr} {s t : State} (h : exec c s = .next t) :
    (∃ i, s.StartsTo t i) ∨ Moves s t ∨ (setsSectorSize c ∧ Moves { s with sectorSize := t.sectorSize } t) := by
  cases c with
  | chipReset => cases h; exact .inr (.inr ⟨trivial, s.chipReset_moves true s.straps⟩)
  | chipResetRelease straps => cases h; exact .inr (.inr ⟨trivial, s.chipReset_moves false straps⟩)
  | profileReady eeprom =>
    rw [← Host.Outcome.next.inj h]
    split
    · exact .inr (.inl (.refl s))
    · split
      · exact .inr (.inl (.refl s))
      · exact .inr (.inr ⟨trivial, s.profileLoaded_moves _ eeprom⟩)
  | start args => exact (execStart_cases h).elim (fun hm => .inr (.inl hm)) .inl
  | _ => exact .inr (.inl (exec_moves h nofun not_false))

/-- Everything a step can do to the slots, with the state it starts from read up to what is beside them. -/
theorem step_cases {s t : State} (h : step s = .next t) : ∃ u : State, u.slots = s.slots ∧ u.lanes = s.lanes ∧
    u.presence = s.presence ∧ ((∃ i, u.StartsTo t i) ∨ Moves u t) := by
  have hexec {c : Instr} {u : State} (hc : exec c u = .next t)
      (hu : u.slots = s.slots ∧ u.lanes = s.lanes ∧ u.presence = s.presence) : ∃ u : State, u.slots = s.slots ∧ u.lanes = s.lanes ∧ u.presence = s.presence ∧
        ((∃ i, u.StartsTo t i) ∨ Moves u t) := by
    obtain ⟨hs, hl, hp⟩ := hu
    obtain hst | hm | ⟨-, hm⟩ := exec_cases hc
    · exact ⟨u, hs, hl, hp, .inl hst⟩
    · exact ⟨u, hs, hl, hp, .inr hm⟩
    · exact ⟨{ u with sectorSize := t.sectorSize }, hs, hl, hp, .inr hm⟩
  unfold step at h
  split at h
  · exact hexec h ⟨rfl, rfl, rfl⟩
  · split at h
    · rename_i c u ho
      obtain ⟨d, -, hd⟩ := Option.map_eq_some_iff.mp ho
      cases hd
      exact hexec h ⟨rfl, rfl, rfl⟩
    · cases h
      refine ⟨s, rfl, rfl, rfl, .inr ?_⟩
      unfold State.tick
      split
      · exact .refl s
      · exact .beside rfl rfl rfl rfl

end Sys2Proof.Machine
end

section
/-!
The invariants of the slot runs: every step keeps phase, presence, ORPHANED and hold causes consistent (R1, R4, R5, R7, R10, R15,
R16), and from GRADE to the end of the run the frozen fields stay (01_slot_runs.md 1.2, R17, R86, R117). Both are a case analysis
over the moves of a step.
-/
namespace Sys2Proof.Machine

/-! ## Phase, presence and ORPHANED -/

/-- What `State.phaseSafe` says of one slot record and its debounced presence. -/
structure SlotRecord.PhaseSafe (r : SlotRecord) (present : Bool) : Prop where
  presence : r.phase ≠ .empty ↔ present = true
  orphaned : r.orphaned = true → r.phase = .empty ∨ r.phase = .idle
  cause : ∀ p, r.phase ≠ .hold p false false

theorem State.phaseSafe_iff (s : State) : s.phaseSafe ↔ ∀ i, (s.slot i).PhaseSafe (s.presenceOf i).debounced :=
  forall_congr' fun _ => ⟨fun ⟨h1, h2, h3⟩ => ⟨h1, h2, h3⟩, fun ⟨h1, h2, h3⟩ => ⟨h1, h2, h3⟩⟩

/-- A phase that counts is neither EMPTY nor IDLE. -/
theorem Phase.counts_iff (p : Phase) : p.counts = true ↔ p ≠ .empty ∧ p ≠ .idle := by simp [Phase.counts]

/-- A record at rest is consistent: EMPTY where absent, IDLE where present. -/
theorem SlotRecord.PhaseSafe.of_rest {r : SlotRecord} {present : Bool} (h : r.phase = if present then .idle else .empty) :
    r.PhaseSafe present := by
  cases present with
  | false => exact ⟨by simp [h], fun _ => .inl (by simp [h]), fun p => by simp [h]⟩
  | true => exact ⟨by simp [h], fun _ => .inr (by simp [h]), fun p => by simp [h]⟩

/-- From a phase of a run to another a record stays consistent. -/
theorem SlotRecord.PhaseSafe.run {r q : SlotRecord} {present : Bool} (hr : r.PhaseSafe present) (ho : q.orphaned = r.orphaned)
    (hrc : r.phase.counts = true) (hqc : q.phase.counts = true)
    (hhold : ∀ a, q.phase = .hold a false false → ∃ b, r.phase = .hold b false false) : q.PhaseSafe present := by
  obtain ⟨hpresence, horphaned, hcause⟩ := hr
  rw [Phase.counts_iff] at hrc hqc
  refine ⟨iff_of_true hqc.1 (hpresence.mp hrc.1), fun hor => ?_, fun a ha => ?_⟩
  · exact absurd (horphaned (ho ▸ hor)) (by simp [hrc])
  · obtain ⟨b, hb⟩ := hhold a ha
    exact hcause b hb

/-- A turn within a run keeps a record consistent. -/
theorem SlotRecord.PhaseSafe.turn {r q : SlotRecord} {l : Lane} {present : Bool} (hr : r.PhaseSafe present)
    (h : r.TurnsTo q l) : q.PhaseSafe present := by
  obtain ⟨ho, hp | ⟨hrc, hqc, -, hhold⟩, -⟩ := h
  · exact ⟨by rw [hp]; exact hr.presence, by rw [hp, ho]; exact hr.orphaned, by rw [hp]; exact hr.cause⟩
  · exact hr.run ho hrc hqc hhold

/-- Every move keeps phase, presence, ORPHANED and hold causes consistent. -/
theorem Move.phaseSafe {s t : State} (h : Move s t) (hs : s.phaseSafe) : t.phaseSafe := by
  rw [State.phaseSafe_iff] at hs ⊢
  intro j
  have hj := hs j
  cases h with
  | aside slots _ _ present => rw [show t.slot j = s.slot j by rw [State.slot, slots, State.slot], present]; exact hj
  | turn i f hf =>
    rw [State.slot_modSlot]
    split
    · rename_i h; subst h; exact hj.turn hf
    · exact hj
  | lane i f _ => exact hj
  | queued i hp _ =>
    rw [State.slot_setPhase]
    split
    · rename_i h; subst h
      exact hj.run rfl (by rw [hp]; rfl) rfl nofun
    · exact hj
  | gained i p hd hp =>
    rw [State.presenceOf_setPhase, State.presenceOf_setPresence, State.slot_setPhase, State.slot_setPresence]
    split
    · rename_i h; subst h
      have hempty : (s.slot i).phase = .empty := by
        by_contra hne
        rw [hj.presence.mp hne] at hd
        cases hd
      exact .of_rest (by rw [hempty, hp]; rfl)
    · exact hj
  | rest i others _ atRest =>
    by_cases hi : j = i
    · subst hi; exact .of_rest atRest
    · obtain ⟨hslot, -, hpres⟩ := others j hi
      rw [hslot, hpres]; exact hj
  | reset _ empty => exact .of_rest (by rw [(empty j).1, (empty j).2]; rfl)

/-- START takes an idle slot into BURN, its ORPHANED flag clear (R10). -/
theorem State.StartsTo.phaseSafe {s t : State} {i : SlotId} (h : s.StartsTo t i) (hs : s.phaseSafe) : t.phaseSafe := by
  obtain ⟨hidle, ⟨hburn, horphaned⟩, hothers, -, hpresence, -⟩ := h
  rw [State.phaseSafe_iff] at hs ⊢
  intro j
  rw [show t.presenceOf j = s.presenceOf j by rw [State.presenceOf, hpresence, State.presenceOf]]
  by_cases hj : j = i
  · subst hj
    refine ⟨iff_of_true (by simp [hburn]) ((hs j).presence.mp (by simp [hidle])), fun ho => ?_, fun p => by simp [hburn]⟩
    simp [horphaned] at ho
  · rw [hothers j hj]; exact hs j

/-- What the slot records, lanes and presence alone decide. -/
theorem State.phaseSafe_congr {s u : State} (hs : u.slots = s.slots) (hp : u.presence = s.presence) (h : s.phaseSafe) :
    u.phaseSafe := by
  unfold State.phaseSafe State.slot State.presenceOf
  rw [hs, hp]
  exact h

/-- Settles O54, by cases on the moves of a step: each keeps the three conditions of the slot it moves. -/
theorem phaseInvariant : Obligations.PhaseInvariant := by
  intro s t hs h
  obtain ⟨u, hslots, -, hpresence, ⟨i, hstart⟩ | hmoves⟩ := step_cases h
  · exact hstart.phaseSafe (State.phaseSafe_congr hslots hpresence hs)
  · exact hmoves.induct (fun _ _ hm hu => hm.phaseSafe hu) (State.phaseSafe_congr hslots hpresence hs)

/-! ## Frozen fields -/

theorem SlotRecord.sameFrozen.trans {a b c : SlotRecord} (h : a.sameFrozen b) (g : b.sameFrozen c) : a.sameFrozen c := by
  obtain ⟨h0, h1, h2, h3, h4, h5, h6, h7, h8, h9⟩ := h
  obtain ⟨g0, g1, g2, g3, g4, g5, g6, g7, g8, g9⟩ := g
  exact ⟨h0.trans g0, h1.trans g1, h2.trans g2, h3.trans g3, h4.trans g4, h5.trans g5, h6.trans g6, h7.trans g7, h8.trans g8,
    h9.trans g9⟩

/-- A slot's record and lane after a part of a step that it began with the record `a`: in a frozen phase no test command is open,
and a slot that began in one is still in one with its frozen fields, or at rest. -/
structure SlotRecord.FrozenSince (a r : SlotRecord) (l : Lane) : Prop where
  untested : r.phase.frozen = true → l.untested
  kept : a.phase.frozen = true → (r.phase.frozen = true ∧ a.sameFrozen r) ∨ r.phase = .empty ∨ r.phase = .idle

/-- Every slot's record and lane since the state `s`. -/
def State.FrozenSince (s t : State) : Prop := ∀ i, (s.slot i).FrozenSince (t.slot i) (t.lane i)

theorem State.frozenSafe_iff (s : State) : s.frozenSafe ↔ ∀ i, (s.slot i).phase.frozen = true → (s.lane i).untested :=
  ⟨fun h i hf e t he => h i e t hf he, fun h i e t hf he => h i hf e t he⟩

theorem State.FrozenSince.refl {s : State} (h : s.frozenSafe) : s.FrozenSince s :=
  fun i => ⟨(s.frozenSafe_iff.mp h) i, fun hf => .inl ⟨hf, SlotRecord.sameFrozen_refl _⟩⟩

/-- A lane that opens no entry opens no test command. -/
theorem Lane.KeepsIssue.untested {l m : Lane} (h : l.KeepsIssue m) (hl : l.untested) : m.untested := by
  intro e t he
  obtain ⟨u, hu, hp⟩ := h e t he
  rw [← hp]; exact hl e u hu

/-- The slot's phase gives no test command in a frozen phase. -/
theorem Phase.name_isTest_of_frozen {p : Phase} (h : p.frozen = true) : p.name.isTest = false := by
  cases p with
  | burn | scan => cases h
  | _ => rfl

/-- A turn within a run keeps what a frozen slot began with. -/
theorem SlotRecord.FrozenSince.turn {a r q : SlotRecord} {l : Lane} (hr : a.FrozenSince r l) (h : r.TurnsTo q l) :
    a.FrozenSince q l := by
  obtain ⟨-, hphase, hsame⟩ := h
  have hfrozen : q.phase.frozen = r.phase.frozen := by
    obtain hp | ⟨-, -, hf, -⟩ := hphase
    · rw [hp]
    · exact hf
  refine ⟨fun hf => hr.untested (hfrozen ▸ hf), fun ha => ?_⟩
  obtain ⟨hf, hkept⟩ | hrest := hr.kept ha
  · exact .inl ⟨hfrozen ▸ hf, hkept.trans (hsame hf (hr.untested hf))⟩
  · obtain hp | ⟨hc, -⟩ := hphase
    · rw [hp]; exact .inr hrest
    · rw [Phase.counts_iff] at hc
      exact absurd hrest (by simp [hc])

/-- Every move keeps what the frozen slots began with. -/
theorem Move.frozenSince {s t u : State} (h : Move t u) (hs : s.FrozenSince t) : s.FrozenSince u := by
  intro j
  have hj := hs j
  cases h with
  | aside slots lanes _ _ =>
    rw [show u.slot j = t.slot j by rw [State.slot, slots, State.slot]]
    exact ⟨fun hf => (lanes j).untested (hj.untested hf), hj.kept⟩
  | turn i f hf =>
    rw [State.slot_modSlot, State.lane_modSlot]
    split
    · rename_i h; subst h
      exact hj.turn hf
    · exact hj
  | lane i f hf =>
    rw [State.slot_modLane, State.lane_modLane]
    refine ⟨fun hfrozen e x he => ?_, hj.kept⟩
    split at he
    · rename_i h; subst h
      obtain ⟨y, hy, hp⟩ | hp := hf e x he
      · rw [← hp]; exact hj.untested hfrozen e y hy
      · rw [hp]; exact Phase.name_isTest_of_frozen hfrozen
    · exact hj.untested hfrozen e x he
  | queued i hp hopen =>
    rw [State.slot_setPhase, State.lane_setPhase]
    split
    · rename_i h; subst h
      refine ⟨fun _ e x he => by simp [hopen e] at he, fun ha => ?_⟩
      have hkept := hj.kept ha
      simp [hp, Phase.frozen] at hkept
    · exact hj
  | gained i p hd hpres =>
    rw [State.slot_setPhase, State.lane_setPhase, State.slot_setPresence, State.slot_setPresence, State.lane_setPresence]
    split
    · rename_i h; subst h
      cases hp : (t.slot i).phase with
      | empty => exact ⟨nofun, fun _ => .inr (.inr rfl)⟩
      | _ =>
        rw [show ({ t.slot i with phase := Phase.gained _ } : SlotRecord) = t.slot i by rw [Phase.gained, ← hp]]
        exact hj
    · exact hj
  | rest i others _ atRest =>
    by_cases hi : j = i
    · subst hi
      have hrest : (u.slot j).phase = .empty ∨ (u.slot j).phase = .idle := by
        rw [atRest]; split <;> simp
      refine ⟨fun hf => ?_, fun _ => .inr hrest⟩
      obtain hp | hp := hrest <;> simp [hp, Phase.frozen] at hf
    · obtain ⟨hslot, hlane, -⟩ := others j hi
      rw [hslot, hlane]; exact hj
  | reset _ empty =>
    refine ⟨fun hf => ?_, fun _ => .inr (.inl (empty j).1)⟩
    simp [(empty j).1, Phase.frozen] at hf

/-- START takes a slot that is not frozen into BURN (R10). -/
theorem State.StartsTo.frozenSince {s t : State} {i : SlotId} (h : s.StartsTo t i) (hs : s.frozenSafe) : s.FrozenSince t := by
  obtain ⟨hidle, ⟨hburn, -⟩, hothers, hlanes, -, -⟩ := h
  intro j
  rw [show t.lane j = s.lane j by rw [State.lane, hlanes, State.lane]]
  by_cases hj : j = i
  · subst hj
    exact ⟨fun hf => by simp [hburn, Phase.frozen] at hf, fun hf => by simp [hidle, Phase.frozen] at hf⟩
  · rw [hothers j hj]; exact State.FrozenSince.refl hs j

/-- Settles O59, by cases on the moves of a step: no open test command means no count in a frozen field, and no command changes one
in a frozen phase. -/
theorem frozenFieldsInvariant : Obligations.FrozenFieldsInvariant := by
  intro s t hs h
  obtain ⟨u, hslots, hlanes, -, hu⟩ := step_cases h
  have hslot (i : SlotId) : u.slot i = s.slot i := by rw [State.slot, hslots, State.slot]
  have hlane (i : SlotId) : u.lane i = s.lane i := by rw [State.lane, hlanes, State.lane]
  have hsafe : u.frozenSafe := fun i => by rw [hslot, hlane]; exact hs i
  have hsince : u.FrozenSince t := by
    obtain ⟨i, hstart⟩ | hmoves := hu
    · exact hstart.frozenSince hsafe
    · exact hmoves.induct (fun _ _ hm hv => hm.frozenSince hv) (State.FrozenSince.refl hsafe)
  exact ⟨(State.frozenSafe_iff t).mpr fun i => (hsince i).untested, fun i => hslot i ▸ (hsince i).kept⟩

/-! ## The state after a reset -/

@[simp] theorem State.slot_reset (i : SlotId) : State.reset.slot i = SlotRecord.initial 0 := by simp [State.slot, State.reset]
@[simp] theorem State.presenceOf_reset (i : SlotId) : State.reset.presenceOf i = { raw := false, debounced := false, interval := none } := by
  simp [State.presenceOf, State.reset]
@[simp] theorem State.lane_reset (i : SlotId) : State.reset.lane i = Lane.initial := by simp [State.lane, State.reset]
@[simp] theorem Lane.entry_initial (e : EntryId) : Lane.initial.entry e = none := by simp [Lane.entry, Lane.initial]

theorem State.reset_poolSafe : State.reset.poolSafe := by
  refine ⟨by decide, by decide, by decide, fun i => ?_⟩
  rw [State.slot_reset, State.lane_reset]
  exact ⟨Nat.zero_le _, ⟨rfl, rfl, by decide⟩, nofun⟩

theorem State.reset_countsSafe : State.reset.countsSafe := by
  refine ⟨fun i => ?_, by unfold CaptureUnit.countsInRange; decide, ⟨by decide, fun i h hv => ?_⟩, fun i e t he => ?_⟩
  · rw [State.slot_reset]
    unfold SlotRecord.countsInRange; decide
  · have hnone : ∀ i : SlotId, State.reset.chamber.readings[i] = .none := by decide
    rw [hnone i] at hv; cases hv
  · simp at he

/-- Settles O60: each invariant is read off the values of State.reset. -/
theorem resetMeetsInvariants : Obligations.ResetMeetsInvariants := by
  refine ⟨⟨rfl, nofun⟩, by unfold Profile.inRange; decide, by decide, State.reset_poolSafe, ?_, fun i => ?_, ⟨nofun, nofun, fun _ _ => ⟨rfl, rfl⟩⟩,
    ⟨List.nodup_nil, nofun, nofun⟩, ⟨List.nodup_nil, nofun, nofun, nofun⟩, State.reset_countsSafe, fun i e t hf => ?_⟩
  · exact (State.phaseSafe_iff _).mpr fun i => .of_rest (by rw [State.slot_reset, State.presenceOf_reset]; rfl)
  · rw [State.lane_reset]; exact ⟨nofun, nofun⟩
  · rw [State.slot_reset] at hf; cases hf

end Sys2Proof.Machine
end

section
/-!
Chip reset, soft reset and the reload of the profile (R2, R165, R167, R169, R170): what each block holds afterwards.
-/
namespace Sys2Proof.Machine

/-! ## What a restart leaves -/

theorem perSlot_const {α : Type} {f : SlotId → α} {a : α} (h : ∀ i, f i = a) : perSlot f = Vector.replicate 8 a := by
  simp only [perSlot, h]; rfl

/-- The presences of a restart, read back. -/
@[simp] theorem State.presenceOf_restarted (s : State) (records : Vector SlotRecord 8) (i : SlotId) :
    (s.restarted records).presenceOf i = s.presenceRestarted i := perSlot_get _ i

@[simp] theorem State.lane_restarted (s : State) (records : Vector SlotRecord 8) (i : SlotId) :
    (s.restarted records).lane i = (s.lane i).bypass := perSlot_get _ i

/-- A restart sets every block to its reset values, the slot records to those given (R2, R45, R59, R101, R119, R145). -/
theorem State.restarted_blocksReset (s : State) (records : Vector SlotRecord 8) (shipped : SlotId → Nat)
    (h : ∀ i : SlotId, records[i] = SlotRecord.initial (shipped i)) : (s.restarted records).blocksReset shipped := by
  refine ⟨h, fun i => ?_, fun i => ?_, rfl, rfl, rfl, rfl, rfl, rfl, rfl, rfl, rfl, rfl, rfl, rfl, rfl⟩
  · rw [State.presenceOf_restarted]; rfl
  · rw [State.lane_restarted]
    exact ⟨fun e => Lane.entry_bypass _ e, rfl, rfl, rfl⟩

/-- Out of reset the debouncer of each followed slot restarts from its raw input (R2, R3). -/
theorem State.presenceRestarted_interval (s : State) (i : SlotId) (h : s.inReset = false) :
    (s.presenceRestarted i).interval =
      if (s.presenceOf i).raw = true ∧ ¬(s.straps.slots4 = true ∧ 4 ≤ i.val) then some s.timebase else none := by
  cases hs : s.straps.slots4 <;> simp [State.presenceRestarted, State.followed, State.strappedOff, h, hs]

/-- In reset no interval runs (R3). -/
theorem State.presenceRestarted_interval_inReset (s : State) (i : SlotId) (h : s.inReset = true) :
    (s.presenceRestarted i).interval = none := by simp [State.presenceRestarted, State.followed, h]

/-- A lane with nothing waiting is put in bypass as after a reset (R25, R45). -/
theorem Lane.bypass_of_nothing_waiting {l : Lane} (h : l.upstream = []) : l.bypass = Lane.initial := by
  simp [Lane.bypass, Lane.forgotten, Lane.dropPending, Lane.waitingDrive, Lane.initial, h]

/-! ## Chip reset -/

/-- The release of a chip reset with every pin low and nothing waiting to go upstream is State.reset (log entry 1). -/
theorem State.chipReset_eq_reset {s : State} (hp : s.pending = []) (ht : s.tieCount = 0)
    (hraw : ∀ i, (s.presenceOf i).raw = false) (hup : ∀ i, (s.lane i).upstream = [])
    (htake : s.sort.take = false) (hbusy : s.sort.busy = false) (hfault : s.sort.fault = false) :
    s.chipReset false lowStraps = State.reset := by
  have hlanes : s.lanesBypassed = Vector.replicate 8 Lane.initial :=
    perSlot_const fun i => Lane.bypass_of_nothing_waiting (hup i)
  have hpres (u : State) (hu : ∀ i, u.presenceOf i = s.presenceOf i) : perSlot u.presenceRestarted =
      Vector.replicate 8 { raw := false, debounced := false, interval := none } :=
    perSlot_const fun i => by simp [State.presenceRestarted, hu, hraw]
  simp only [State.chipReset, State.restarted, State.reset, State.mk.injEq, hp, ht, htake, hbusy, hfault, true_and, and_true]
  exact ⟨rfl, hpres _ (fun _ => rfl), hlanes⟩

/-- Every block at its chip-reset values, at both edges (R170). -/
theorem State.chipReset_blocksReset (s : State) (asserted : Bool) (straps : Straps) :
    (s.chipReset asserted straps).blocksReset (fun _ => 0) :=
  State.restarted_blocksReset _ _ _ (fun i => by simp)

theorem State.bypassed_of_loading {s : State} (h : s.loader ≠ .ready) (i : SlotId) : s.bypassed i = true := by
  simp [State.bypassed, State.isLoading, h]

/-- Settles O4: both edges are one restart, read block by block. -/
theorem chipResetSetsEveryBlock : Obligations.ChipResetSetsEveryBlock := by
  refine ⟨fun s hp ht hraw hup htake hbusy hfault =>
    congrArg Host.Outcome.next (State.chipReset_eq_reset hp ht hraw hup htake hbusy hfault), fun s straps => ?_⟩
  refine ⟨s.chipReset true s.straps, s.chipReset false straps, rfl, rfl, fun v hv => ?_, ⟨rfl, rfl, fun _ => rfl, fun i => ?_⟩,
    ⟨rfl, rfl, fun a => ?_, fun i => ?_⟩⟩
  · have hedge : ∃ asserted st, v = s.chipReset asserted st := hv.elim (fun h => ⟨_, _, h⟩) (fun h => ⟨_, _, h⟩)
    obtain ⟨asserted, st, rfl⟩ := hedge
    exact ⟨s.chipReset_blocksReset _ _, rfl, rfl, rfl, rfl, rfl, State.bypassed_of_loading nofun,
      fun i => by rw [State.chipReset, State.presenceOf_restarted]; rfl, ⟨rfl, rfl, rfl⟩, rfl, rfl⟩
  · rw [State.chipReset, State.presenceOf_restarted]
    exact State.presenceRestarted_interval_inReset _ i rfl
  · simp [State.acknowledges, State.chipReset, State.restarted]
  · rw [State.chipReset, State.presenceOf_restarted]
    exact State.presenceRestarted_interval _ i rfl

/-! ## Soft reset and reload -/

/-- A command out of reset and of a load, by what it answers (R159). -/
theorem State.command_ok {s : State} (h : s.ready) {rule : State → Answer} {t : State} {p : List Byte} (hr : rule s = .ok t p) :
    s.command rule = t.answer .ok p := by rw [s.command_ready rule h.1 h.2, hr]; rfl

theorem State.command_no {s : State} (h : s.ready) {rule : State → Answer} {st : Status} (hr : rule s = .no st) :
    s.command rule = s.answer st [] := by rw [s.command_ready rule h.1 h.2, hr]; rfl

theorem State.allAtRest_iff (s : State) : s.allAtRest = true ↔ ∀ i, (s.slot i).phase = .empty ∨ (s.slot i).phase = .idle := by
  have hall : ∀ i : SlotId, i ∈ allSlots := by decide
  simp [State.allAtRest, Phase.counts, hall, or_iff_not_imp_left]

/-- Of all commands only the resets and READY set the sector size (R167). -/
theorem exec_sectorSize {c : Instr} {s t : State} (hc : ¬setsSectorSize c) (h : exec c s = .next t) : t.sectorSize = s.sectorSize := by
  obtain ⟨i, hstart⟩ | hmoves | ⟨hsize, -⟩ := exec_cases h
  · exact hstart.size
  · exact hmoves.sectorSize
  · exact absurd hsize hc

theorem LineReceiver.afresh_eq (r : LineReceiver) : r.afresh = if r = .inBreak then .inBreak else .waiting false := by
  obtain ⟨h, ha⟩ | ⟨h, ha⟩ := r.afresh_cases
  · rw [ha, if_pos h]
  · rw [ha, if_neg h]

/-- Settles O5: the sector size by the moves of a command, the rest by a restart's blocks and the reload's fields. -/
theorem softResetAndProfileReload : Obligations.SoftResetAndProfileReload := by
  refine ⟨fun c s t hreset hrelease hready h => exec_sectorSize (fun hc => ?_) h, fun s hs => ⟨?_, fun hrest => ?_, ?_⟩⟩
  · unfold setsSectorSize at hc
    split at hc
    · exact hreset rfl
    · exact hrelease _ rfl
    · exact hready _ rfl
    · exact hc
  · have hrun : exec (.softReset []) s = .next ((s.restarted s.softRecords).answer .ok []) :=
      congrArg Host.Outcome.next (State.command_ok hs rfl)
    refine ⟨_, hrun, ?_, rfl, rfl, ⟨rfl, rfl, rfl, hs.1, rfl⟩, fun i => ?_, ⟨rfl, rfl, rfl⟩, rfl, rfl⟩
    · exact s.restarted_blocksReset s.softRecords _ (perSlot_get _)
    · rw [State.presenceOf_answer, State.presenceOf_restarted]
      exact ⟨rfl, s.presenceRestarted_interval i hs.1⟩
  · have hrun : exec (.profileReload []) s = .next (s.reloading.answer .ok []) :=
      congrArg Host.Outcome.next (State.command_ok hs (by simp [plainCommand, s.allAtRest_iff.mpr hrest]))
    refine ⟨_, hrun, fun i => ?_, ?_⟩
    · rw [State.lane_answer, s.lane_of_bypassed (t := s.reloading) rfl]
      exact ⟨State.bypassed_of_loading (by simp [State.reloading]) i, fun e => Lane.entry_bypass _ e, rfl, rfl, rfl⟩
    · rw [← LineReceiver.afresh_eq]; rfl
  · rintro ⟨i, hempty, hidle⟩
    have hbusy : s.allAtRest = false := by
      rw [← Bool.not_eq_true, s.allAtRest_iff]
      exact fun h => (h i).elim hempty hidle
    exact congrArg Host.Outcome.next (State.command_no hs (by simp [plainCommand, hbusy]))

end Sys2Proof.Machine
end

section
/-!
The ten phase commands (R8 to R21), outside reset and load: what each answers, by its rule on the slot it names.
-/
namespace Sys2Proof.Machine

/-! ## Slot commands -/

/-- A slot command that its rule takes. -/
theorem State.slotCommand_taken {s t : State} {i : SlotId} {p : List Byte} {rule : State → SlotId → Answer} (hs : s.ready)
    (h : rule s i = .ok t p) : (s.command fun s => slotCommand [slotByte i] (rule s)) = t.answer .ok p :=
  State.command_ok hs ((slotCommand_slot i (rule s)).trans h)

/-- A slot command that its rule turns away. -/
theorem State.slotCommand_refused {s : State} {i : SlotId} {st : Status} {rule : State → SlotId → Answer} (hs : s.ready)
    (h : rule s i = .no st) : (s.command fun s => slotCommand [slotByte i] (rule s)) = s.answer st [] :=
  State.command_no hs ((slotCommand_slot i (rule s)).trans h)

/-- A slot number above 7 answers RANGE (R9). -/
theorem State.slotCommand_range {s : State} {b : Byte} (hs : s.ready) (hb : 8 ≤ b.toNat) (rule : State → SlotId → Answer) :
    (s.command fun s => slotCommand [b] (rule s)) = s.answer .range [] :=
  State.command_no hs (by simp [slotCommand, (slotArg_eq_none b).mpr hb])

/-! ## START (R10) -/

theorem toNat_append_byte {w : Nat} (x : BitVec w) (b : Byte) : (x ++ b).toNat = x.toNat * 256 + b.toNat := by
  rw [BitVec.toNat_append, ← Nat.shiftLeft_add_eq_or_of_lt b.isLt, Nat.shiftLeft_eq]

/-- Four bytes, least significant first, are the word they spell. -/
theorem wordOf_le (n : Nat) : (BitVec.ofNat 8 (n / 256 / 256 / 256) ++ BitVec.ofNat 8 (n / 256 / 256) ++ BitVec.ofNat 8 (n / 256) ++
    BitVec.ofNat 8 n : Word32) = BitVec.ofNat 32 n := by
  apply BitVec.eq_of_toNat_eq
  simp only [toNat_append_byte, BitVec.toNat_ofNat]
  omega

/-- START of a slot, with the seed and G that its bytes spell. -/
theorem execStart_slot (s : State) (i : SlotId) (seed g : Nat) : execStart (slotByte i :: le 4 seed ++ le 2 g) s =
    .next (s.command fun s => s.startRun i (BitVec.ofNat 32 seed) (g % 65536)) := by
  have hg : fromLe [BitVec.ofNat 8 g, BitVec.ofNat 8 (g / 256)] = g % 65536 := fromLe_le 2 g
  simp [execStart, le, slotByte, wordOf_le, hg]

theorem execStart_range {s : State} (hs : s.ready) {b : Byte} (hb : 8 ≤ b.toNat) (seed g : Nat) :
    execStart (b :: le 4 seed ++ le 2 g) s = .next (s.answer .range []) :=
  congrArg Host.Outcome.next (State.command_no hs (by simp [le, (slotArg_eq_none b).mpr hb]))

theorem State.startRun_ok {s : State} {i : SlotId} (seed : Word32) (g : Nat) (hp : (s.slot i).phase = .idle)
    (ho : (s.slot i).orphaned = false) (hv : (s.slot i).identity.valid = true) :
    s.startRun i seed g = .ok ((s.returnExtents i).modSlot i (·.started seed g)) [] := by simp [State.startRun, hp, ho, hv]

theorem State.startRun_refused {s : State} {i : SlotId} (seed : Word32) (g : Nat)
    (h : (s.slot i).phase ≠ .idle ∨ (s.slot i).orphaned = true ∨ (s.slot i).identity.valid = false) :
    s.startRun i seed g = .no .refused := by
  unfold State.startRun
  dsimp only
  split
  · rename_i hp
    rw [if_pos (by simpa [hp] using h)]
  · rfl

/-! ## The withdrawal of a notice (R138, R143) -/

/-- The port with a slot's notice taken from the queue and from the handshake. -/
theorem SortPort.withdrawn_eq (p : SortPort) (i : SlotId) : p.withdrawn i = { p with
    queue := p.queue.filter (fun n => n.slot ≠ i)
    handshake := match p.handshake with
      | .idle => .idle
      | .offer b => if p.queue.head?.any (fun n => n.slot == i) then .idle else .offer b
      | .release n queued => .release n (queued && !p.queue.head?.any (fun n => n.slot == i))
      | .stalled => .stalled } := by
  have hhead : p.headIs i = p.queue.head?.any (fun n => n.slot == i) := by
    unfold SortPort.headIs; split <;> rename_i hq <;> simp [hq]
  have hfilter : (fun n : Notice => n.slot != i) = fun n => decide (n.slot ≠ i) := by
    funext n; by_cases h : n.slot = i <;> simp [h]
  cases h : p.handshake <;> simp only [SortPort.withdrawn, SortPort.withdrawHandshake, h, hhead, hfilter]

/-- The conditions of an offer, one by one (R138). -/
theorem SortPort.mayOffer_iff (p : SortPort) : p.mayOffer = true ↔
    p.handshake = .idle ∧ p.queue ≠ [] ∧ p.take = false ∧ p.busy = false ∧ p.fault = false := by
  simp only [SortPort.mayOffer, Bool.and_eq_true, beq_iff_eq, Bool.not_eq_true', List.isEmpty_eq_false_iff]
  tauto

theorem SortPort.offering_eq (p : SortPort) (now : Time) : p.offering now =
    if p.handshake = .idle ∧ p.queue ≠ [] ∧ p.take = false ∧ p.busy = false ∧ p.fault = false then
      { p with handshake := .offer now } else p := by
  unfold SortPort.offering
  simp only [p.mayOffer_iff]

/-- The port after a withdrawal: as it was without a notice of the slot, else with the notice gone and the next head offered where
R138 allows it. -/
theorem State.sortWithdrawn_eq (s : State) (i : SlotId) : s.sortWithdrawn i =
    if s.sort.queue.any (fun n => n.slot == i) = false then s.sort
    else if (s.sort.withdrawn i).handshake = .idle ∧ (s.sort.withdrawn i).queue ≠ [] ∧ (s.sort.withdrawn i).take = false ∧
        (s.sort.withdrawn i).busy = false ∧ (s.sort.withdrawn i).fault = false then
      { s.sort.withdrawn i with handshake := .offer s.timebase }
    else s.sort.withdrawn i := by
  unfold State.sortWithdrawn SortPort.holds
  rw [SortPort.offering_eq]
  cases s.sort.queue.any (fun n => n.slot == i) <;> rfl

/-- Settles O19: START by its rule, CLEAR_SLOT by the fields of a slot clear. -/
theorem startAndClearSlot : Obligations.StartAndClearSlot := by
  refine ⟨fun s i seed g hs hg hp ho hv => ?_, fun s i hs => ?_⟩
  · refine (execStart_slot s i seed.toNat g).trans (congrArg Host.Outcome.next ?_)
    rw [State.command_ok hs (State.startRun_ok _ _ hp ho hv), BitVec.ofNat_toNat, BitVec.setWidth_eq, Nat.mod_eq_of_lt hg]
    rfl
  · have hrun : exec (.clearSlot [slotByte i]) s = .next ((s.slotClear i).answer .ok []) :=
      congrArg Host.Outcome.next (State.slotCommand_taken (rule := fun s i => .ok (s.slotClear i) []) hs rfl)
    rw [s.slotClear_eq] at hrun
    refine ⟨_, hrun, rfl, ?_, fun j hj => ⟨?_, ?_⟩, ?_, ?_, rfl, ?_, rfl, rfl⟩
    · exact (State.slot_of_set rfl i).trans (if_pos rfl)
    · exact (State.slot_of_set rfl j).trans (if_neg hj.symm)
    · exact (State.lane_of_set rfl j).trans (if_neg hj.symm)
    · rw [State.lane_answer, State.lane_of_set rfl i, if_pos rfl]
      exact ⟨fun e => Lane.entry_forgotten _ e, rfl, rfl, rfl⟩
    · exact List.filter_congr fun j _ => by by_cases h : j = i <;> simp [h]
    · have hsort := s.sortWithdrawn_eq i
      rw [SortPort.withdrawn_eq] at hsort
      exact hsort

end Sys2Proof.Machine
end

section
/-!
ADVANCE_PASS to RELEASE (R11 to R21): each where it is taken, and where it is turned away.
-/
namespace Sys2Proof.Machine

/-! ## The rules of the commands that change one slot's phase or pass -/

theorem State.advancePass_taken {s : State} (hs : s.ready) {i : SlotId} (hp : (s.slot i).phase.advances = true)
    (h : (s.slot i).pass ≠ 65535) : execAdvancePass [slotByte i] s =
      .next ((s.modSlot i (fun r => { r with pass := r.pass + 1 })).answer .ok []) :=
  congrArg Host.Outcome.next (State.slotCommand_taken hs (by rw [if_pos hp]; exact if_neg h))

theorem State.advancePass_range {s : State} (hs : s.ready) {i : SlotId} (hp : (s.slot i).phase.advances = true)
    (h : (s.slot i).pass = 65535) : execAdvancePass [slotByte i] s = .next (s.answer .range []) :=
  congrArg Host.Outcome.next (State.slotCommand_refused hs (by rw [if_pos hp]; exact if_pos h))

/-- A command that changes the phase where its rule gives a new one. -/
theorem State.phaseChange_taken {s : State} (hs : s.ready) {i : SlotId} {q : Phase} {f : Phase → Option Phase}
    (h : f (s.slot i).phase = some q) :
    (s.command fun s => slotCommand [slotByte i] fun i => s.phaseChange i (f (s.slot i).phase)) = (s.setPhase i q).answer .ok [] :=
  State.slotCommand_taken (rule := fun s i => s.phaseChange i (f (s.slot i).phase)) hs (by rw [h]; rfl)

theorem State.phaseChange_refused {s : State} (hs : s.ready) {i : SlotId} {f : Phase → Option Phase}
    (h : f (s.slot i).phase = none) :
    (s.command fun s => slotCommand [slotByte i] fun i => s.phaseChange i (f (s.slot i).phase)) = s.answer .refused [] :=
  State.slotCommand_refused (rule := fun s i => s.phaseChange i (f (s.slot i).phase)) hs (by rw [h]; rfl)

theorem Phase.pause_active (a : ActivePhase) : a.phase.pause = some (.hold a true false) := by cases a <;> rfl

theorem Phase.resume_hold (a : ActivePhase) (m th : Bool) :
    (Phase.hold a m th).resume = some (if th then .hold a false true else a.phase) := by cases th <;> rfl

/-- The phases in which ADVANCE_PASS is taken (R11). -/
theorem Phase.advances_iff (p : Phase) : p.advances = true ↔
    p.name = .burn ∨ p.name = .scan ∨ ∃ m th, p = .hold .burn m th ∨ p = .hold .scan m th := by
  cases p with
  | hold a m th => cases a <;> simp [Phase.advances, Phase.name]
  | _ => simp [Phase.advances, Phase.name]

/-- Settles O20: each command's rule on the phase the slot is in. -/
theorem passAndHoldCommands : Obligations.PassAndHoldCommands := by
  intro s i hs
  refine ⟨fun hp => ⟨fun h => ?_, fun h => ?_⟩, fun hp => ?_, fun m th hp => ?_, fun a hp => ?_, fun a m th hp => ⟨?_, ?_⟩⟩
  · exact State.advancePass_taken hs ((Phase.advances_iff _).mpr hp) h
  · exact State.advancePass_range hs ((Phase.advances_iff _).mpr hp) h
  · exact congrArg Host.Outcome.next (State.phaseChange_taken hs (by rw [hp]; rfl))
  · exact congrArg Host.Outcome.next (State.phaseChange_taken hs (by rw [hp]; rfl))
  · exact congrArg Host.Outcome.next (State.phaseChange_taken hs (by rw [hp, Phase.pause_active]))
  · exact congrArg Host.Outcome.next (State.phaseChange_taken hs (by rw [hp]; rfl))
  · exact congrArg Host.Outcome.next (State.phaseChange_taken hs (by rw [hp, Phase.resume_hold]))

/-! ## GRADE, SHIP and SEAL -/

theorem State.hasOpen_iff (s : State) (i : SlotId) : s.hasOpen i = true ↔ ∃ e, (s.lane i).entry e ≠ none := by
  rw [← Bool.not_eq_false, State.hasOpen_eq_false, not_forall]

/-- The rule of GRADE (R17). -/
theorem execGrade_scan {s : State} (hs : s.ready) {i : SlotId} (hp : (s.slot i).phase = .scan) :
    execGrade [slotByte i] s = .next (if s.hasOpen i then s.answer .busy []
      else ({ s.setPhase i .gradeWait with gradeQueue := s.gradeQueue ++ [i] } : State).answer .ok []) := by
  refine congrArg Host.Outcome.next ?_
  cases ho : s.hasOpen i with
  | true => exact State.slotCommand_refused hs (by rw [if_pos hp]; exact if_pos ho)
  | false => exact State.slotCommand_taken hs (by rw [if_pos hp]; exact if_neg (by simp [ho]))

/-- The lowest-numbered window that meets a test. -/
theorem lowestWindow_eq_some {ws : Vector Window 16} {test : Window → Bool} {k : Fin 16} :
    lowestWindow ws test = some k ↔ test ws[k] = true ∧ ∀ j, j < k → test ws[j] = false := by
  have hlist : allSixteen = List.finRange 16 := by decide
  unfold lowestWindow
  rw [hlist, List.find?_eq_some_iff_getElem]
  constructor
  · rintro ⟨hk, n, hn, hget, hbelow⟩
    refine ⟨hk, fun j hj => ?_⟩
    rw [List.getElem_finRange] at hget
    subst hget
    have := hbelow j.val hj
    simpa using this
  · rintro ⟨hk, hbelow⟩
    refine ⟨hk, k.val, by simp, by simp, fun j hj => ?_⟩
    have hj16 : j < 16 := hj.trans k.isLt
    simpa using hbelow ⟨j, hj16⟩ hj

theorem lowestWindow_eq_none {ws : Vector Window 16} {test : Window → Bool} :
    lowestWindow ws test = none ↔ ∀ k : Fin 16, test ws[k] = false := by
  have hall : ∀ k : Fin 16, k ∈ allSixteen := by decide
  simp [lowestWindow, hall]

/-- A RECORD window covers a slot with a resolved range: enabled, in its mask, resolving (R49, R53). -/
def Window.recordsFor (w : Window) (i : SlotId) (id : Identity) (first last : Nat) : Prop :=
  w.enabled = true ∧ w.mask.getLsbD i.val = true ∧ w.action = .record ∧ w.resolve id = some (first, last)

theorem Window.coverage_eq_some {w : Window} {i : SlotId} {id : Identity} {range : Nat × Nat} :
    w.coverage i id = some range ↔ w.enabled = true ∧ w.mask.getLsbD i.val = true ∧ w.resolve id = some range := by
  unfold Window.coverage Window.applies
  cases w.enabled <;> cases w.mask.getLsbD i.val <;> simp

/-- The test of R53 for the record window. -/
theorem Window.recordTest_iff (w : Window) (i : SlotId) (id : Identity) :
    (w.action == .record && (w.coverage i id).isSome) = true ↔ ∃ first last, w.recordsFor i id first last := by
  rw [Bool.and_eq_true, beq_iff_eq, Option.isSome_iff_exists, Prod.exists]
  simp only [Window.coverage_eq_some, Window.recordsFor]
  constructor
  · rintro ⟨ha, x, y, he, hm, hr⟩; exact ⟨x, y, he, hm, ha, hr⟩
  · rintro ⟨x, y, he, hm, ha, hr⟩; exact ⟨ha, x, y, he, hm, hr⟩

/-- The record region is the range of the lowest-numbered RECORD window that covers the slot (R53). -/
theorem recordRegion_eq_some {ws : Vector Window 16} {i : SlotId} {id : Identity} {k : Fin 16} {first last : Nat}
    (hk : ws[k].recordsFor i id first last) (hbelow : ∀ j, j < k → ∀ x y, ¬ws[j].recordsFor i id x y) :
    recordRegion ws i id = some (first, last) := by
  have hlowest : recordWindow ws i id = some k := lowestWindow_eq_some.mpr
    ⟨(Window.recordTest_iff _ i id).mpr ⟨_, _, hk⟩, fun j hj => by
      rw [← Bool.not_eq_true, Window.recordTest_iff]
      rintro ⟨x, y, h⟩
      exact hbelow j hj x y h⟩
  obtain ⟨he, hm, -, hr⟩ := hk
  rw [recordRegion, hlowest]
  exact Window.coverage_eq_some.mpr ⟨he, hm, hr⟩

theorem recordRegion_eq_none {ws : Vector Window 16} {i : SlotId} {id : Identity}
    (h : ∀ k : Fin 16, ∀ x y, ¬ws[k].recordsFor i id x y) : recordRegion ws i id = none := by
  have hnone : recordWindow ws i id = none := lowestWindow_eq_none.mpr fun k => by
    rw [← Bool.not_eq_true, Window.recordTest_iff]
    rintro ⟨x, y, hk⟩
    exact h k x y hk
  rw [recordRegion, hnone]; rfl

/-- The number of record sectors as R148 gives it. -/
theorem State.recordSectors_eq (s : State) (i : SlotId) : s.recordSectors i =
    (64 + 16 * (s.slot i).defects.extents.length + 4 + (s.sectorSize.bytes - 1)) / s.sectorSize.bytes := by
  unfold State.recordSectors recordSectorCount shipRecordLength
  cases s.sectorSize <;> rfl

/-- The rule of SHIP with a bin other than REJECT (R19). -/
theorem execShip_graded {s : State} (hs : s.ready) {i : SlotId} (hp : (s.slot i).phase = .graded)
    (hb : (s.slot i).rejected = false) :
    execShip [slotByte i] s = .next (if s.hasOpen i then s.answer .busy [] else if s.regionFits i then
      (s.modSlot i (fun r => { r with phase := .ship, ship := ShipState.emptied s.profile.shipFill })).answer .ok []
      else s.answer .refused []) := by
  refine congrArg Host.Outcome.next ?_
  cases ho : s.hasOpen i with
  | true => exact State.slotCommand_refused hs (by simp [hp, hb, ho])
  | false =>
    cases hr : s.regionFits i with
    | true => exact State.slotCommand_taken hs (by simp [hp, hb, ho, hr])
    | false => exact State.slotCommand_refused hs (by simp [hp, hb, ho, hr])

theorem SlotRecord.rejected_eq_false (r : SlotRecord) (h : ∀ g, r.grade = some g → g.bin ≠ .reject) : r.rejected = false := by
  unfold SlotRecord.rejected
  cases hg : r.grade with
  | none => rfl
  | some g => simpa using h g hg

/-- SEAL may be taken: every record sector in both sets and nothing bad (R20). -/
def SlotRecord.sealable (r : SlotRecord) (n : Nat) : Prop :=
  (∀ k < n, r.ship.written.getLsbD k = true ∧ r.ship.verified.getLsbD k = true) ∧ r.ship.bad = 0

theorem SlotRecord.sealable_iff (r : SlotRecord) (n : Nat) :
    (allRecordsVerified n r.ship && decide (r.ship.bad = 0)) = true ↔ r.sealable n := by
  simp [allRecordsVerified, SlotRecord.sealable]

/-- The rule of SEAL (R20). -/
theorem execSeal_ship {s : State} (hs : s.ready) {i : SlotId} (hp : (s.slot i).phase = .ship) :
    execSeal [slotByte i] s = .next (if s.hasOpen i then s.answer .busy []
      else if allRecordsVerified (s.recordSectors i) (s.slot i).ship && (s.slot i).ship.bad = 0 then
        ((s.setPhase i .sealed).postNotice i).answer .ok []
      else s.answer .refused []) := by
  refine congrArg Host.Outcome.next ?_
  cases ho : s.hasOpen i with
  | true => exact State.slotCommand_refused hs (by simp [hp, ho])
  | false =>
    cases hr : allRecordsVerified (s.recordSectors i) (s.slot i).ship && decide ((s.slot i).ship.bad = 0) with
    | true => exact State.slotCommand_taken hs (by simp only [hp, ho, hr, if_true, if_false, Bool.false_eq_true])
    | false => exact State.slotCommand_refused hs (by simp only [hp, ho, hr, if_true, if_false, Bool.false_eq_true])

/-- A posted notice joins the tail, and an idle port with its inputs low offers (R136, R138). -/
theorem State.postNotice_eq (s : State) (i : SlotId) : s.postNotice i = { s with sort := { s.sort with
    queue := s.sort.queue ++ [{ slot := i, bin := (s.slot i).grade.map (·.bin) }]
    handshake := if s.sort.handshake = .idle ∧ s.sort.take = false ∧ s.sort.busy = false ∧ s.sort.fault = false
      then .offer s.timebase else s.sort.handshake } } := by
  unfold State.postNotice State.putSort
  rw [SortPort.offering_eq]
  by_cases h : s.sort.handshake = .idle ∧ s.sort.take = false ∧ s.sort.busy = false ∧ s.sort.fault = false
  · simp [h]
  · simp only [ne_eq, List.append_eq_nil_iff, List.cons_ne_self, and_false, not_false_eq_true, true_and]
    rw [if_neg h, if_neg h]

/-- Settles O21: each rule, with the record region and the record sectors as the manual gives them. -/
theorem gradeShipSeal : Obligations.GradeShipSeal := by
  intro s i hs
  have hopen {x y : State} (h : ∃ e, (s.lane i).entry e ≠ none) : (if s.hasOpen i then x else y) = x :=
    if_pos ((s.hasOpen_iff i).mpr h)
  have hclosed {x y : State} (h : ¬∃ e, (s.lane i).entry e ≠ none) : (if s.hasOpen i then x else y) = y :=
    if_neg (fun ho => h ((s.hasOpen_iff i).mp ho))
  refine ⟨fun hp => ⟨fun ho => ?_, fun ho => ?_⟩, fun hp hb => ⟨fun ho => ?_, fun ho hnone => ?_, fun ho first last hregion => ?_⟩,
    fun hp => ⟨fun ho => ?_, fun ho hno => ?_, fun ho hyes => ?_⟩⟩
  · exact (execGrade_scan hs hp).trans (congrArg _ (hopen ho))
  · exact (execGrade_scan hs hp).trans (congrArg _ (hclosed ho))
  · exact (execShip_graded hs hp (SlotRecord.rejected_eq_false _ hb)).trans (congrArg _ (hopen ho))
  · have hfits : s.regionFits i = false := by
      rw [State.regionFits, recordRegion_eq_none hnone]
    refine (execShip_graded hs hp (SlotRecord.rejected_eq_false _ hb)).trans (congrArg _ ((hclosed ho).trans ?_))
    rw [hfits]; rfl
  · obtain ⟨k, hk, hbelow⟩ := hregion
    have hfits : s.regionFits i = decide (s.recordSectors i ≤ last - first + 1) := by
      rw [State.regionFits, recordRegion_eq_some hk hbelow]; rfl
    rw [State.recordSectors_eq] at hfits
    have hrun := (execShip_graded hs hp (SlotRecord.rejected_eq_false _ hb)).trans (congrArg _ (hclosed ho))
    rw [hfits] at hrun
    refine ⟨fun hlt => hrun.trans (congrArg _ ?_), fun hle => hrun.trans (congrArg _ ?_)⟩
    · rw [if_neg (by simpa using hlt)]; rfl
    · rw [if_pos (by simpa using hle)]; rfl
  · exact (execSeal_ship hs hp).trans (congrArg _ (hopen ho))
  · rw [← State.recordSectors_eq] at hno
    refine (execSeal_ship hs hp).trans (congrArg _ ((hclosed ho).trans (if_neg ?_)))
    rwa [SlotRecord.sealable_iff]
  · rw [← State.recordSectors_eq] at hyes
    have hrun := (execSeal_ship hs hp).trans (congrArg _ ((hclosed ho).trans (if_pos ((SlotRecord.sealable_iff _ _).mpr hyes))))
    rw [State.postNotice_eq, State.slot_setPhase, if_pos rfl] at hrun
    exact ⟨_, hrun, rfl, rfl, rfl⟩

/-! ## RELEASE (R21) -/

/-- RELEASE where it is taken: the record sealed, then its notice posted. -/
theorem execRelease_taken {s : State} (hs : s.ready) {i : SlotId} {r : SlotRecord} (h : (s.slot i).releasedRun = some r) :
    execRelease [slotByte i] s = .next (((s.modSlot i (fun _ => r)).postNotice i).answer .ok []) :=
  congrArg Host.Outcome.next (State.slotCommand_taken hs (by rw [h]))

/-- The grade result that RELEASE leaves (R21). -/
def GradeResult.released (g : GradeResult) (p : Phase) : GradeResult :=
  if p = .graded then g else { score := g.score, bin := .reject, reason := .shipAbandoned }

/-- The record that RELEASE leaves: sealed, its bin REJECT. -/
theorem SlotRecord.releasedRun_eq {r : SlotRecord} {g : GradeResult} (hg : r.grade = some g)
    (h : (r.phase = .graded ∧ g.bin = .reject) ∨ r.phase = .ship ∨ ∃ m th, r.phase = .hold .ship m th) :
    r.releasedRun = some { r with phase := .sealed, grade := some (g.released r.phase) } ∧ (g.released r.phase).bin = .reject := by
  obtain ⟨hp, hb⟩ | hp | ⟨m, th, hp⟩ := h
  · have hreject : r.rejected = true := by simp [SlotRecord.rejected, hg, hb]
    have hsame : g.released r.phase = g := if_pos hp
    rw [hsame]
    refine ⟨?_, hb⟩
    unfold SlotRecord.releasedRun
    rw [hp, ← hg]
    exact if_pos hreject
  · have hrej : g.released r.phase = { score := g.score, bin := .reject, reason := .shipAbandoned } := if_neg (by simp [hp])
    rw [hrej]
    unfold SlotRecord.releasedRun
    rw [hp, hg]
    exact ⟨rfl, rfl⟩
  · have hrej : g.released r.phase = { score := g.score, bin := .reject, reason := .shipAbandoned } := if_neg (by simp [hp])
    rw [hrej]
    unfold SlotRecord.releasedRun
    rw [hp, hg]
    exact ⟨rfl, rfl⟩

/-- Settles O22: the record RELEASE leaves, and the notice it posts. -/
theorem releaseSealsAsReject : Obligations.ReleaseSealsAsReject := by
  intro s i g hs hg hp
  obtain ⟨hrun, hbin⟩ := SlotRecord.releasedRun_eq hg hp
  have hexec := execRelease_taken hs hrun
  rw [State.postNotice_eq, State.slot_modSlot_self] at hexec
  exact ⟨_, hexec, congrArg (fun bin => s.sort.queue ++ [{ slot := i, bin := some bin }]) hbin, rfl, rfl⟩

/-! ## Commands turned away (R9) -/

theorem Phase.endBurn_eq_none {p : Phase} (h : p ≠ .burn) (hh : ∀ m th, p ≠ .hold .burn m th) : p.endBurn = none := by
  cases p with
  | burn => exact absurd rfl h
  | hold a m th => cases a with
    | burn => exact absurd rfl (hh m th)
    | scan | ship => rfl
  | _ => rfl

theorem Phase.pause_eq_none {p : Phase} (h : p = .empty ∨ p = .idle ∨ p = .gradeWait ∨ p = .graded ∨ p = .sealed) :
    p.pause = none := by
  obtain rfl | rfl | rfl | rfl | rfl := h <;> rfl

theorem Phase.resume_eq_none {p : Phase} (h : p.name ≠ .hold) : p.resume = none := by
  cases p with
  | hold a m th => exact absurd rfl h
  | _ => rfl

theorem Phase.advances_eq_false {p : Phase} (hb : p ≠ .burn) (hs : p ≠ .scan) (hhb : ∀ m th, p ≠ .hold .burn m th)
    (hhs : ∀ m th, p ≠ .hold .scan m th) : p.advances = false := by
  cases p with
  | burn => exact absurd rfl hb
  | scan => exact absurd rfl hs
  | hold a m th => cases a with
    | burn => exact absurd rfl (hhb m th)
    | scan => exact absurd rfl (hhs m th)
    | ship => rfl
  | _ => rfl

theorem SlotRecord.rejected_iff (r : SlotRecord) : r.rejected = true ↔ r.grade.map (·.bin) = some .reject := beq_iff_eq

theorem SlotRecord.releasedRun_eq_none {r : SlotRecord} (hs : r.phase ≠ .ship) (hh : ∀ m th, r.phase ≠ .hold .ship m th)
    (hg : ¬(r.phase = .graded ∧ r.grade.map (·.bin) = some .reject)) : r.releasedRun = none := by
  unfold SlotRecord.releasedRun
  dsimp only
  split
  case h_1 hp => exact if_neg fun hr => hg ⟨hp, r.rejected_iff.mp hr⟩
  case h_2 hp => exact absurd hp hs
  case h_3 m th hp => exact absurd hp (hh m th)
  all_goals rfl

/-- Settles O23: each rule on a phase, slot number or bin that it does not take. -/
theorem phaseCommandsTurnedAway : Obligations.PhaseCommandsTurnedAway := by
  intro s hs
  refine ⟨fun b hb => ?_, fun i => ⟨fun h seed g => ?_, fun hb hsc hhb hhs => ?_, fun hb hhb => ?_, fun h => ?_, fun h => ?_, fun h => ?_,
    fun h => ?_, fun h => ?_, fun ⟨hship, hhold, hgraded⟩ => ?_⟩⟩
  · have hrange (rule : State → SlotId → Answer) :=
      congrArg (Host.Outcome.next (φ := Fault) (ρ := Refusal)) (State.slotCommand_range hs hb rule)
    exact ⟨execStart_range hs hb, hrange _, hrange _, hrange _, hrange _, hrange _, hrange _, hrange _, hrange _, hrange _⟩
  · exact (execStart_slot s i seed g).trans (congrArg _ (State.command_no hs (State.startRun_refused _ _ h)))
  · exact congrArg _ (State.slotCommand_refused hs (if_neg (by simp [Phase.advances_eq_false hb hsc hhb hhs])))
  · exact congrArg _ (State.phaseChange_refused hs (Phase.endBurn_eq_none hb hhb))
  · exact congrArg _ (State.phaseChange_refused hs (Phase.pause_eq_none h))
  · exact congrArg _ (State.phaseChange_refused hs (Phase.resume_eq_none h))
  · exact congrArg _ (State.slotCommand_refused hs (if_neg h))
  · refine congrArg _ (State.slotCommand_refused hs ?_)
    split
    · rename_i hp
      exact if_pos ((SlotRecord.rejected_iff _).mpr (h.resolve_left (fun hn => hn hp)))
    · rfl
  · exact congrArg _ (State.slotCommand_refused hs (if_neg h))
  · exact congrArg _ (State.slotCommand_refused hs (by rw [SlotRecord.releasedRun_eq_none hship hhold hgraded]))

end Sys2Proof.Machine
end

section
/-!
Presence events (R3 to R7), and the take and completion of a grade (R18, R124 to R126).
-/
namespace Sys2Proof.Machine

/-! ## Alert flags (R163) -/

theorem AlertFlag.bit_lt (f : AlertFlag) : f.bit < 17 := by
  cases f with
  | slotAttn i => exact Nat.add_lt_add_left i.isLt 9
  | _ => decide

/-- The flag of a bit (Table 12-1). -/
def AlertFlag.ofBit (n : Nat) : AlertFlag :=
  if h : n - 9 < 8 ∧ 9 ≤ n then .slotAttn ⟨n - 9, h.1⟩
  else [.captureNew, .stagedLost, .unmatched, .chamberStale, .chamberLine, .sortStalled, .gradeDone, .mispull].getD n .loaderDone

theorem AlertFlag.ofBit_bit (f : AlertFlag) : AlertFlag.ofBit f.bit = f := by
  cases f with
  | slotAttn i =>
    have hi : (AlertFlag.slotAttn i).bit - 9 = i.val := Nat.add_sub_cancel_left 9 i.val
    have hle : 9 ≤ (AlertFlag.slotAttn i).bit := Nat.le_add_right 9 i.val
    simp [AlertFlag.ofBit, hi, hle]
  | _ => rfl

theorem AlertFlag.bit_inj {f g : AlertFlag} : f.bit = g.bit ↔ f = g :=
  ⟨fun h => by rw [← f.ofBit_bit, h, g.ofBit_bit], congrArg _⟩

/-- Of the flags of an alert set joined with one flag. -/
theorem AlertFlag.getLsbD_or_set (a : BitVec 17) (f g : AlertFlag) :
    (a ||| f.set).getLsbD g.bit = (a.getLsbD g.bit || decide (g = f)) := by
  have hbit : f.set.getLsbD g.bit = decide (g = f) := by
    have hf := f.bit_lt
    have hg := g.bit_lt
    rw [Bool.eq_iff_iff, decide_eq_true_iff, ← AlertFlag.bit_inj]
    simp only [AlertFlag.set, BitVec.getLsbD_shiftLeft, BitVec.getLsbD_one, Bool.and_eq_true, decide_eq_true_eq, Bool.not_eq_true',
      decide_eq_false_iff_not]
    omega
  rw [BitVec.getLsbD_or, hbit]

/-- A raised flag is set, and the others are as they were. -/
theorem State.alertSet_raise (s : State) (f g : AlertFlag) : (s.raise f).alertSet g = (s.alertSet g || decide (g = f)) :=
  AlertFlag.getLsbD_or_set _ _ _

/-! ## Presence (R3 to R7) -/

theorem State.followed_of {s : State} {i : SlotId} (h : s.inReset = false) (hs : ¬(s.straps.slots4 = true ∧ 4 ≤ i.val)) :
    s.followed i = true := by
  cases hb : s.straps.slots4 <;> simp [State.followed, State.strappedOff, h, hb] at hs ⊢
  exact hs

/-- A followed contact that changes takes its level (R3). -/
theorem execRawPresenceChange_followed {s : State} {i : SlotId} {level : Bool} (hf : s.followed i = true)
    (h : (s.presenceOf i).raw ≠ level) : execRawPresenceChange i level s = .next (s.setPresence i
      { s.presenceOf i with
        raw := level, interval := if level = (s.presenceOf i).debounced then none else some s.timebase }) := by
  simp [execRawPresenceChange, h, hf]

/-- An interval of 100 ms ends with the level still changed (R3). -/
theorem execDebounceEnd_due {s : State} {i : SlotId} {began : Time} (hf : s.followed i = true)
    (hi : (s.presenceOf i).interval = some began) (he : 100000 ≤ s.elapsed began)
    (hr : (s.presenceOf i).raw ≠ (s.presenceOf i).debounced) : execDebounceEnd i s = .next (s.debounced i) := by
  have hdue : s.debounceDue i = true := by simp [State.debounceDue, hi, hf, hr, Config.debounceTime, he]
  simp [execDebounceEnd, hdue]

/-- Presence gained: the slot goes from EMPTY to IDLE (R4). -/
theorem State.debounced_gained {s : State} {i : SlotId} (hr : (s.presenceOf i).raw = true) : s.debounced i =
    State.raise ((s.setPresence i { raw := true, debounced := true, interval := none }).setPhase i (s.slot i).phase.gained)
      (.slotAttn i) := by
  unfold State.debounced
  dsimp only
  rw [hr]
  rfl

/-- Presence lost (R5 to R7). -/
theorem State.debounced_lost {s : State} {i : SlotId} (hr : (s.presenceOf i).raw = false) : s.debounced i =
    State.raise ((s.setPresence i { raw := false, debounced := false, interval := none }).removed i) (.slotAttn i) := by
  unfold State.debounced
  dsimp only
  rw [hr]
  rfl

theorem State.removed_idle {s : State} {i : SlotId} (h : (s.slot i).phase = .idle) : s.removed i = s.removedIdle i := by
  simp [State.removed, h]

theorem State.removed_departing {s : State} {i : SlotId} (h : (s.slot i).phase = .sealed) (hs : (s.slot i).sorted = true) :
    s.removed i = s.depart i := by simp [State.removed, h, hs]

theorem State.removed_orphan {s : State} {i : SlotId} (he : (s.slot i).phase ≠ .empty) (hi : (s.slot i).phase ≠ .idle)
    (hs : ¬((s.slot i).phase = .sealed ∧ (s.slot i).sorted = true)) : s.removed i = s.orphan i := by
  unfold State.removed
  split
  case h_1 hp => exact absurd hp he
  case h_2 hp => exact absurd hp hi
  case h_3 hp => exact if_neg fun hsorted => hs ⟨hp, hsorted⟩
  all_goals rfl

/-- The blocks that a presence event may change beside presence, before SLOT_ATTN: slot, lane, grade and sort work, free extents and
MISPULL, and of the other slots nothing. -/
structure State.PresenceEffect (s v : State) (i : SlotId) : Prop where
  others : ∀ j, j ≠ i → v.slot j = s.slot j ∧ v.lane j = s.lane j
  alerts : v.alerts = s.alerts ∨ v.alerts = s.alerts ||| AlertFlag.mispull.set
  frame : v = { s with
    presence := v.presence, slots := v.slots, lanes := v.lanes, gradeQueue := v.gradeQueue, engine := v.engine
    sort := v.sort, freeExtents := v.freeExtents, alerts := v.alerts }

theorem State.removed_effect (s : State) (i : SlotId) (h : (s.presenceOf i).debounced = false) :
    s.PresenceEffect (s.removed i) i := by
  have horphan : s.PresenceEffect (s.orphan i) i := by
    refine ⟨(s.orphan_leaves i).others, ?_, by rw [s.orphan_eq]⟩
    rw [s.orphan_eq]
    cases s.sort.holds i
    · exact .inl rfl
    · exact .inr rfl
  unfold State.removed
  split
  case h_1 => exact ⟨fun _ _ => ⟨rfl, rfl⟩, .inl rfl, rfl⟩
  case h_2 => exact ⟨(s.removedIdle_leaves i).others, .inl rfl, rfl⟩
  case h_3 =>
    split
    · exact ⟨(s.depart_leaves i h).others, .inl (by rw [s.depart_eq]), by rw [s.depart_eq]⟩
    · exact horphan
  all_goals exact horphan

/-- What every DEBOUNCE_END that is due leaves: the presence, SLOT_ATTN, and the frame of its effect. -/
theorem State.debounced_effect (s : State) (i : SlotId) : ∃ v, s.debounced i = v.raise (.slotAttn i) ∧ s.PresenceEffect v i ∧
    v.presence = s.presence.set i { raw := (s.presenceOf i).raw, debounced := (s.presenceOf i).raw, interval := none } := by
  cases hr : (s.presenceOf i).raw with
  | true =>
    exact ⟨_, State.debounced_gained hr, ⟨fun j hj => ⟨State.slot_modSlot_ne _ hj.symm _, rfl⟩, .inl rfl, rfl⟩, rfl⟩
  | false =>
    have habsent : ((s.setPresence i { raw := false, debounced := false, interval := none }).presenceOf i).debounced = false := by
      rw [State.presenceOf_of_set rfl i, if_pos rfl]
    obtain ⟨hothers, halerts, hframe⟩ := State.removed_effect _ i habsent
    exact ⟨_, State.debounced_lost hr, ⟨hothers, halerts, hframe⟩, (State.removed_leaves _ i habsent).presence⟩

/-- The shipped counter of a departure as R6 gives it. -/
theorem SlotRecord.shippedOff_shipped (r : SlotRecord) : r.shippedOff.shipped =
    if r.grade.isSome ∧ r.grade.map (·.bin) ≠ some .reject then min (r.shipped + 1) 65535 else r.shipped := by
  unfold SlotRecord.shippedOff
  cases hg : r.grade with
  | none => simp
  | some g => by_cases hb : g.bin = .reject <;> simp [hb, inc16, satAdd, max16]

/-- The slots other than one, filtered by the Boolean test and by the proposition. -/
theorem filter_ne (l : List SlotId) (i : SlotId) : l.filter (· != i) = l.filter (fun j => j ≠ i) :=
  List.filter_congr fun j _ => by by_cases h : j = i <;> simp [h]

/-- Settles O24: the change of a contact by its rule; a debounced level by the effect that every presence event has, and the record,
lane and work that each kind leaves. -/
theorem presenceEvents : Obligations.PresenceEvents := by
  refine ⟨fun s i level hr hs h => execRawPresenceChange_followed (State.followed_of hr hs) h, fun s i began hr hs hi he hraw => ?_⟩
  have hrun := execDebounceEnd_due (State.followed_of hr hs) hi he hraw
  have hsort := s.sortWithdrawn_eq i
  rw [SortPort.withdrawn_eq] at hsort
  obtain ⟨v, hv, ⟨hothers, halerts, hframe⟩, hpresence⟩ := s.debounced_effect i
  refine ⟨_, hrun, ?_, ?_, fun j hj => ?_, fun g hg hm => ?_, ?_, fun hraw hp => ?_, fun hraw hp => ?_, fun hraw hp hsorted => ?_,
    fun hraw hne hni hns => ?_⟩
  · rw [hv]; exact hpresence
  · rw [hv, State.alertSet_raise]; simp
  · rw [hv]; exact hothers j hj
  · rw [hv, State.alertSet_raise, decide_eq_false hg, Bool.or_false]
    obtain h | h := halerts
    · rw [State.alertSet, h, State.alertSet]
    · rw [State.alertSet, h, AlertFlag.getLsbD_or_set, decide_eq_false hm, Bool.or_false, State.alertSet]
  · rw [hv]; exact congrArg (State.raise · (.slotAttn i)) hframe
  · rw [State.debounced_gained hraw, hp]; rfl
  · rw [State.debounced_lost hraw, State.removed_idle (show ((s.setPresence i _).slot i).phase = .idle from hp)]
    refine ⟨?_, ?_, rfl⟩
    · rw [State.slot_raise, State.slot_of_set rfl i, if_pos rfl]
      rfl
    · exact (State.lane_of_set rfl i).trans (if_pos rfl)
  · rw [State.debounced_lost hraw, State.removed_departing (show ((s.setPresence i _).slot i).phase = .sealed from hp) hsorted,
      State.depart_eq]
    refine ⟨?_, ⟨?_, filter_ne _ i, rfl, hsort⟩, rfl, ?_⟩
    · rw [State.slot_raise, State.slot_of_set rfl i, if_pos rfl, State.presenceOf_of_set rfl i, if_pos rfl,
        ← SlotRecord.shippedOff_shipped]
      rfl
    · exact (State.lane_of_set rfl i).trans (if_pos rfl)
    · rw [State.alertSet_raise]; exact Bool.or_false _
  · rw [State.debounced_lost hraw, State.removed_orphan (s := s.setPresence i _) hne hni hns, State.orphan_eq]
    refine ⟨?_, ⟨?_, filter_ne _ i, rfl, hsort⟩, rfl, ?_⟩
    · rw [State.slot_raise, State.slot_of_set rfl i, if_pos rfl, List.countP_eq_length_filter]
      rfl
    · exact (State.lane_of_set rfl i).trans (if_pos rfl)
    · rw [State.alertSet_raise, decide_eq_false (by nofun), Bool.or_false]
      show BitVec.getLsbD (if s.sort.holds i then s.alerts ||| AlertFlag.mispull.set else s.alerts) _ = _
      rw [← SortPort.holds]
      cases s.sort.holds i with
      | false => exact (Bool.or_false _).symm
      | true => exact AlertFlag.getLsbD_or_set _ _ _

end Sys2Proof.Machine
end

section
/-!
The take and the completion of a grade (R18, R124 to R126).
-/
namespace Sys2Proof.Machine

/-- Settles O49: the take by its definition; the completion by the void mark and the slot's phase. -/
theorem gradeTakeAndCompletion : Obligations.GradeTakeAndCompletion := by
  refine ⟨fun s i rest he hq => ?_, fun s c hc => ⟨fun hv hp => ?_, fun h => ?_⟩⟩
  · simp only [exec, execGradeTake, he, hq]
    rfl
  · have hstore : s.completeGrade c = ({ s with engine := none } : State).storeGrade c.slot c.inputs.answer := by
      simp [State.completeGrade, hv, hp]
    simp only [exec, execGradeCompletion, hc, hstore]
    rfl
  · have hdrop : s.completeGrade c = { s with engine := none } := by
      unfold State.completeGrade
      exact if_neg fun hboth => by obtain h | h := h <;> simp [h] at hboth
    simp only [exec, execGradeCompletion, hc, hdrop]

end Sys2Proof.Machine
end

section
/-!
Command frames on a drive link (R22, R27, R28, R40): opening, collision, withholding, and the statuses that wait.
-/
namespace Sys2Proof.Machine

/-! ## One slot record and one lane replaced -/

/-- The state with a slot's record and its lane replaced: all that a frame of the slot's link changes. -/
def State.withLink (s : State) (i : SlotId) (r : SlotRecord) (l : Lane) : State :=
  { s with slots := s.slots.set i r, lanes := s.lanes.set i l }

theorem eight_set_self {α : Type} (v : Vector α 8) (i : SlotId) : v.set i v[i] = v :=
  Vector.ext fun j hj => by rw [Vector.getElem_set]; split <;> simp_all

theorem State.withLink_self (s : State) (i : SlotId) : s.withLink i (s.slot i) (s.lane i) = s := by
  unfold State.withLink State.slot State.lane
  rw [eight_set_self, eight_set_self]

theorem State.slot_withLink (s : State) (i : SlotId) (r : SlotRecord) (l : Lane) : (s.withLink i r l).slot i = r :=
  (State.slot_of_set rfl i).trans (if_pos rfl)

theorem State.lane_withLink (s : State) (i : SlotId) (r : SlotRecord) (l : Lane) : (s.withLink i r l).lane i = l :=
  (State.lane_of_set rfl i).trans (if_pos rfl)

theorem State.withLink_others (s : State) (i : SlotId) (r : SlotRecord) (l : Lane) (j : SlotId) (h : j ≠ i) :
    (s.withLink i r l).slot j = s.slot j ∧ (s.withLink i r l).lane j = s.lane j :=
  ⟨(State.slot_of_set rfl j).trans (if_neg h.symm), (State.lane_of_set rfl j).trans (if_neg h.symm)⟩

theorem State.modLane_withLink (s : State) (i : SlotId) (r : SlotRecord) (l : Lane) (f : Lane → Lane) :
    (s.withLink i r l).modLane i f = s.withLink i r (f l) := by
  unfold State.modLane
  rw [State.lane_withLink]
  unfold State.withLink
  rw [Vector.set_set]

theorem State.modSlot_withLink (s : State) (i : SlotId) (r : SlotRecord) (l : Lane) (f : SlotRecord → SlotRecord) :
    (s.withLink i r l).modSlot i f = s.withLink i (f r) l := by
  unfold State.modSlot
  rw [State.slot_withLink]
  unfold State.withLink
  rw [Vector.set_set]

theorem State.report_withLink (s : State) (i : SlotId) (r : SlotRecord) (l : Lane) (f : SlotRecord → SlotRecord) :
    (s.withLink i r l).report i f = s.withLink i (if r.phase.counts then f r else r) l := by
  unfold State.report State.counting
  rw [State.slot_withLink, State.modSlot_withLink, apply_ite (s.withLink i · l)]

/-- A phase that is not EMPTY counts unless it is IDLE (R26). -/
theorem Phase.counts_of_ne_empty {p : Phase} (h : p ≠ .empty) : p.counts = decide (p ≠ .idle) := by
  by_cases hi : p = .idle <;> simp [Phase.counts, h, hi]

/-! ## Collision (R28) -/

/-- The slot record after a command frame for an entry of its lane: a collision counted (R28). -/
def SlotRecord.collided (r : SlotRecord) (l : Lane) (e : EntryId) : SlotRecord :=
  if l.entry e = none ∨ r.phase = .idle then r else r.count (fun c => c.abandon.anomaly)

/-- The lane after a command frame for one of its entries: the entry, if OPEN or LATE, FREE (R28). -/
def Lane.collided (l : Lane) (e : EntryId) : Lane := if l.entry e = none then l else l.free e

theorem SlotRecord.collided_phase (r : SlotRecord) (l : Lane) (e : EntryId) : (r.collided l e).phase = r.phase := by
  unfold SlotRecord.collided; split <;> rfl

/-- A collision leaves what a new entry keeps of the slot record (R27). -/
theorem TagEntry.opened_collided (f : CommandFrame) (r : SlotRecord) (l : Lane) (e : EntryId) (now : Time) :
    TagEntry.opened f (r.collided l e) now = TagEntry.opened f r now := by
  unfold SlotRecord.collided; split <;> rfl

theorem Lane.entry_collided_ne (l : Lane) {e d : EntryId} (h : d ≠ e) : (l.collided e).entry d = l.entry d := by
  unfold Lane.collided
  split
  · rfl
  · rw [Lane.entry_free, if_neg h.symm]

theorem Lane.collided_upstream (l : Lane) (e : EntryId) : (l.collided e).upstream = l.upstream := by
  unfold Lane.collided; split <;> rfl

theorem Lane.free_position (l : Lane) (e : EntryId) : (l.free e).position = l.position.filter (fun q => q.entry ≠ e) :=
  congrArg (Option.filter · l.position) (funext fun q => by by_cases h : q.entry = e <;> simp [h])

theorem Lane.free_sector (l : Lane) (e : EntryId) : (l.free e).sector = l.sector.filter (fun z => z.entry ≠ e) :=
  congrArg (Option.filter · l.sector) (funext fun z => by by_cases h : z.entry = e <;> simp [h])

theorem Lane.collided_position (l : Lane) (e : EntryId) : (l.collided e).position =
    if l.entry e = none then l.position else l.position.filter (fun q => q.entry ≠ e) := by
  unfold Lane.collided
  split
  · rfl
  · exact l.free_position e

theorem Lane.collided_sector (l : Lane) (e : EntryId) : (l.collided e).sector =
    if l.entry e = none then l.sector else l.sector.filter (fun z => z.entry ≠ e) := by
  unfold Lane.collided
  split
  · rfl
  · exact l.free_sector e

theorem State.collide_eq {s : State} {i : SlotId} (e : EntryId) (h : (s.slot i).phase ≠ .empty) :
    s.collide i e = s.withLink i ((s.slot i).collided (s.lane i) e) ((s.lane i).collided e) := by
  unfold State.collide SlotRecord.collided Lane.collided
  cases he : (s.lane i).entry e with
  | none => exact (s.withLink_self i).symm
  | some t =>
    have hreport := s.report_withLink i (s.slot i) (s.lane i) (SlotRecord.count (fun c => c.abandon.anomaly))
    rw [s.withLink_self, Phase.counts_of_ne_empty h] at hreport
    rw [if_pos Option.isSome_some, hreport, State.modLane_withLink]
    by_cases hi : (s.slot i).phase = .idle <;> simp [hi]

/-! ## The entry opened (R27) -/

/-- The lane with the entry of a command frame open and the frame sent (R27). -/
def Lane.opening (l : Lane) (f : CommandFrame) (t : TagEntry) : Lane :=
  let l := (l.setEntry (commandEntry f.kind) (some t)).sendsDown [.command f]
  if (commandClass f.kind).queued then l else l.moveTo (some { entry := untagged, offset := 0 })

theorem State.openEntry_withLink (s : State) (i : SlotId) (r : SlotRecord) (l : Lane) (f : CommandFrame) :
    (s.withLink i r l).openEntry i f = s.withLink i r (l.opening f (TagEntry.opened f r s.timebase)) := by
  unfold State.openEntry Lane.opening
  rw [State.modLane_withLink, State.slot_withLink]
  rfl

theorem Lane.opening_tags (l : Lane) (f : CommandFrame) (t : TagEntry) :
    (l.opening f t).tags = (l.setEntry (commandEntry f.kind) (some t)).tags := by
  unfold Lane.opening; split <;> rfl

theorem Lane.entry_opening (l : Lane) (f : CommandFrame) (t : TagEntry) (d : EntryId) :
    (l.opening f t).entry d = if commandEntry f.kind = d then some t else l.entry d := by
  unfold Lane.entry
  rw [Lane.opening_tags]
  exact l.entry_setEntry _ d _

theorem Lane.opening_sends (l : Lane) (f : CommandFrame) (t : TagEntry) :
    (l.opening f t).toDrive = [.command f] ∧ (l.opening f t).toServer = [] ∧ (l.opening f t).upstream = l.upstream := by
  unfold Lane.opening; split <;> exact ⟨rfl, rfl, rfl⟩

/-- A non-queued command takes the position and drops a sector in progress; a queued one leaves both (R27, R60). -/
theorem Lane.opening_place (l : Lane) (f : CommandFrame) (t : TagEntry) :
    ((commandClass f.kind).queued = false →
      (l.opening f t).position = some { entry := untagged, offset := 0 } ∧ (l.opening f t).sector = none) ∧
    ((commandClass f.kind).queued = true → (l.opening f t).position = l.position ∧ (l.opening f t).sector = l.sector) := by
  unfold Lane.opening
  split <;> simp_all [Lane.moveTo, Lane.sendsDown, Lane.setEntry]

/-- The queued classes (R23). -/
theorem CommandClass.queued_iff (c : CommandClass) : c.queued = true ↔ c = .qread ∨ c = .qwrite := by
  cases c <;> simp [CommandClass.queued]

/-- The classes withheld in HOLD and in SEALED (Table 1-4). -/
theorem withholds_iff (p : Phase) (c : CommandClass) : withholds p.name c = true ↔
    (p.name = .hold ∧ (c = .qwrite ∨ c = .write)) ∨ (p = .sealed ∧ (c = .qwrite ∨ c = .write ∨ c = .other)) := by
  cases p <;> cases c <;> simp [withholds, Phase.name, CommandClass.writes]

/-- A command frame in bypass or in EMPTY (R22, R27, R45). -/
theorem execCommandFrame_passed {s : State} {i : SlotId} (f : CommandFrame) (h : s.bypassed i = true ∨ (s.slot i).phase = .empty) :
    execCommandFrame i f s = .next (s.modLane i (·.sendsDown [.command f])) := by
  unfold execCommandFrame
  exact if_pos (by simpa using h)

/-- A command frame outside bypass and outside EMPTY (R27, R28, R40). -/
theorem execCommandFrame_tracked {s : State} {i : SlotId} (f : CommandFrame) (hb : s.bypassed i = false)
    (hp : (s.slot i).phase ≠ .empty) : execCommandFrame i f s = .next
      (if withholds (s.slot i).phase.name (commandClass f.kind) then (s.collide i (commandEntry f.kind)).withhold i (commandEntry f.kind)
       else (s.collide i (commandEntry f.kind)).openEntry i f) := by simp [execCommandFrame, hb, hp]

/-- Settles O25: in bypass and in EMPTY the frame passes; else the record and the lane are those of a collision, and the entry is opened
in them. -/
theorem commandFrameOpensEntry : Obligations.CommandFrameOpensEntry := by
  refine fun s i f => ⟨fun h => ⟨_, execCommandFrame_passed f h, rfl⟩, fun hb hp hhold hsealed => ?_⟩
  have hforward : ¬withholds (s.slot i).phase.name (commandClass f.kind) = true := by
    rw [withholds_iff]; exact fun h => h.elim hhold hsealed
  have hrun := execCommandFrame_tracked f hb hp
  rw [if_neg hforward, State.collide_eq _ hp, State.openEntry_withLink] at hrun
  obtain ⟨hdown, hup, hwait⟩ := Lane.opening_sends ((s.lane i).collided (commandEntry f.kind)) f
    (TagEntry.opened f ((s.slot i).collided (s.lane i) (commandEntry f.kind)) s.timebase)
  obtain ⟨hnew, hkept⟩ := Lane.opening_place ((s.lane i).collided (commandEntry f.kind)) f
    (TagEntry.opened f ((s.slot i).collided (s.lane i) (commandEntry f.kind)) s.timebase)
  refine ⟨_, hrun, ?_, fun d hd => ?_, ?_, ?_, ?_, fun hr hw => ?_, fun hq => ?_, fun hq => ?_, ?_, State.withLink_others s i _ _, rfl⟩
  · rw [State.lane_withLink, Lane.entry_opening, if_pos rfl]
    exact congrArg some (TagEntry.opened_collided _ _ _ _ _)
  · rw [State.lane_withLink, Lane.entry_opening, if_neg hd.symm, Lane.entry_collided_ne _ hd]
  · rw [State.lane_withLink]; exact hdown
  · rw [State.lane_withLink]; exact hup
  · rw [State.lane_withLink, hwait, Lane.collided_upstream]
  · rw [State.lane_withLink]
    exact hnew (Bool.eq_false_iff.mpr fun hq => ((CommandClass.queued_iff _).mp hq).elim hr hw)
  · rw [State.lane_withLink, (hkept ((CommandClass.queued_iff _).mpr hq)).1]
    exact Lane.collided_position _ _
  · rw [State.lane_withLink, (hkept ((CommandClass.queued_iff _).mpr hq)).2]
    exact Lane.collided_sector _ _
  · rw [State.slot_withLink]; rfl

/-! ## The command withheld (R40) -/

theorem Lane.free_collided (l : Lane) (e : EntryId) : (l.collided e).free e = l.free e := by
  unfold Lane.collided
  split
  · rfl
  · simp [Lane.free, Lane.setEntry]

/-- A tag is listed exactly where its synthesized status waits (R40). -/
theorem Lane.mem_pendingStatuses (l : Lane) (e : EntryId) : e ∈ l.pendingStatuses ↔ UpstreamStatus.synthesized e ∈ l.upstream := by
  unfold Lane.pendingStatuses
  rw [List.mem_filterMap]
  constructor
  · rintro ⟨u, hu, he⟩
    cases u with
    | synthesized d => rwa [← Option.some.inj he]
    | fromDrive st => exact nomatch he
  · exact fun h => ⟨_, h, rfl⟩

/-- A status joins the waiting ones unless its tag is listed (R40). -/
theorem Lane.joinPending_eq (l : Lane) (e : EntryId) : l.joinPending e = { l with
    upstream := if UpstreamStatus.synthesized e ∈ l.upstream then l.upstream else l.upstream ++ [.synthesized e] } := by
  simp only [Lane.joinPending, List.contains_iff_mem, Lane.mem_pendingStatuses]
  split <;> rfl

theorem State.withhold_withLink (s : State) (i : SlotId) (r : SlotRecord) (l : Lane) (e : EntryId) (h : r.phase.counts = true) :
    (s.withLink i r l).withhold i e =
      s.withLink i (r.count (fun c => { c with withheld := inc16 c.withheld })) (((l.free e).joinPending e).sendsDown []) := by
  unfold State.withhold
  rw [State.report_withLink, if_pos h, State.modLane_withLink]

/-- The first waiting status is sent with the drive statuses behind it; the rest begins with a synthesized one (R40). -/
theorem Lane.sendNext_cons {l : Lane} {u : UpstreamStatus} {rest : List UpstreamStatus} (h : l.upstream = u :: rest) :
    l.sendNext = { l with
      toServer := u.frame :: (rest.takeWhile UpstreamStatus.isDrive).map UpstreamStatus.frame, toDrive := []
      upstream := rest.dropWhile UpstreamStatus.isDrive } := by
  unfold Lane.sendNext
  rw [h]; rfl

theorem State.modLane_sendNext_none {s : State} {i : SlotId} (h : (s.lane i).upstream = []) : s.modLane i Lane.sendNext = s := by
  have hkept : (s.lane i).sendNext = s.lane i := by unfold Lane.sendNext; rw [h]
  unfold State.modLane
  rw [hkept]
  exact congrArg (fun v => { s with lanes := v }) (eight_set_self s.lanes i)

/-- Settles O26: the withheld command by the record and lane of a collision; the statuses that go on by the longest run of drive
statuses behind the first. -/
theorem withheldCommandAndItsStatus : Obligations.WithheldCommandAndItsStatus := by
  refine ⟨fun s i f hb hw => ?_, fun s i => ⟨fun h => ?_, fun e rest h => ?_⟩⟩
  · have hphase : (s.slot i).phase ≠ .empty ∧ (s.slot i).phase ≠ .idle := by
      constructor <;> intro hp <;> simp [hp, Phase.name] at hw
    obtain ⟨hempty, hidle⟩ := hphase
    have hrun := execCommandFrame_tracked f hb hempty
    rw [if_pos ((withholds_iff _ _).mpr hw), State.collide_eq _ hempty, State.withhold_withLink _ _ _ _ _
      (by rw [SlotRecord.collided_phase, Phase.counts_of_ne_empty hempty, decide_eq_true hidle]),
      Lane.free_collided, Lane.joinPending_eq] at hrun
    refine ⟨_, hrun, ?_, ?_, fun d hd => ?_, ?_, ?_, ?_, ?_, State.withLink_others s i _ _, rfl⟩
    · rw [State.lane_withLink]
      exact (Lane.entry_free _ _ _).trans (if_pos rfl)
    · rw [State.lane_withLink]; rfl
    · rw [State.lane_withLink]
      exact (Lane.entry_free _ _ _).trans (if_neg hd.symm)
    · rw [State.lane_withLink]; rfl
    · rw [State.lane_withLink]; exact Lane.free_position _ _
    · rw [State.lane_withLink]; exact Lane.free_sector _ _
    · rw [State.slot_withLink]
      unfold SlotRecord.collided
      simp only [hidle, or_false]
      split <;> rfl
  · exact congrArg Host.Outcome.next (State.modLane_sendNext_none h)
  · refine ⟨_, rest.takeWhile UpstreamStatus.isDrive, rfl, ?_⟩
    rw [State.lane_modLane_self, Lane.sendNext_cons h]
    refine ⟨rfl, List.takeWhile_append_dropWhile.symm, fun u hu => List.mem_takeWhile_imp hu,
      fun u hu => ?_, fun d => rfl, rfl, rfl, fun j hj => State.lane_modLane_ne _ hj.symm _, rfl⟩
    have hhead := List.head?_dropWhile_not UpstreamStatus.isDrive rest
    rwa [show (rest.dropWhile UpstreamStatus.isDrive).head? = some u from hu] at hhead

end Sys2Proof.Machine
end

section
/-!
What the eight slots take one after the other, each its record and SLOT_ATTN: the soak tick (R115, R116).
-/
namespace Sys2Proof.Machine

/-! ## Every slot attended once -/

/-- A slot given a record, with SLOT_ATTN where told. -/
def State.attend (s : State) (i : SlotId) (x : SlotRecord × Bool) : State :=
  if x.2 then (s.modSlot i (fun _ => x.1)).raise (.slotAttn i) else s.modSlot i (fun _ => x.1)

theorem State.attend_kept (s : State) (i : SlotId) : s.attend i (s.slot i, false) = s :=
  congrArg (fun v => { s with slots := v }) (eight_set_self s.slots i)

theorem State.slot_attend (s : State) (i j : SlotId) (x : SlotRecord × Bool) :
    (s.attend i x).slot j = if i = j then x.1 else s.slot j := by
  unfold State.attend
  split
  · rw [State.slot_raise, State.slot_modSlot]
  · rw [State.slot_modSlot]

theorem State.alertSet_attend (s : State) (i : SlotId) (x : SlotRecord × Bool) (f : AlertFlag) :
    (s.attend i x).alertSet f = true ↔ s.alertSet f = true ∨ (f = .slotAttn i ∧ x.2 = true) := by
  unfold State.attend
  split
  case isTrue h => rw [State.alertSet_raise]; simp [State.alertSet, State.modSlot, h]
  case isFalse h => simp [State.alertSet, State.modSlot, h]

/-- Of a state, only slot records and alerts are another's. -/
def State.SlotsApart (s t : State) : Prop := t = { s with slots := t.slots, alerts := t.alerts }

theorem State.SlotsApart.profile {s t : State} (h : s.SlotsApart t) : t.profile = s.profile := by rw [h]

theorem State.SlotsApart.chamber {s t : State} (h : s.SlotsApart t) : t.chamber = s.chamber := by rw [h]

theorem State.attend_slotsApart {s t : State} (h : s.SlotsApart t) (i : SlotId) (x : SlotRecord × Bool) :
    s.SlotsApart (t.attend i x) := by
  unfold State.SlotsApart State.attend at *
  rw [h]
  split <;> rfl

/-- The slots of a list, and no others, have taken what `g` makes of their records. -/
structure State.Attended (s : State) (g : SlotId → SlotRecord → SlotRecord × Bool) (l : List SlotId) (t : State) : Prop where
  slot : ∀ i, t.slot i = if i ∈ l then (g i (s.slot i)).1 else s.slot i
  alert : ∀ f, t.alertSet f = true ↔ s.alertSet f = true ∨ ∃ i ∈ l, f = .slotAttn i ∧ (g i (s.slot i)).2 = true
  apart : s.SlotsApart t

theorem State.Attended.attend {s t : State} {g : SlotId → SlotRecord → SlotRecord × Bool} {l : List SlotId} {i : SlotId}
    (h : s.Attended g l t) (hi : i ∉ l) : s.Attended g (l ++ [i]) (t.attend i (g i (t.slot i))) := by
  obtain ⟨hslot, halert, hapart⟩ := h
  rw [hslot i, if_neg hi]
  refine ⟨fun j => ?_, fun f => ?_, State.attend_slotsApart hapart i _⟩
  · rw [State.slot_attend, hslot j]
    by_cases hij : i = j
    · subst hij; simp
    · simp [hij, Ne.symm hij]
  · rw [State.alertSet_attend, halert f, or_assoc]
    simp only [List.mem_append, List.mem_singleton, or_and_right, exists_or, exists_eq_left]

/-- An operation that attends each slot by its record leaves every slot attended once. -/
theorem State.forSlots_attended {s : State} {f : State → SlotId → State} {g : SlotId → SlotRecord → SlotRecord × Bool}
    (h : ∀ u i, s.SlotsApart u → f u i = u.attend i (g i (u.slot i))) : s.Attended g allSlots (s.forSlots f) := by
  have hfold (l : List SlotId) (hl : l.Nodup) : s.Attended g l (l.foldl f s) := by
    induction l using List.reverseRecOn with
    | nil => exact ⟨fun i => rfl, fun f => by simp, rfl⟩
    | append_singleton l i ih =>
      obtain ⟨hprefix, -, hnot⟩ := List.nodup_append.mp hl
      have hi : i ∉ l := fun hm => hnot i hm i (List.mem_singleton_self i) rfl
      rw [List.foldl_append, List.foldl_cons, List.foldl_nil, h _ i (ih hprefix).apart]
      exact (ih hprefix).attend hi
  exact hfold allSlots (by decide)

theorem mem_allSlots (i : SlotId) : i ∈ allSlots := by revert i; decide

theorem State.Attended.slot_all {s t : State} {g : SlotId → SlotRecord → SlotRecord × Bool} (h : s.Attended g allSlots t)
    (i : SlotId) : t.slot i = (g i (s.slot i)).1 := (h.slot i).trans (if_pos (mem_allSlots i))

theorem State.Attended.alert_all {s t : State} {g : SlotId → SlotRecord → SlotRecord × Bool} (h : s.Attended g allSlots t)
    (f : AlertFlag) : t.alertSet f = true ↔ s.alertSet f = true ∨ ∃ i, f = .slotAttn i ∧ (g i (s.slot i)).2 = true := by
  simp only [h.alert f, mem_allSlots, true_and]

/-! ## The soak tick of one slot (R13, R116) -/

/-- A slot record in BURN after a second, with the move to SCAN where its credit reached the target (R13, R116). -/
def SlotRecord.burned (r : SlotRecord) (x : SoakBlock × Bool) : SlotRecord × Bool :=
  if x.2 && x.1.target * Config.unitsPerMinute ≤ x.1.a then ({ r with soak := x.1, phase := .scan }, true)
  else ({ r with soak := x.1 }, false)

/-- A slot record after the soak tick, and whether it moved to SCAN (R13, R116). -/
def SlotRecord.soaked (p : Profile) (c : Chamber) (i : SlotId) (r : SlotRecord) : SlotRecord × Bool :=
  match r.phase with
  | .hold _ _ _ => ({ r with soak := { r.soak with heldSeconds := inc32 r.soak.heldSeconds } }, false)
  | .burn => r.burned (r.soak.second p c i)
  | .empty | .idle | .scan | .gradeWait | .graded | .ship | .sealed => (r, false)

theorem SlotRecord.soaked_hold (p : Profile) (c : Chamber) (i : SlotId) {r : SlotRecord} {a : ActivePhase} {m th : Bool}
    (h : r.phase = .hold a m th) :
    r.soaked p c i = ({ r with soak := { r.soak with heldSeconds := inc32 r.soak.heldSeconds } }, false) := by
  simp [SlotRecord.soaked, h]

theorem SlotRecord.soaked_burn (p : Profile) (c : Chamber) (i : SlotId) {r : SlotRecord} (h : r.phase = .burn) :
    r.soaked p c i = r.burned (r.soak.second p c i) := by simp [SlotRecord.soaked, h]

theorem SlotRecord.soaked_other (p : Profile) (c : Chamber) (i : SlotId) {r : SlotRecord} (hb : r.phase ≠ .burn)
    (hh : ∀ a m th, r.phase ≠ .hold a m th) : r.soaked p c i = (r, false) := by
  unfold SlotRecord.soaked
  split
  case h_1 h => exact absurd h (hh _ _ _)
  case h_2 h => exact absurd h hb
  all_goals rfl

theorem State.soakSlot_eq_attend (s : State) (i : SlotId) :
    s.soakSlot i = s.attend i ((s.slot i).soaked s.profile s.chamber i) := by
  unfold State.soakSlot
  split
  case h_1 h => rw [SlotRecord.soaked_hold _ _ _ h]; rfl
  case h_2 h =>
    rw [SlotRecord.soaked_burn _ _ _ h]
    unfold SlotRecord.burned
    dsimp only
    split
    · simp [State.attend, State.setPhase, State.modSlot, State.slot]
    · rfl
  all_goals
    rename_i h
    rw [SlotRecord.soaked_other _ _ _ (by simp [h]) (by simp [h]), State.attend_kept]

/-- Every slot takes the soak tick once, by the readings and the profile as they stand (R116). -/
theorem State.forSlots_soakSlot (s : State) :
    s.Attended (SlotRecord.soaked s.profile s.chamber) allSlots (s.forSlots State.soakSlot) := by
  refine State.forSlots_attended fun u i hu => ?_
  rw [State.soakSlot_eq_attend, hu.profile, hu.chamber]

/-! ## A second in BURN (R116) -/

theorem SoakBlock.second_stale (k : SoakBlock) (p : Profile) (c : Chamber) (i : SlotId)
    (h : c.fresh = false ∨ ∀ v, c.readings[i] ≠ .valid v) : k.second p c i =
      ({ k with burnSeconds := inc32 k.burnSeconds, staleSeconds := inc32 k.staleSeconds }, false) := by
  unfold SoakBlock.second
  dsimp only
  split
  case h_4 v hv =>
    unfold Chamber.effective at hv
    obtain h | h := h
    · simp [h] at hv
    · split at hv
      · exact absurd (Option.some.inj hv) (h v)
      · cases hv
  all_goals rfl

theorem SoakBlock.second_valid (k : SoakBlock) (p : Profile) {c : Chamber} {i : SlotId} {v : Nat} (hf : c.fresh = true)
    (hv : c.readings[i] = .valid v) : k.second p c i =
      if c.status.getLsbD 0 = true ∨ c.status.getLsbD 1 = true then
        ({ k with burnSeconds := inc32 k.burnSeconds, chamberOffSeconds := inc32 k.chamberOffSeconds }, false)
      else (SoakBlock.credit { k with burnSeconds := inc32 k.burnSeconds } p c.h1InEffect v, true) := by
  have heff : c.effective i = some (.valid v) := by rw [Chamber.effective, if_pos hf, hv]
  simp only [SoakBlock.second, heff, Chamber.off, hf, Bool.true_and, Bool.or_eq_true]

/-- A second without credit leaves the phase (R116). -/
theorem SlotRecord.burned_uncredited (r : SlotRecord) (k : SoakBlock) : r.burned (k, false) = ({ r with soak := k }, false) := rfl

/-- A credited second in BURN: the phase by the target, and whether it moved (R13, R116). -/
theorem SlotRecord.burned_credited {r : SlotRecord} (h : r.phase = .burn) (k : SoakBlock) : r.burned (k, true) =
    ({ r with soak := k, phase := if k.target * 15360 ≤ k.a then .scan else .burn }, decide (k.target * 15360 ≤ k.a)) := by
  unfold SlotRecord.burned
  by_cases hk : k.target * 15360 ≤ k.a
  · simp [Config.unitsPerMinute, hk]
  · simp [Config.unitsPerMinute, hk, ← h]

/-- A slot is attended by the soak tick exactly where it moves from BURN to SCAN (R13). -/
theorem SlotRecord.soaked_attention (p : Profile) (c : Chamber) (i : SlotId) (r : SlotRecord) :
    (r.soaked p c i).2 = true ↔ r.phase = .burn ∧ (r.soaked p c i).1.phase = .scan := by
  by_cases hb : r.phase = .burn
  · rw [SlotRecord.soaked_burn _ _ _ hb]
    unfold SlotRecord.burned
    split <;> simp [hb]
  · have hquiet : (r.soaked p c i).2 = false := by
      unfold SlotRecord.soaked
      split
      case h_2 h => exact absurd h hb
      all_goals rfl
    simp [hb, hquiet]

/-- A soak tick that is due: every slot takes it once, and the timer runs on (R115, R116). -/
theorem execSoakTick_due {s : State} {began : Time} (hr : s.inReset = false) (ht : s.soakTimer = some began)
    (he : 1000000 ≤ s.elapsed began) : ∃ u, s.Attended (SlotRecord.soaked s.profile s.chamber) allSlots u ∧
      execSoakTick s = .next { u with soakTimer := some (began + 1000000#32) } := by
  have hdue : s.soakDue = true := by simp [State.soakDue, ht, hr, Config.soakPeriod, he]
  refine ⟨_, s.forSlots_soakSlot, ?_⟩
  unfold execSoakTick State.soakAll
  rw [if_pos hdue, ht]
  rfl

/-- Settles O47: every slot takes the tick once, and its record by phase, reading and chamber status. -/
theorem soakTickTaken : Obligations.SoakTickTaken := by
  intro s began hr ht he
  obtain ⟨u, hall, hrun⟩ := execSoakTick_due hr ht he
  have hframe : ({ u with soakTimer := some (began + 1000000#32) } : State) =
      { s with slots := u.slots, alerts := u.alerts, soakTimer := some (began + 1000000#32) } :=
    congrArg (fun v : State => { v with soakTimer := some (began + 1000000#32) }) hall.apart
  refine ⟨_, hrun, rfl, fun i => ?_, fun g => (hall.alert_all g).trans ?_, hframe⟩
  · dsimp only
    rw [show State.slot { u with soakTimer := some (began + 1000000#32) } i = _ from hall.slot_all i]
    refine ⟨fun ⟨a, m, th, hp⟩ => ?_, fun hb hh => ?_, fun hp hs => ?_, fun h hp hf hv hoff => ?_, fun h hp hf hv hoff => ?_⟩
    · rw [SlotRecord.soaked_hold _ _ _ hp]; rfl
    · rw [SlotRecord.soaked_other _ _ _ hb hh]
    · rw [SlotRecord.soaked_burn _ _ _ hp, SoakBlock.second_stale _ _ _ _ hs, SlotRecord.burned_uncredited]; rfl
    · rw [SlotRecord.soaked_burn _ _ _ hp, SoakBlock.second_valid _ _ hf hv, if_pos hoff, SlotRecord.burned_uncredited]; rfl
    · rw [SlotRecord.soaked_burn _ _ _ hp, SoakBlock.second_valid _ _ hf hv, if_neg hoff, SlotRecord.burned_credited hp]
      simp only [SoakBlock.credit, Option.isNone_iff_eq_none]
      rfl
  · simp only [SlotRecord.soaked_attention]
    simp only [← hall.slot_all]
    rfl

end Sys2Proof.Machine
end

section
/-!
The character receiver of the chamber line over runs of samples (R103, R104).
-/
namespace Sys2Proof.Machine

/-! ## Runs of samples -/

/-- A run that finds nothing, and what follows it. -/
theorem LineReceiver.run_append_of_quiet {r q : LineReceiver} {a : List Bool} (h : r.run a = (q, [])) (b : List Bool) :
    r.run (a ++ b) = q.run b := by
  rw [LineReceiver.run_append, h]
  rfl

/-- A sample that finds nothing, and what follows it. -/
theorem LineReceiver.run_cons_of_quiet {r q : LineReceiver} {x : Bool} (h : r.sample x = (q, none)) (xs : List Bool) :
    r.run (x :: xs) = q.run xs := by
  rw [LineReceiver.run, h]
  rfl

/-- A receiver that a level leaves as it is, with nothing found, is left by any run of that level. -/
theorem LineReceiver.run_replicate_fixed {r : LineReceiver} {x : Bool} (h : r.sample x = (r, none)) (k : Nat) :
    r.run (List.replicate k x) = (r, []) := by
  induction k with
  | zero => rfl
  | succ k ih => rw [List.replicate_succ, LineReceiver.run_cons_of_quiet h, ih]

theorem LineReceiver.run_waiting_space (k : Nat) :
    (LineReceiver.waiting false).run (List.replicate k false) = (.waiting false, []) :=
  LineReceiver.run_replicate_fixed (by rfl) k

theorem LineReceiver.run_waiting_mark (m : Bool) (k : Nat) :
    (LineReceiver.waiting m).run (List.replicate (k + 1) true) = (.waiting true, []) := by
  rw [List.replicate_succ, LineReceiver.run_cons_of_quiet (q := .waiting true) (by cases m <;> rfl)]
  exact LineReceiver.run_replicate_fixed (by rfl) k

/-! ## The samples of one bit (R104) -/

/-- A sample of a character away from the middle of a bit is not read. -/
theorem LineReceiver.sample_between {p : Nat} (h : (p + 1) % 16 ≠ 8) (bits : List Bool) (solid x : Bool) :
    (LineReceiver.character p bits solid).sample x = (.character (p + 1) bits (solid && !x), none) := by
  have hstart : p + 1 ≠ midOfBit 0 := fun he => h (by rw [he]; rfl)
  have hstop : p + 1 ≠ midOfBit 10 := fun he => h (by rw [he]; rfl)
  simp [LineReceiver.sample, hstart, hstop, samplesPerBit, h]

/-- Samples of one level, none of them in the middle of a bit. -/
theorem LineReceiver.run_between (m p : Nat) (bits : List Bool) (solid x : Bool) (h : ∀ n, p < n → n ≤ p + m → n % 16 ≠ 8) :
    (LineReceiver.character p bits solid).run (List.replicate m x) = (.character (p + m) bits (solid && (m == 0 || !x)), []) := by
  induction m generalizing p solid with
  | zero => simp
  | succ m ih =>
    rw [List.replicate_succ, LineReceiver.run_cons_of_quiet (LineReceiver.sample_between (h (p + 1) (by omega) (by omega)) _ _ _),
      ih (p + 1) _ (fun n hn hm => h n (by omega) (by omega))]
    cases x <;> cases solid <;> simp [Nat.add_comm, Nat.add_left_comm]

/-- The sample in the middle of a data or parity bit is read. -/
theorem LineReceiver.sample_middle {p : Nat} (h : (p + 1) % 16 = 8) (hstart : p + 1 ≠ midOfBit 0) (hstop : p + 1 ≠ midOfBit 10)
    (bits : List Bool) (solid x : Bool) :
    (LineReceiver.character p bits solid).sample x = (.character (p + 1) (bits ++ [x]) (solid && !x), none) := by
  simp [LineReceiver.sample, hstart, hstop, samplesPerBit, h]

/-- The samples of a bit, cut at its middle. -/
theorem replicate_bit (x : Bool) : List.replicate 16 x = List.replicate 8 x ++ x :: List.replicate 7 x := rfl

/-- A data or parity bit: it joins the bits read (R104). -/
theorem LineReceiver.run_bit {k : Nat} (hk : k < 9) (bits : List Bool) (solid x : Bool) :
    (LineReceiver.character (16 * k + 15) bits solid).run (List.replicate 16 x) =
      (.character (16 * (k + 1) + 15) (bits ++ [x]) (solid && !x), []) := by
  rw [replicate_bit,
    LineReceiver.run_append_of_quiet (LineReceiver.run_between 8 _ bits solid x fun n hn hm => by omega),
    LineReceiver.run_cons_of_quiet (LineReceiver.sample_middle (by omega) (by simp only [midOfBit, samplesPerBit]; omega)
      (by simp only [midOfBit, samplesPerBit]; omega) _ _ _),
    LineReceiver.run_between 7 _ _ _ _ fun n hn hm => by omega]
  cases x <;> cases solid <;> simp <;> omega

/-- The data and parity bits one after the other (R104). -/
theorem LineReceiver.run_bits (ls : List Bool) (k : Nat) (bits : List Bool) (solid : Bool) (h : k + ls.length ≤ 9) :
    (LineReceiver.character (16 * k + 15) bits solid).run (lineLevels ls) =
      (.character (16 * (k + ls.length) + 15) (bits ++ ls) (solid && ls.all (!·)), []) := by
  induction ls generalizing k bits solid with
  | nil => simp [lineLevels]
  | cons x xs ih =>
    have hlen : k + 1 + xs.length ≤ 9 := by rw [List.length_cons] at h; omega
    rw [lineLevels, List.flatMap_cons, LineReceiver.run_append_of_quiet (LineReceiver.run_bit (by omega) bits solid x)]
    refine (ih (k + 1) _ _ hlen).trans ?_
    simp only [List.append_assoc, List.singleton_append, List.length_cons, List.all_cons, Bool.and_assoc, Nat.add_assoc,
      Nat.add_comm 1]

/-- The start bit from a line at mark (R104). -/
theorem LineReceiver.run_start :
    (LineReceiver.waiting true).run (List.replicate 16 false) = (.character 15 [] true, []) := by rfl

/-- The sample in the middle of the stop bit has the character judged (R104). -/
theorem LineReceiver.sample_stop (bits : List Bool) (solid x : Bool) :
    (LineReceiver.character 167 bits solid).sample x = judgedReceiver bits (solid && !x) x := rfl

/-- The stop bit: the character judged, then seven more samples. -/
theorem LineReceiver.run_stop (bits : List Bool) (solid x : Bool) :
    (LineReceiver.character 159 bits solid).run (List.replicate 16 x) =
      (((judgedReceiver bits (solid && !x) x).1.run (List.replicate 7 x)).1,
        (judgedReceiver bits (solid && !x) x).2.toList ++ ((judgedReceiver bits (solid && !x) x).1.run (List.replicate 7 x)).2) := by
  rw [replicate_bit, LineReceiver.run_append_of_quiet (LineReceiver.run_between 8 _ bits solid x fun n hn hm => by omega),
    LineReceiver.run]
  have hmid : (LineReceiver.character (159 + 8) bits (solid && (8 == 0 || !x))).sample x =
      judgedReceiver bits (solid && !x) x := by
    rw [LineReceiver.sample_stop]
    cases solid <;> cases x <;> rfl
  rw [hmid]

/-! ## A whole character (R103, R104) -/

theorem byteOfBits_getLsbD (ls : List Bool) (k : Nat) (hk : k < 8) : (byteOfBits ls).getLsbD k = ls.getD k false := by
  induction ls generalizing k with
  | nil => simp [byteOfBits]
  | cons b bs ih =>
    have hfirst : (if b then 1#8 else 0#8).getLsbD k = (decide (k = 0) && b) := by
      cases b <;> simp [BitVec.getLsbD_one]
    rw [byteOfBits, BitVec.getLsbD_or, BitVec.getLsbD_shiftLeft, hfirst]
    cases k with
    | zero => simp
    | succ k => simp [ih k (by omega), hk]

/-- The data bits of a byte make the byte (R103). -/
theorem byteOfBits_dataBits (data : Byte) : byteOfBits ((List.range 8).map data.getLsbD) = data := by
  refine BitVec.eq_of_getLsbD_eq fun k hk => ?_
  rw [byteOfBits_getLsbD _ k hk]
  simp [List.getD_eq_getElem?_getD, List.getElem?_range hk]

/-- The bits of a character before its stop bit. -/
def characterBits (data : Byte) (parity : Bool) : List Bool := (List.range 8).map data.getLsbD ++ [parity]

theorem characterBits_length (data : Byte) (parity : Bool) : (characterBits data parity).length = 9 := by simp [characterBits]

theorem characterBits_data (data : Byte) (parity : Bool) : byteOfBits ((characterBits data parity).take 8) = data := by
  rw [characterBits, List.take_append_of_le_length (by simp), List.take_of_length_le (by simp), byteOfBits_dataBits]

theorem characterBits_parity (data : Byte) (parity : Bool) : (characterBits data parity).getD 8 false = parity := by
  simp [characterBits, List.getD_eq_getElem?_getD]

/-- The line of a character: start bit, data and parity bits, stop bit (R103). -/
theorem characterLevels_eq (data : Byte) (parity stop : Bool) : characterLevels data parity stop =
    List.replicate 16 false ++ (lineLevels (characterBits data parity) ++ List.replicate 16 stop) := by
  simp [characterLevels, lineLevels, characterBits, List.flatMap_append]

/-- A character from a line at mark, before its stop bit (R104). -/
theorem LineReceiver.run_character (data : Byte) (parity stop : Bool) :
    (LineReceiver.waiting true).run (characterLevels data parity stop) =
      (LineReceiver.character 159 (characterBits data parity) ((characterBits data parity).all (!·))).run
        (List.replicate 16 stop) := by
  have hbits := LineReceiver.run_bits (characterBits data parity) 0 [] true (by rw [characterBits_length])
  rw [characterBits_length] at hbits
  rw [characterLevels_eq, LineReceiver.run_append_of_quiet LineReceiver.run_start, LineReceiver.run_append_of_quiet hbits]
  rfl

/-- The judgement of the bits of a character (R103, R104). -/
theorem judgedReceiver_character (data : Byte) (parity solid stop : Bool) :
    judgedReceiver (characterBits data parity) solid stop =
      match judgeCharacter data parity stop with
      | .good b => (.waiting stop, some (.byte b))
      | .error => (.waiting stop, some .error)
      | .heldBack => (.heldBack 168 solid, none) := by
  rw [judgedReceiver, characterBits_data, characterBits_parity]
  rfl

/-- A character with its stop bit at mark: good where data and parity hold an even number of ones (R103, R104). -/
theorem LineReceiver.run_character_mark (data : Byte) (parity : Bool) :
    (LineReceiver.waiting true).run (characterLevels data parity true) = (.waiting true,
      [if ((List.range 8).countP (fun k => data.getLsbD k) + (if parity then 1 else 0)) % 2 = 0 then .byte data else .error]) := by
  rw [LineReceiver.run_character, LineReceiver.run_stop, judgedReceiver_character, List.countP_eq_length_filter]
  unfold judgeCharacter countOnes
  rw [if_pos rfl]
  split_ifs <;> rfl

/-- A character with its stop bit at space: held back where all of it is at space, else an error (R104, R105). -/
theorem LineReceiver.run_character_space (data : Byte) (parity : Bool) :
    (LineReceiver.waiting true).run (characterLevels data parity false) =
      if data = 0#8 ∧ parity = false then (.heldBack 175 true, []) else (.waiting false, [.error]) := by
  rw [LineReceiver.run_character, LineReceiver.run_stop, judgedReceiver_character]
  unfold judgeCharacter
  by_cases h : data = 0#8 ∧ parity = false
  · obtain ⟨rfl, rfl⟩ := h
    rfl
  · have hjudged : ¬(decide (data = 0#8) && !parity) = true := by simpa using h
    rw [if_neg Bool.false_ne_true, if_neg hjudged, if_neg h]
    rfl

/-- A line that is at mark again by the middle of the start bit has brought no character (R104). -/
theorem LineReceiver.run_glitch (k : Nat) (h1 : 1 ≤ k) (h8 : k ≤ 8) :
    (LineReceiver.waiting true).run (List.replicate k false ++ List.replicate (9 - k) true) = (.waiting true, []) := by
  interval_cases k <;> rfl

end Sys2Proof.Machine
end

section
/-!
The frame receiver of the chamber line: samples in parts, a complete frame and its thermal checks (R106 to R112, R16).
-/
namespace Sys2Proof.Machine

/-! ## Samples in parts (R104, R119) -/

/-- The state with the character receiver replaced. -/
def State.withReceiver (s : State) (r : LineReceiver) : State := s.modChamber (fun c => { c with receiver := r })

theorem State.checkThermal_withReceiver (s : State) (r : LineReceiver) (i : SlotId) :
    (s.withReceiver r).checkThermal i = (s.checkThermal i).withReceiver r := by
  show State.applyHold (s.withReceiver r) i (thermalCheck s.profile s.chamber.readings[i] (s.slot i).phase) =
    State.withReceiver (s.applyHold i _) r
  unfold State.applyHold
  split <;> rfl

/-- A change that each slot's operation passes by is passed by all eight. -/
theorem State.forSlots_hom {f : State → SlotId → State} (g : State → State) (h : ∀ u i, f (g u) i = g (f u i)) (s : State) :
    (g s).forSlots f = g (s.forSlots f) := List.foldl_hom g h

theorem State.frameComplete_withReceiver (s : State) (r : LineReceiver) (f : FrameInProgress) (b : Byte) :
    (s.withReceiver r).frameComplete f b = (s.frameComplete f b).withReceiver r := by
  unfold State.frameComplete
  rw [← State.forSlots_hom (State.withReceiver · r) fun u i => u.checkThermal_withReceiver r i]
  exact congrArg (State.forSlots · State.checkThermal) rfl

/-- What the frame receiver takes does not meet the character receiver. -/
theorem State.takeEvent_withReceiver (s : State) (r : LineReceiver) (e : LineEvent) :
    (s.withReceiver r).takeEvent e = (s.takeEvent e).withReceiver r := by
  have hframe : (s.withReceiver r).chamber.frame = s.chamber.frame := rfl
  cases e with
  | byte b =>
    show State.takeByte (s.withReceiver r) b = (s.takeByte b).withReceiver r
    unfold State.takeByte
    rw [hframe]
    split
    · split <;> rfl
    · split
      · rfl
      · exact s.frameComplete_withReceiver r _ b
  | error =>
    show State.takeError (s.withReceiver r) = s.takeError.withReceiver r
    unfold State.takeError
    rw [hframe]
    split <;> rfl
  | lineBreak => rfl
  | markAfterBreak => rfl

/-- Whether the line is heard, and the character receiver. -/
def State.hearing (s : State) : Bool × LineReceiver := (s.receiving, s.chamber.receiver)

theorem State.hearing_applyHold (s : State) (i : SlotId) (x : Phase × Bool) : (s.applyHold i x).hearing = s.hearing := by
  unfold State.applyHold; split <;> rfl

theorem State.hearing_takeEvent (s : State) (e : LineEvent) : (s.takeEvent e).hearing = s.hearing := by
  cases e with
  | byte b =>
    show (s.takeByte b).hearing = s.hearing
    unfold State.takeByte
    split
    · split <;> rfl
    · split
      · rfl
      · exact State.forSlots_induct (P := fun u => u.hearing = s.hearing) (fun u i hu => (u.hearing_applyHold i _).trans hu) _ rfl
  | error =>
    show s.takeError.hearing = s.hearing
    unfold State.takeError
    split <;> rfl
  | lineBreak => rfl
  | markAfterBreak => rfl

theorem State.hearing_takeEvents (events : List LineEvent) (s : State) : (events.foldl State.takeEvent s).hearing = s.hearing := by
  induction events generalizing s with
  | nil => rfl
  | cons e events ih => exact (ih _).trans (s.hearing_takeEvent e)

/-- Samples in two parts do what they do in one. -/
theorem State.hearLine_append (s : State) (a b : List Bool) : s.hearLine (a ++ b) = (s.hearLine a).hearLine b := by
  cases h : s.receiving with
  | false => simp only [State.hearLine_not_receiving _ _ h]
  | true =>
    have hsplit := LineReceiver.run_append a b s.chamber.receiver
    have hheard : (s.hearLine a).hearing = (true, (s.chamber.receiver.run a).1) := by
      rw [State.hearLine_receiving _ _ h, State.hearing_takeEvents, ← h]; rfl
    obtain ⟨hready, hreceiver⟩ := Prod.ext_iff.mp hheard
    have hmoved : (s.hearLine a).withReceiver ((s.chamber.receiver.run a).1.run b).1 =
        (s.chamber.receiver.run a).2.foldl State.takeEvent (s.withReceiver ((s.chamber.receiver.run a).1.run b).1) := by
      rw [State.hearLine_receiving _ _ h]
      exact (List.foldl_hom (State.withReceiver · _) fun u e => u.takeEvent_withReceiver _ e).symm
    calc s.hearLine (a ++ b)
        = ((s.chamber.receiver.run a).1.run b).2.foldl State.takeEvent ((s.chamber.receiver.run a).2.foldl State.takeEvent
            (s.withReceiver ((s.chamber.receiver.run a).1.run b).1)) := by
          rw [State.hearLine_receiving _ _ h, hsplit, List.foldl_append]; rfl
      _ = (s.hearLine a).hearLine b := by
          rw [← hmoved, State.hearLine_receiving _ _ hready, show (s.hearLine a).chamber.receiver = _ from hreceiver]; rfl

/-! ## Thermal checks (R16, R111) -/

/-- A reading at or above H2 (R111). -/
def Reading.Hot (r : Reading) (p : Profile) : Prop := ∃ h, r = .valid h ∧ p.h2 ≤ h

/-- A reading below H2 that is at or below H1 (R111). -/
def Reading.Cool (r : Reading) (p : Profile) : Prop := ∃ h, r = .valid h ∧ h < p.h2 ∧ h ≤ p.h1

theorem thermalCheck_hot {p : Profile} {r : Reading} (h : r.Hot p) (ph : Phase) : thermalCheck p r ph = ph.addThermal := by
  obtain ⟨v, rfl, hv⟩ := h
  exact if_pos hv

theorem thermalCheck_cool {p : Profile} {r : Reading} (h : r.Cool p) (ph : Phase) : thermalCheck p r ph = ph.removeThermal := by
  obtain ⟨v, rfl, hv, hv1⟩ := h
  exact (if_neg (Nat.not_le.mpr hv)).trans (if_pos hv1)

theorem thermalCheck_between {p : Profile} {r : Reading} (hh : ¬r.Hot p) (hc : ¬r.Cool p) (ph : Phase) :
    thermalCheck p r ph = (ph, false) := by
  cases r with
  | valid v =>
    have hhot : ¬p.h2 ≤ v := fun hv => hh ⟨v, rfl, hv⟩
    have hcool : ¬v ≤ p.h1 := fun hv => hc ⟨v, rfl, Nat.not_le.mp hhot, hv⟩
    exact (if_neg hhot).trans (if_neg hcool)
  | fault => rfl
  | none => rfl

theorem Reading.Cool.not_hot {p : Profile} {r : Reading} (h : r.Cool p) : ¬r.Hot p := by
  obtain ⟨v, rfl, hv, -⟩ := h
  rintro ⟨w, hw, hh⟩
  cases hw
  exact Nat.not_le.mpr hv hh

theorem Phase.addThermal_active (a : ActivePhase) : a.phase.addThermal = (.hold a false true, true) := by cases a <;> rfl

theorem Phase.addThermal_hold (a : ActivePhase) (m th : Bool) : (Phase.hold a m th).addThermal = (.hold a m true, !th) := by
  cases th <;> rfl

theorem Phase.exists_active_iff (ph : Phase) : (∃ a : ActivePhase, ph = a.phase) ↔ ph = .burn ∨ ph = .scan ∨ ph = .ship := by
  constructor
  · rintro ⟨a, rfl⟩
    cases a <;> simp [ActivePhase.phase]
  · rintro (rfl | rfl | rfl)
    · exact ⟨.burn, rfl⟩
    · exact ⟨.scan, rfl⟩
    · exact ⟨.ship, rfl⟩

theorem Phase.addThermal_attention (ph : Phase) :
    ph.addThermal.2 = true ↔ (∃ a : ActivePhase, ph = a.phase) ∨ ∃ a m, ph = .hold a m false := by
  rw [Phase.exists_active_iff]
  cases ph with
  | hold a m th => rw [Phase.addThermal_hold]; cases th <;> simp
  | burn | scan | ship | empty | idle | gradeWait | graded | sealed => simp [Phase.addThermal]

theorem Phase.removeThermal_active (a : ActivePhase) : a.phase.removeThermal = (a.phase, false) := by cases a <;> rfl

theorem Phase.removeThermal_hold (a : ActivePhase) (m th : Bool) : (Phase.hold a m th).removeThermal =
    (if th = false ∨ m = true then .hold a m false else a.phase, th && !m) := by cases m <;> cases th <;> rfl

theorem Phase.removeThermal_attention (ph : Phase) : ph.removeThermal.2 = true ↔ ∃ a, ph = .hold a false true := by
  cases ph with
  | hold a m th => rw [Phase.removeThermal_hold]; cases m <;> cases th <;> simp
  | burn | scan | ship | empty | idle | gradeWait | graded | sealed => simp [Phase.removeThermal]

/-- Outside the active phases and HOLD a thermal check changes nothing (R111). -/
theorem thermalCheck_inactive (p : Profile) (r : Reading) {ph : Phase}
    (h : ph = .empty ∨ ph = .idle ∨ ph = .gradeWait ∨ ph = .graded ∨ ph = .sealed) : thermalCheck p r ph = (ph, false) := by
  have hadd : ph.addThermal = (ph, false) := by obtain rfl | rfl | rfl | rfl | rfl := h <;> rfl
  have hremove : ph.removeThermal = (ph, false) := by obtain rfl | rfl | rfl | rfl | rfl := h <;> rfl
  by_cases hh : r.Hot p
  · rw [thermalCheck_hot hh, hadd]
  · by_cases hc : r.Cool p
    · rw [thermalCheck_cool hc, hremove]
    · exact thermalCheck_between hh hc ph

theorem thermalCheck_attention (p : Profile) (r : Reading) (ph : Phase) : (thermalCheck p r ph).2 = true ↔
    (r.Hot p ∧ ((∃ a : ActivePhase, ph = a.phase) ∨ ∃ a m, ph = .hold a m false)) ∨ (r.Cool p ∧ ∃ a, ph = .hold a false true) := by
  by_cases hh : r.Hot p
  · have hc : ¬r.Cool p := fun hc => hc.not_hot hh
    rw [thermalCheck_hot hh, Phase.addThermal_attention]
    simp only [hh, hc, true_and, false_and, or_false]
  · by_cases hc : r.Cool p
    · rw [thermalCheck_cool hc, Phase.removeThermal_attention]
      simp only [hh, hc, true_and, false_and, false_or]
    · rw [thermalCheck_between hh hc]
      simp only [hh, hc, false_and, or_false, Bool.false_eq_true]

/-! ## The complete frame (R108 to R112) -/

/-- A slot record after the thermal check of its reading, and whether SLOT_ATTN is set (R111). -/
def SlotRecord.checked (p : Profile) (readings : Vector Reading 8) (i : SlotId) (r : SlotRecord) : SlotRecord × Bool :=
  ({ r with phase := (thermalCheck p readings[i] r.phase).1 }, (thermalCheck p readings[i] r.phase).2)

theorem State.checkThermal_eq_attend (s : State) (i : SlotId) :
    s.checkThermal i = s.attend i ((s.slot i).checked s.profile s.chamber.readings i) := rfl

theorem State.forSlots_checkThermal (s : State) :
    s.Attended (SlotRecord.checked s.profile s.chamber.readings) allSlots (s.forSlots State.checkThermal) := by
  refine State.forSlots_attended fun u i hu => ?_
  rw [State.checkThermal_eq_attend, hu.profile, hu.chamber]

theorem SlotRecord.checked_kept {p : Profile} {readings : Vector Reading 8} {i : SlotId} {r : SlotRecord} {x : Bool}
    (h : thermalCheck p readings[i] r.phase = (r.phase, x)) : (r.checked p readings i).1 = r := by
  rw [SlotRecord.checked, h]

/-- The readings of a frame of eight bytes (R108, R109). -/
theorem frameReadings_get {bs : List Byte} (h : bs.length = 8) (i : SlotId) : (frameReadings bs)[i] =
    if (bs.getD i.val 0#8).toNat ≤ 250 then .valid (bs.getD i.val 0#8).toNat
    else if (bs.getD i.val 0#8).toNat ≤ 254 then .fault else .none := by
  have hi : i.val < bs.length := by rw [h]; exact i.isLt
  have hget : (frameReadings bs)[i] = Reading.ofByte (bs.getD i.val 0xFF#8) := by fin_cases i <;> rfl
  rw [hget, Reading.ofByte]
  simp only [List.getD_eq_getElem bs _ hi]

/-- A gap is a sequence number that is not the previous one plus 1 (R108). -/
theorem seqGap_iff (prev : Option (BitVec 4)) (q : BitVec 4) :
    seqGap prev q = true ↔ prev.isSome ∧ prev.map (· + 1#4) ≠ some q := by
  cases prev with
  | none => simp [seqGap]
  | some n =>
    simp only [seqGap, bne_iff_ne, Option.isSome_some, Option.map_some, ne_eq, Option.some.injEq, true_and]
    exact not_congr eq_comm

/-- A ready part receives characters (R119). -/
theorem State.receiving_iff (s : State) : s.receiving = true ↔ s.ready := by
  simp [State.receiving, State.ready, State.isLoading]

/-- Samples that show one event. -/
theorem State.hearLine_event {s : State} (h : s.ready) {levels : List Bool} {events : List LineEvent}
    (hx : (s.chamber.receiver.run levels).2 = events) :
    s.hearLine levels = events.foldl State.takeEvent (s.withReceiver (s.chamber.receiver.run levels).1) := by
  rw [State.hearLine_receiving _ _ ((State.receiving_iff s).mpr h), hx]
  rfl

/-- Samples that show one byte. -/
theorem State.hearLine_byte {s : State} (h : s.ready) {levels : List Bool} {b : Byte}
    (hx : (s.chamber.receiver.run levels).2 = [.byte b]) :
    s.hearLine levels = (s.withReceiver (s.chamber.receiver.run levels).1).takeByte b := State.hearLine_event h hx

theorem State.frame_withReceiver (s : State) (r : LineReceiver) : (s.withReceiver r).chamber.frame = s.chamber.frame := rfl

/-- A byte taken in HUNT (R106). -/
theorem State.takeByte_hunt {s : State} (h : s.chamber.frame = none) (b : Byte) : s.takeByte b =
    if b.extractLsb' 4 4 = 0xB#4 then s.modChamber (fun c => { c with frame := some { seq := b.extractLsb' 0 4, bytes := [] } })
    else s := by
  unfold State.takeByte syncSequence
  rw [h]
  by_cases hb : b.extractLsb' 4 4 = 0xB#4 <;> simp [hb]

/-- A byte taken in a frame (R106, R108). -/
theorem State.takeByte_frame {s : State} {f : FrameInProgress} (h : s.chamber.frame = some f) (b : Byte) : s.takeByte b =
    if f.bytes.length < 8 then s.modChamber (fun c => { c with frame := some { f with bytes := f.bytes ++ [b] } })
    else s.frameComplete f b := by
  unfold State.takeByte
  rw [h]

/-- The chamber unit at a complete frame, block by block (R108, R112). -/
theorem Chamber.completed_eq (c : Chamber) (f : FrameInProgress) (status : Byte) (now : Time) (h1 : Nat) :
    c.completed f status now h1 = { c with
      frame := none, readings := frameReadings f.bytes, status := status, fresh := true, staleTimer := some now
      seqGaps := if c.prevSeq.isSome ∧ c.prevSeq.map (· + 1#4) ≠ some f.seq then min (c.seqGaps + 1) 65535 else c.seqGaps
      prevSeq := some f.seq, framesTaken := min (c.framesTaken + 1) 4294967295, h1InEffect := h1 } := by
  simp only [Chamber.completed, seqGap_iff]
  rfl

/-- The status byte completes the frame, and every slot is checked once with the new readings (R108, R111). -/
theorem State.hearLine_completes {s : State} (h : s.ready) {levels : List Bool} {b : Byte} {f : FrameInProgress}
    (hx : (s.chamber.receiver.run levels).2 = [.byte b]) (hf : s.chamber.frame = some f) (hl : f.bytes.length = 8) :
    ∃ t, s.hearLine levels = t ∧ State.Attended
      { s with chamber := Chamber.completed { s.chamber with receiver := (s.chamber.receiver.run levels).1 } f b s.timebase s.profile.h1 }
      (SlotRecord.checked s.profile (frameReadings f.bytes)) allSlots t := by
  refine ⟨_, ?_, State.forSlots_checkThermal _⟩
  rw [State.hearLine_byte h hx, State.takeByte_frame ((s.frame_withReceiver _).trans hf), if_neg (by omega)]
  exact congrArg (State.forSlots · State.checkThermal) rfl

/-- The thermal check of a slot's record, phase by phase (R16, R111). -/
theorem SlotRecord.checked_cases (p : Profile) (v : Vector Reading 8) (i : SlotId) (r : SlotRecord) :
    (v[i].Hot p → (∀ a : ActivePhase, r.phase = a.phase → (r.checked p v i).1 = { r with phase := .hold a false true }) ∧
      ∀ a m th, r.phase = .hold a m th → (r.checked p v i).1 = { r with phase := .hold a m true }) ∧
    (v[i].Cool p → ∀ a m th, r.phase = .hold a m th →
      (r.checked p v i).1 = { r with phase := if th = false ∨ m = true then .hold a m false else a.phase }) ∧
    (¬v[i].Hot p → ¬v[i].Cool p → (r.checked p v i).1 = r) ∧
    (r.phase = .empty ∨ r.phase = .idle ∨ r.phase = .gradeWait ∨ r.phase = .graded ∨ r.phase = .sealed → (r.checked p v i).1 = r) ∧
    (v[i].Cool p → (∃ a : ActivePhase, r.phase = a.phase) → (r.checked p v i).1 = r) := by
  refine ⟨fun hh => ⟨fun a ha => ?_, fun a m th ha => ?_⟩, fun hc a m th ha => ?_, fun hh hc => ?_, fun hp => ?_, fun hc ⟨a, ha⟩ => ?_⟩
  · rw [SlotRecord.checked, thermalCheck_hot hh, ha, Phase.addThermal_active]
  · rw [SlotRecord.checked, thermalCheck_hot hh, ha, Phase.addThermal_hold]
  · rw [SlotRecord.checked, thermalCheck_cool hc, ha, Phase.removeThermal_hold]
  · exact SlotRecord.checked_kept (thermalCheck_between hh hc _)
  · exact SlotRecord.checked_kept (thermalCheck_inactive p _ hp)
  · exact SlotRecord.checked_kept (by rw [thermalCheck_cool hc, ha, Phase.removeThermal_active])

/-- Settles O45: runs of samples by the receiver's bits; what the frame receiver takes by the event shown; a complete frame by the
thermal check that every slot takes once. -/
theorem chamberByteTaken : Obligations.ChamberByteTaken := by
  refine ⟨fun data parity => ⟨LineReceiver.run_character_mark data parity, LineReceiver.run_character_space data parity⟩,
    LineReceiver.run_glitch, LineReceiver.run_waiting_space, LineReceiver.run_waiting_mark, fun s levels =>
    ⟨fun hr => ?_, fun hr hx => ?_, fun more => ⟨_, rfl, congrArg Host.Outcome.next (s.hearLine_append levels more)⟩,
      fun b hr hx hf => ?_, fun b f hr hx hf => ⟨fun hl => ?_, fun hl => ?_⟩⟩⟩
  · have hdeaf : s.receiving = false := Bool.eq_false_iff.mpr fun h => hr ((State.receiving_iff s).mp h)
    exact congrArg Host.Outcome.next (s.hearLine_not_receiving levels hdeaf)
  · obtain hx | hx := hx <;> exact congrArg Host.Outcome.next (State.hearLine_event hr hx)
  · have hrun := State.hearLine_byte hr hx
    rw [State.takeByte_hunt ((s.frame_withReceiver _).trans hf)] at hrun
    exact ⟨fun hb => congrArg Host.Outcome.next (hrun.trans (if_neg hb)), fun hb => congrArg Host.Outcome.next (hrun.trans (if_pos hb))⟩
  · have hrun := State.hearLine_byte hr hx
    rw [State.takeByte_frame ((s.frame_withReceiver _).trans hf), if_pos hl] at hrun
    exact congrArg Host.Outcome.next hrun
  · obtain ⟨t, ht, hall⟩ := State.hearLine_completes hr hx hf hl
    have hchamber := hall.apart.chamber
    have hreadings : t.chamber.readings = frameReadings f.bytes := by rw [hchamber]; rfl
    refine ⟨t, congrArg Host.Outcome.next ht, fun i => ?_, ?_, fun i => ?_, fun g hg => ?_, ?_⟩
    · rw [hreadings]; exact frameReadings_get hl i
    · rw [hreadings, hchamber]; exact Chamber.completed_eq _ f b s.timebase s.profile.h1
    · obtain ⟨hhot, hcool, hbetween, hinactive, hactive⟩ := SlotRecord.checked_cases s.profile (frameReadings f.bytes) i (s.slot i)
      rw [hreadings, show t.slot i = _ from hall.slot_all i]
      refine ⟨hhot, hcool, hbetween, hinactive, hactive, (hall.alert_all (.slotAttn i)).trans (or_congr_right ?_)⟩
      refine Iff.trans ?_ (thermalCheck_attention s.profile (frameReadings f.bytes)[i] (s.slot i).phase)
      exact ⟨fun ⟨j, hj, hcheck⟩ => by cases hj; exact hcheck, fun hcheck => ⟨i, rfl, hcheck⟩⟩
    · rw [Bool.eq_iff_iff]
      exact (hall.alert_all g).trans ⟨fun h => h.resolve_right fun ⟨j, hj, _⟩ => hg j hj, .inl⟩
    · rw [hchamber]; exact hall.apart

end Sys2Proof.Machine
end

section
/-!
The lane invariant: every step keeps the data position on an open entry and the sector in progress on the entry at the position (R25,
R29, R60). Commands that are no events of a drive link leave each lane as it is or forget all of it.
-/
namespace Sys2Proof.Machine

/-! ## One lane -/

/-- What `State.laneSafe` says of one lane. -/
structure Lane.Safe (l : Lane) : Prop where
  position : ∀ p, l.position = some p → (l.entry p.entry).isSome = true
  sector : ∀ x, l.sector = some x → ∃ p, l.position = some p ∧ p.entry = x.entry

theorem State.laneSafe_iff (s : State) : s.laneSafe ↔ ∀ i, (s.lane i).Safe :=
  forall_congr' fun _ => ⟨fun ⟨hp, hx⟩ => ⟨hp, hx⟩, fun ⟨hp, hx⟩ => ⟨hp, hx⟩⟩

theorem Lane.Safe.of_none {l : Lane} (hp : l.position = none) (hx : l.sector = none) : l.Safe :=
  ⟨fun p h => by simp [hp] at h, fun x h => by simp [hx] at h⟩

/-- A lane stays safe where open entries stay open, the position stays on its entry and a sector in progress on its own. -/
theorem Lane.Safe.of_kept {l m : Lane} (h : l.Safe) (open' : ∀ e, (l.entry e).isSome = true → (m.entry e).isSome = true)
    (position : m.position.map (·.entry) = l.position.map (·.entry))
    (sector : ∀ x, m.sector = some x → ∃ p, l.position = some p ∧ p.entry = x.entry) : m.Safe := by
  refine ⟨fun p hp => ?_, fun x hx => ?_⟩
  · rw [hp] at position
    obtain ⟨q, hq, he⟩ := Option.map_eq_some_iff.mp position.symm
    have hentry : q.entry = p.entry := he
    exact open' _ (hentry ▸ h.position q hq)
  · obtain ⟨q, hq, he⟩ := sector x hx
    rw [hq] at position
    obtain ⟨p, hp, hpq⟩ := Option.map_eq_some_iff.mp position
    exact ⟨p, hp, hpq.trans he⟩

/-- A lane changed outside its entries, position and sector in progress. -/
theorem Lane.Safe.congr {l m : Lane} (h : l.Safe) (ht : m.tags = l.tags) (hp : m.position = l.position)
    (hx : m.sector = l.sector) : m.Safe :=
  h.of_kept (fun e he => by rwa [Lane.entry, ht]) (by rw [hp]) (fun x hs => h.sector x (hx ▸ hs))

theorem Lane.isSome_setEntry (l : Lane) (e d : EntryId) (t : TagEntry) (h : (l.entry d).isSome = true) :
    ((l.setEntry e (some t)).entry d).isSome = true := by
  rw [Lane.entry_setEntry]; split
  · rfl
  · exact h

theorem Lane.Safe.setEntry {l : Lane} (h : l.Safe) (e : EntryId) (t : TagEntry) : (l.setEntry e (some t)).Safe :=
  h.of_kept (fun d => l.isSome_setEntry e d t) rfl h.sector

theorem Lane.Safe.advance {l : Lane} (h : l.Safe) : l.advance.Safe :=
  h.of_kept (fun _ he => he) (by simp [Lane.advance, Function.comp_def]) h.sector

/-- A freed entry takes the position and the sector in progress on it along (R33, R60). -/
theorem Lane.Safe.free {l : Lane} (h : l.Safe) (e : EntryId) : (l.free e).Safe := by
  refine ⟨fun p hp => ?_, fun x hx => ?_⟩
  · rw [Lane.free_position, Option.filter_eq_some_iff] at hp
    obtain ⟨hp, hne⟩ := hp
    rw [Lane.entry_free, if_neg (Ne.symm (of_decide_eq_true hne))]
    exact h.position p hp
  · rw [Lane.free_sector, Option.filter_eq_some_iff] at hx
    obtain ⟨hx, hne⟩ := hx
    obtain ⟨p, hp, he⟩ := h.sector x hx
    refine ⟨p, ?_, he⟩
    rw [Lane.free_position, Option.filter_eq_some_iff]
    exact ⟨hp, he ▸ hne⟩

/-- A lane that only forgets or changes its sector in progress. -/
theorem Lane.Safe.withSector {l : Lane} (h : l.Safe) (x : Option SectorInProgress)
    (hx : ∀ y, x = some y → ∃ p, l.position = some p ∧ p.entry = y.entry) : Lane.Safe { l with sector := x } :=
  h.of_kept (fun _ he => he) rfl hx

theorem Lane.Safe.moveTo {l : Lane} {e : EntryId} {t : TagEntry} (h : l.entry e = some t) (offset : Nat) :
    (l.moveTo (some { entry := e, offset := offset })).Safe :=
  ⟨fun p hp => by cases hp; exact (congrArg Option.isSome h :), nofun⟩

theorem Lane.Safe.sendsDown {l : Lane} (h : l.Safe) (fs : List SentFrame) : (l.sendsDown fs).Safe := h.congr rfl rfl rfl

theorem Lane.Safe.sendsUp {l : Lane} (h : l.Safe) (fs : List SentFrame) : (l.sendsUp fs).Safe := h.congr rfl rfl rfl

theorem Lane.Safe.sendsData {l : Lane} (h : l.Safe) (d : Direction) (bs : List Byte) (c : OutgoingCheck) :
    (l.sendsData d bs c).Safe := by
  cases d
  · exact h.sendsDown _
  · exact h.sendsUp _

theorem Lane.Safe.relayStatus {l : Lane} (h : l.Safe) (st : DriveStatus) : (l.relayStatus st).Safe := by
  unfold Lane.relayStatus
  split
  · exact h.sendsUp _
  · exact h.congr rfl rfl rfl

theorem Lane.Safe.sendNext {l : Lane} (h : l.Safe) : l.sendNext.Safe := by
  unfold Lane.sendNext
  split
  · exact h
  · exact h.congr rfl rfl rfl

theorem Lane.Safe.joinPending {l : Lane} (h : l.Safe) (e : EntryId) : (l.joinPending e).Safe := by
  rw [Lane.joinPending_eq]; exact h.congr rfl rfl rfl

theorem Lane.Safe.opening {l : Lane} (h : l.Safe) (f : CommandFrame) (t : TagEntry) : (l.opening f t).Safe := by
  have hset : ((l.setEntry (commandEntry f.kind) (some t)).sendsDown [.command f]).Safe := (h.setEntry _ t).sendsDown _
  cases hq : (commandClass f.kind).queued with
  | true => simpa only [Lane.opening, hq, if_true] using hset
  | false =>
    have he : commandEntry f.kind = untagged := by cases hk : f.kind <;> simp_all [commandClass, commandEntry, CommandClass.queued]
    simp only [Lane.opening, hq, Bool.false_eq_true, if_false]
    refine Lane.Safe.moveTo (t := t) ?_ 0
    rw [he]
    exact (l.entry_setEntry untagged untagged _).trans (if_pos rfl)

/-! ## The shared operations on a lane -/

theorem State.laneSafe_of_lanes {s t : State} (h : s.laneSafe) (ht : t.lanes = s.lanes) : t.laneSafe := by
  unfold State.laneSafe State.lane at *
  rwa [ht]

theorem State.modLane_laneSafe {s : State} (h : s.laneSafe) {i : SlotId} {f : Lane → Lane}
    (hf : (s.lane i).Safe → (f (s.lane i)).Safe) : (s.modLane i f).laneSafe := by
  rw [State.laneSafe_iff] at *
  intro j
  rw [State.lane_modLane]
  split
  · exact hf (h i)
  · exact h j

theorem State.report_lanes (s : State) (i : SlotId) (f : SlotRecord → SlotRecord) : (s.report i f).lanes = s.lanes := by
  obtain ⟨-, h⟩ | ⟨-, h⟩ := s.report_cases i f <;> rw [h]
  rfl

theorem State.capturing_lanes (s : State) (e : CaptureEvent) : (s.capturing e).lanes = s.lanes := by
  obtain ⟨-, h⟩ | ⟨-, h⟩ := s.capturing_cases e <;> rw [h]
  exact State.putCapture_lanes _ _

theorem State.insertDefect_lanes (s : State) (i : SlotId) (lba : Nat) (c : Cause) (pass : Nat) :
    (s.insertDefect i lba c pass).lanes = s.lanes := by
  obtain ⟨-, d, free, -, h⟩ | ⟨-, h⟩ := s.insertDefect_cases i lba c pass <;> rw [h]
  rfl

theorem State.report_laneSafe {s : State} (h : s.laneSafe) (i : SlotId) (f : SlotRecord → SlotRecord) :
    (s.report i f).laneSafe := State.laneSafe_of_lanes h (s.report_lanes i f)

theorem State.capturing_laneSafe {s : State} (h : s.laneSafe) (e : CaptureEvent) : (s.capturing e).laneSafe :=
  State.laneSafe_of_lanes h (s.capturing_lanes e)

theorem State.free_laneSafe {s : State} (h : s.laneSafe) (i : SlotId) (e : EntryId) : (s.modLane i (·.free e)).laneSafe :=
  State.modLane_laneSafe h (·.free e)

theorem State.setEntry_laneSafe {s : State} (h : s.laneSafe) (i : SlotId) (e : EntryId) (t : TagEntry) :
    (s.modLane i (·.setEntry e (some t))).laneSafe := State.modLane_laneSafe h (·.setEntry e t)

theorem State.modEntry_laneSafe {s : State} (h : s.laneSafe) (i : SlotId) (e : EntryId) (f : TagEntry → TagEntry) :
    (s.modEntry i e f).laneSafe := by
  obtain ⟨-, hm⟩ | ⟨t, -, hm⟩ := s.modEntry_cases i e f <;> rw [hm]
  · exact h
  · exact State.setEntry_laneSafe h i e _

theorem State.markUntracked_laneSafe {s : State} (h : s.laneSafe) (i : SlotId) (e : EntryId) :
    (s.markUntracked i e).laneSafe := by
  obtain hm | ⟨t, -, -, hm⟩ := s.markUntracked_cases i e <;> rw [hm]
  · exact h
  · exact State.setEntry_laneSafe (State.report_laneSafe h i _) i e _

theorem State.noteOverrun_laneSafe {s : State} (h : s.laneSafe) (i : SlotId) (e : EntryId) (t : TagEntry) :
    (s.noteOverrun i e t).laneSafe := by
  obtain ⟨-, hm⟩ | ⟨-, hm⟩ := s.noteOverrun_cases i e t <;> rw [hm]
  · exact h
  · exact State.setEntry_laneSafe (State.report_laneSafe h i _) i e _

/-! ## Commands and data (R27 to R31, R40) -/

theorem execCommandFrame_laneSafe {i : SlotId} {f : CommandFrame} {s t : State} (h : s.laneSafe)
    (ht : execCommandFrame i f s = .next t) : t.laneSafe := by
  have hcollide : (s.collide i (commandEntry f.kind)).laneSafe := by
    unfold State.collide
    split
    · exact State.free_laneSafe (State.report_laneSafe h i _) i _
    · exact h
  unfold execCommandFrame at ht
  split at ht <;> cases ht
  · exact State.modLane_laneSafe h (·.sendsDown _)
  · split
    · exact State.modLane_laneSafe (State.report_laneSafe hcollide i _) fun hl => ((hl.free _).joinPending _).sendsDown _
    · exact State.modLane_laneSafe hcollide (·.opening f _)

theorem execDataSetupNotice_laneSafe {i : SlotId} {n : SetupNotice} {s t : State} (h : s.laneSafe)
    (ht : execDataSetupNotice i n s = .next t) : t.laneSafe := by
  have hup : (s.modLane i (·.sendsUp [.setup n])).laneSafe := State.modLane_laneSafe h (·.sendsUp _)
  unfold execDataSetupNotice at ht
  dsimp only at ht
  split at ht
  · cases ht; exact hup
  · split at ht
    · cases ht
      exact State.modLane_laneSafe hup fun _ => .of_none rfl rfl
    · rename_i x hx
      split at ht <;> cases ht
      · exact State.modLane_laneSafe hup fun _ => .moveTo hx _
      · refine State.modLane_laneSafe (State.markUntracked_laneSafe hup i _) fun _ => ?_
        obtain hm | ⟨y, -, -, hm⟩ := (s.modLane i (·.sendsUp [.setup n])).markUntracked_cases i (entryOf n.tag) <;> rw [hm]
        · exact .moveTo hx _
        · refine .moveTo (t := { y with untracked := true, snoop := Snoop.discarded }) ?_ _
          rw [State.lane_modLane_self, Lane.entry_setEntry, if_pos rfl]

/-- A sector that a sector action begins is the entry's (R60). -/
theorem beginSector_entry {a : SectorAction} {e : EntryId} {index lba : Nat} {x : SectorInProgress}
    (h : beginSector a e index lba = some x) : x.entry = e := by
  cases a <;> cases h <;> rfl

theorem State.countSubstituted_lanes (s : State) (i : SlotId) (issue : PhaseName) (img : Image) :
    (s.countSubstituted i issue img).lanes = s.lanes := by
  unfold State.countSubstituted
  split
  case h_1 | h_2 | h_3 => exact s.report_lanes i _
  all_goals rfl

theorem State.testResult_lanes (s : State) (i : SlotId) (e : EntryId) (lba pass : Nat) (res : CheckResult) :
    (s.testResult i e lba pass res).lanes = s.lanes := by
  have hcount := s.report_lanes i (SlotRecord.count (·.checkedWith res))
  cases res with
  | isMatch => exact hcount
  | stale p => exact (State.capturing_lanes _ _).trans hcount
  | slip offset => exact (State.capturing_lanes _ _).trans hcount
  | corrupt first expected actual n =>
    exact (State.capturing_lanes _ _).trans ((State.insertDefect_lanes _ i lba .corrupt pass).trans hcount)

theorem State.finishSector_laneSafe {s : State} (h : s.laneSafe) (i : SlotId) (e : EntryId) (t : TagEntry)
    (x : SectorInProgress) : (s.finishSector i e t x).laneSafe := by
  unfold State.finishSector
  split
  · exact h
  · split
    · exact State.laneSafe_of_lanes h (s.countSubstituted_lanes i _ _)
    · unfold State.applyResult
      generalize classify s.patternTable s.sectorSize.words s.profile.slipReach x.image (wordsOf x.received) = res
      have herr : (if res = .isMatch then s
          else s.modEntry i e (fun u => { u with errorSectors := inc16 u.errorSectors })).laneSafe := by
        split
        · exact h
        · exact State.modEntry_laneSafe h i e _
      dsimp only
      split
      case h_1 | h_2 => exact State.laneSafe_of_lanes herr (State.testResult_lanes _ i e _ _ res)
      case h_3 => exact State.report_laneSafe herr i _
      all_goals exact herr

theorem State.passByte_laneSafe {s : State} (h : s.laneSafe) {i : SlotId} {p : Position} (t : TagEntry) (good : Bool) (b : Byte)
    (hp : (s.lane i).position = some p) : (s.passByte i p.entry t p.offset good b).1.laneSafe := by
  unfold State.passByte
  dsimp only
  split
  · have hdone : (s.modLane i (fun l =>
        { (l.setEntry p.entry (some { t with done := t.done + 1 })).advance with sector := none })).laneSafe :=
      State.modLane_laneSafe h fun hl => (hl.setEntry _ _).advance.withSector none nofun
    dsimp only
    split
    · exact hdone
    · exact State.finishSector_laneSafe hdone i _ _ _
  · refine State.modLane_laneSafe h fun hl => hl.advance.withSector _ fun y hy => ?_
    obtain ⟨x, hx, rfl⟩ := Option.map_eq_some_iff.mp hy
    have hentry : x.entry = p.entry := by
      split at hx
      · exact beginSector_entry hx
      · obtain ⟨q, hq, he⟩ := hl.sector x hx
        rw [hp] at hq; cases hq; exact he.symm
    exact ⟨{ p with offset := p.offset + 1 }, by simp [Lane.advance, hp], hentry.symm⟩

theorem State.passOne_laneSafe {s : State} (h : s.laneSafe) (i : SlotId) (good : Bool) (b : Byte) :
    (s.passOne i good b).1.laneSafe := by
  have hadvance {u : State} (hu : u.laneSafe) : (u.modLane i Lane.advance).laneSafe := State.modLane_laneSafe hu (·.advance)
  obtain hm | ⟨p, t, hp, -, hm⟩ := s.passOne_cases i good b
  · rw [hm]; exact h
  · obtain ⟨-, hm⟩ | ⟨-, -, hm⟩ | ⟨-, -, -, hm⟩ | ⟨-, -, -, hm⟩ | ⟨-, -, -, -, hm⟩ := hm <;> rw [hm]
    · exact hadvance (State.noteOverrun_laneSafe h i _ _)
    · refine State.modLane_laneSafe h fun hl => hl.advance.withSector _ fun y hy => ?_
      obtain ⟨x, hx, rfl⟩ := Option.map_eq_some_iff.mp (Option.filter_eq_some_iff.mp hy).1
      obtain ⟨q, hq, he⟩ := hl.sector x hx
      exact ⟨{ q with offset := q.offset + 1 }, by simp [Lane.advance, hq], he⟩
    · exact State.passByte_laneSafe h t good b hp
    · exact State.modLane_laneSafe h fun hl => (hl.setEntry _ _).advance
    · exact hadvance h

theorem execDataFrame_laneSafe {i : SlotId} {f : DataFrame} {s t : State} (h : s.laneSafe)
    (ht : execDataFrame i f s = .next t) : t.laneSafe := by
  have hrelay {u : State} (hu : u.laneSafe) : (u.modLane i (·.relaysData f)).laneSafe :=
    State.modLane_laneSafe hu (·.sendsData _ _ _)
  unfold execDataFrame at ht
  split at ht
  · cases ht; exact hrelay h
  · split at ht
    · cases ht; exact hrelay h
    · split at ht
      · cases ht; exact hrelay h
      · split at ht <;> cases ht
        · exact State.modLane_laneSafe
            (State.passBytes_induct (P := State.laneSafe) i _ (fun u b hu => State.passOne_laneSafe hu i _ b) _ s h)
            (·.sendsData _ _ _)
        · refine hrelay (State.modLane_laneSafe (State.markUntracked_laneSafe h i _) fun hl => hl.withSector _ fun x hx => ?_)
          exact hl.sector x (Option.filter_eq_some_iff.mp hx).1

/-! ## Statuses, timeouts and link reset (R33 to R37, R42) -/

theorem State.sampleEntry_lanes (s : State) (i : SlotId) (t : TagEntry) : (s.sampleEntry i t).lanes = s.lanes := by
  unfold State.sampleEntry
  split
  · exact s.report_lanes i _
  · rfl

theorem State.compareIdentity_lanes (s : State) (i : SlotId) (sn : Snoop) : (s.compareIdentity i sn).lanes = s.lanes := by
  unfold State.compareIdentity
  dsimp only
  split
  · exact (State.capturing_lanes _ _).trans (s.report_lanes i _)
  · rfl

theorem State.offerSnoop_lanes (s : State) (i : SlotId) (t : TagEntry) : (s.offerSnoop i t).lanes = s.lanes := by
  unfold State.offerSnoop
  split
  · split
    case h_1 => rfl
    case h_2 => split <;> rfl
    all_goals exact s.compareIdentity_lanes i _
  · rfl

theorem State.closeSuccess_laneSafe {s : State} (h : s.laneSafe) (i : SlotId) (e : EntryId) : (s.closeSuccess i e).laneSafe := by
  unfold State.closeSuccess
  split
  · exact h
  · refine State.free_laneSafe (State.laneSafe_of_lanes h ?_) i e
    split
    · exact (State.offerSnoop_lanes _ i _).trans (s.sampleEntry_lanes i _)
    · exact s.sampleEntry_lanes i _

theorem execSuccessStatus_laneSafe {i : SlotId} {st : Success} {s t : State} (h : s.laneSafe)
    (ht : execSuccessStatus i st s = .next t) : t.laneSafe := by
  have hrelay : (s.modLane i (·.relayStatus (.success st))).laneSafe := State.modLane_laneSafe h (·.relayStatus _)
  unfold execSuccessStatus at ht
  dsimp only at ht
  split at ht
  · cases ht; exact hrelay
  · cases st with
    | nonQueued => cases ht; exact State.closeSuccess_laneSafe hrelay i _
    | queued tags =>
      cases ht
      refine List.foldlRecOn allTags _ hrelay fun u hu tag _ => ?_
      split
      · exact State.closeSuccess_laneSafe hu i _
      · exact hu

theorem State.mediaError_lanes (s : State) (i : SlotId) (e : EntryId) (t : TagEntry) (lba : Option (BitVec 48)) :
    (s.mediaError i e t lba).lanes = s.lanes := by
  unfold State.mediaError
  split
  case h_3 => exact s.report_lanes i _
  case h_1 | h_2 =>
    dsimp only
    rw [State.capturing_lanes]
    split
    · exact s.report_lanes i _
    · exact (State.insertDefect_lanes _ i _ _ _).trans (s.report_lanes i _)
  all_goals rfl

theorem execErrorStatus_laneSafe {i : SlotId} {r : ErrorReport} {s t : State} (h : s.laneSafe)
    (ht : execErrorStatus i r s = .next t) : t.laneSafe := by
  have hrelay : (s.modLane i (·.relayStatus (.error r))).laneSafe := State.modLane_laneSafe h (·.relayStatus _)
  have hclose : ((s.modLane i (·.relayStatus (.error r))).closeError i r).laneSafe := by
    unfold State.closeError
    dsimp only
    split
    · exact hrelay
    · refine State.free_laneSafe (State.laneSafe_of_lanes hrelay ?_) i _
      split
      · exact State.mediaError_lanes _ i _ _ _
      all_goals rfl
  unfold execErrorStatus at ht
  dsimp only at ht
  split at ht
  · cases ht; exact hrelay
  · split at ht <;> rw [← Host.Outcome.next.inj ht]
    · exact hclose
    · refine List.foldlRecOn allTags _ hclose fun u hu tag _ => ?_
      unfold State.abortSibling
      split
      · exact State.free_laneSafe (State.report_laneSafe hu i _) i _
      · exact hu

theorem State.expireEntry_laneSafe {s : State} (h : s.laneSafe) (i : SlotId) (e : EntryId) : (s.expireEntry i e).laneSafe := by
  obtain hm | ⟨t, f, d, -, hm⟩ := s.expireEntry_cases i e <;> rw [hm]
  · exact h
  · exact State.capturing_laneSafe (State.report_laneSafe (State.setEntry_laneSafe h i e _) i f) _

theorem State.expireSlot_laneSafe {s : State} (h : s.laneSafe) (i : SlotId) : (s.expireSlot i).laneSafe := by
  refine List.foldlRecOn allEntries _ h fun u hu e _ => ?_
  split
  · exact State.expireEntry_laneSafe hu i e
  · exact hu

theorem execCommandTimeout_laneSafe {i : SlotId} {e : EntryId} {s t : State} (h : s.laneSafe)
    (ht : execCommandTimeout i e s = .next t) : t.laneSafe := by
  cases ht
  split
  · exact State.expireEntry_laneSafe h i e
  · exact h

theorem execDriveLinkReset_laneSafe {i : SlotId} {s t : State} (h : s.laneSafe)
    (ht : execDriveLinkReset i s = .next t) : t.laneSafe := by
  unfold execDriveLinkReset at ht
  split at ht <;> cases ht
  · exact h
  · exact State.modLane_laneSafe (State.report_laneSafe h i _) fun _ => .of_none rfl rfl

/-! ## The commands that are no events of a drive link -/

/-- Each lane is as it was or has neither position nor sector in progress. -/
def State.KeepsLanes (s t : State) : Prop :=
  ∀ i, t.lane i = s.lane i ∨ ((t.lane i).position = none ∧ (t.lane i).sector = none)

theorem State.KeepsLanes.laneSafe {s t : State} (h : s.KeepsLanes t) (hs : s.laneSafe) : t.laneSafe := by
  rw [State.laneSafe_iff] at *
  intro i
  obtain hi | ⟨hp, hx⟩ := h i
  · exact hi ▸ hs i
  · exact .of_none hp hx

theorem State.KeepsLanes.of_lanes {s t : State} (h : t.lanes = s.lanes) : s.KeepsLanes t :=
  fun i => .inl (by rw [State.lane, State.lane, h])

theorem State.KeepsLanes.refl (s : State) : s.KeepsLanes s := fun _ => .inl rfl

/-- One lane forgets its entries, the others are as they were (R41). -/
theorem State.KeepsLanes.of_forgotten {s t : State} {i : SlotId} (h : t.lanes = s.lanes.set i (s.lane i).forgotten) :
    s.KeepsLanes t := by
  intro j
  rw [State.lane_of_set h]
  split
  · exact .inr ⟨rfl, rfl⟩
  · exact .inl rfl

/-- Every lane is put in bypass (R45). -/
theorem State.KeepsLanes.of_bypassed {s t : State} (h : t.lanes = s.lanesBypassed) : s.KeepsLanes t :=
  fun i => .inr (by rw [s.lane_of_bypassed h]; exact ⟨rfl, rfl⟩)

theorem State.forSlots_lanes {f : State → SlotId → State} (h : ∀ u i, (f u i).lanes = u.lanes) (s : State) :
    (s.forSlots f).lanes = s.lanes :=
  State.forSlots_induct (P := fun u => u.lanes = s.lanes) (fun u i hu => (h u i).trans hu) s rfl

/-- A management command changes the lanes at most by its effects. -/
theorem State.command_keepsLanes {s : State} {rule : State → Answer} (h : ∀ t p, rule s = .ok t p → s.KeepsLanes t) :
    s.KeepsLanes (s.command rule) := by
  obtain ⟨-, hc⟩ | ⟨-, -, hc⟩ | ⟨-, -, t, p, hr, hc⟩ | ⟨-, -, st, -, hc⟩ := s.command_cases rule <;> rw [hc]
  · exact .refl s
  · exact .of_lanes rfl
  · exact h t p hr
  · exact .of_lanes rfl

theorem State.slotCommand_keepsLanes {s : State} {args : List Byte} {rule : State → SlotId → Answer}
    (h : ∀ i t p, rule s i = .ok t p → s.KeepsLanes t) : s.KeepsLanes (s.command fun s => slotCommand args (rule s)) :=
  State.command_keepsLanes fun t p hr => by
    obtain ⟨i, -, hi⟩ := slotCommand_ok hr
    exact h i t p hi

theorem State.plainCommand_keepsLanes {s : State} {args : List Byte} {answer : State → Answer}
    (h : ∀ t p, answer s = .ok t p → s.KeepsLanes t) : s.KeepsLanes (s.command fun s => plainCommand args (answer s)) :=
  State.command_keepsLanes fun t p hr => h t p (plainCommand_ok hr).2

theorem State.phaseChange_keepsLanes (s : State) (args : List Byte) (f : Phase → Option Phase) :
    s.KeepsLanes (s.command fun s => slotCommand args fun i => s.phaseChange i (f (s.slot i).phase)) :=
  State.slotCommand_keepsLanes fun i t p h => by
    unfold State.phaseChange at h
    split at h <;> cases h
    exact .of_lanes rfl

/-- The phase commands leave the lanes, but for a slot clear's (R8). -/
theorem State.slotClear_keepsLanes (s : State) (i : SlotId) : s.KeepsLanes (s.slotClear i) := by
  rw [State.slotClear_eq]; exact .of_forgotten rfl

theorem execStart_keepsLanes {args : List Byte} {s t : State} (h : execStart args s = .next t) : s.KeepsLanes t := by
  cases h
  refine State.command_keepsLanes fun t p h => ?_
  split at h
  · split at h
    · exact .of_lanes (State.startRun_startsTo h).lanes
    · cases h
  · cases h

theorem execAdvancePass_keepsLanes {args : List Byte} {s t : State} (h : execAdvancePass args s = .next t) : s.KeepsLanes t := by
  cases h
  refine State.slotCommand_keepsLanes fun i t p h => ?_
  split at h
  · split at h <;> cases h
    exact .of_lanes rfl
  · cases h

theorem execGrade_keepsLanes {args : List Byte} {s t : State} (h : execGrade args s = .next t) : s.KeepsLanes t := by
  cases h
  refine State.slotCommand_keepsLanes fun i t p h => ?_
  split at h
  · split at h <;> cases h
    exact .of_lanes rfl
  · cases h

theorem execShip_keepsLanes {args : List Byte} {s t : State} (h : execShip args s = .next t) : s.KeepsLanes t := by
  cases h
  refine State.slotCommand_keepsLanes fun i t p h => ?_
  split at h
  · split at h
    · cases h
    · split at h
      · cases h
      · split at h <;> cases h
        exact .of_lanes rfl
  · cases h

theorem execSeal_keepsLanes {args : List Byte} {s t : State} (h : execSeal args s = .next t) : s.KeepsLanes t := by
  cases h
  refine State.slotCommand_keepsLanes fun i t p h => ?_
  split at h
  · split at h
    · cases h
    · split at h <;> cases h
      exact .of_lanes rfl
  · cases h

theorem execRelease_keepsLanes {args : List Byte} {s t : State} (h : execRelease args s = .next t) : s.KeepsLanes t := by
  cases h
  refine State.slotCommand_keepsLanes fun i t p h => ?_
  split at h <;> cases h
  exact .of_lanes rfl

/-- A lost presence forgets the entries of the slot's lane, or changes no lane (R5 to R7). -/
theorem State.removed_keepsLanes (s : State) (i : SlotId) : s.KeepsLanes (s.removed i) := by
  have horphan : s.KeepsLanes (s.orphan i) := by rw [s.orphan_eq]; exact .of_forgotten rfl
  unfold State.removed
  split
  case h_1 => exact .refl s
  case h_2 => exact .of_forgotten rfl
  case h_3 =>
    split
    · rw [s.depart_eq]; exact .of_forgotten rfl
    · exact horphan
  all_goals exact horphan

theorem execDebounceEnd_keepsLanes {i : SlotId} {s t : State} (h : execDebounceEnd i s = .next t) : s.KeepsLanes t := by
  cases h
  split
  · unfold State.debounced
    dsimp only
    split
    · exact .of_lanes rfl
    · exact (s.setPresence i { s.presenceOf i with debounced := (s.presenceOf i).raw, interval := none }).removed_keepsLanes i
  · exact .refl s

theorem execRawPresenceChange_keepsLanes {i : SlotId} {level : Bool} {s t : State}
    (h : execRawPresenceChange i level s = .next t) : s.KeepsLanes t := by
  cases h
  split
  · exact .refl s
  · split <;> exact .of_lanes rfl

/-! ### The chamber line, grading and the sort port -/

theorem State.takeEvent_lanes (s : State) (e : LineEvent) : (s.takeEvent e).lanes = s.lanes := by
  cases e with
  | byte b =>
    show (s.takeByte b).lanes = s.lanes
    unfold State.takeByte
    split
    · split <;> rfl
    · split
      · rfl
      · exact State.forSlots_lanes (fun u i => by unfold State.checkThermal State.applyHold; split <;> rfl) _
  | error =>
    show s.takeError.lanes = s.lanes
    unfold State.takeError
    split <;> rfl
  | lineBreak => rfl
  | markAfterBreak => rfl

theorem execChamberByte_keepsLanes {levels : List Bool} {s t : State} (h : execChamberByte levels s = .next t) :
    s.KeepsLanes t := by
  cases h
  exact .of_lanes (State.hearLine_induct (P := fun u => u.lanes = s.lanes) (fun _ _ hu => hu)
    (fun u e hu => (u.takeEvent_lanes e).trans hu) s levels rfl)

theorem execChamberCharacterError_keepsLanes {s t : State} (h : execChamberCharacterError s = .next t) : s.KeepsLanes t := by
  cases h
  split
  · split
    · exact .refl s
    · exact .of_lanes (State.takeEvent_lanes _ .error)
  · exact .refl s

theorem execChamberBreak_keepsLanes {s t : State} (h : execChamberBreak s = .next t) : s.KeepsLanes t := by
  cases h
  split <;> exact .of_lanes rfl

theorem execLineBreakClear_keepsLanes {s t : State} (h : execLineBreakClear s = .next t) : s.KeepsLanes t := by
  cases h
  split <;> exact .of_lanes rfl

theorem execStaleTimerExpiry_keepsLanes {s t : State} (h : execStaleTimerExpiry s = .next t) : s.KeepsLanes t := by
  cases h
  split <;> exact .of_lanes rfl

theorem State.soakSlot_lanes (s : State) (i : SlotId) : (s.soakSlot i).lanes = s.lanes := by
  unfold State.soakSlot
  split
  case h_2 => dsimp only; split <;> rfl
  all_goals rfl

theorem execSoakTick_keepsLanes {s t : State} (h : execSoakTick s = .next t) : s.KeepsLanes t := by
  cases h
  split
  · have hslots := State.forSlots_lanes State.soakSlot_lanes s
    unfold State.soakAll
    generalize s.forSlots State.soakSlot = u at hslots
    exact .of_lanes hslots
  · exact .refl s

theorem execGradeTake_keepsLanes {s t : State} (h : execGradeTake s = .next t) : s.KeepsLanes t := by
  unfold execGradeTake at h
  split at h <;> cases h <;> exact .of_lanes rfl

theorem execGradeCompletion_keepsLanes {s t : State} (h : execGradeCompletion s = .next t) : s.KeepsLanes t := by
  unfold execGradeCompletion at h
  split at h <;> cases h
  · exact .refl s
  · unfold State.completeGrade
    dsimp only
    split <;> exact .of_lanes rfl

theorem execTakeAsserted_keepsLanes {s t : State} (h : execTakeAsserted s = .next t) : s.KeepsLanes t := by
  unfold execTakeAsserted at h
  split at h <;> cases h <;> exact .of_lanes rfl

theorem execFaultAsserted_keepsLanes {s t : State} (h : execFaultAsserted s = .next t) : s.KeepsLanes t := by
  cases h
  split <;> exact .of_lanes rfl

theorem execOfferTimerExpiry_keepsLanes {s t : State} (h : execOfferTimerExpiry s = .next t) : s.KeepsLanes t := by
  cases h
  split <;> exact .of_lanes rfl

theorem execSortResume_keepsLanes {args : List Byte} {s t : State} (h : execSortResume args s = .next t) : s.KeepsLanes t := by
  cases h
  refine State.plainCommand_keepsLanes fun t p h => ?_
  split at h <;> cases h
  exact .of_lanes rfl

/-! ### Captures, alerts, windows, queries -/

theorem execCaptureSet_keepsLanes {args : List Byte} {s t : State} (h : execCaptureSet args s = .next t) : s.KeepsLanes t := by
  cases h
  refine State.command_keepsLanes fun t p h => ?_
  split at h
  · split at h
    · split at h <;> cases h
      exact .of_lanes (s.putCapture_lanes _)
    · cases h
  · cases h

theorem execCaptureOpen_keepsLanes {args : List Byte} {s t : State} (h : execCaptureOpen args s = .next t) : s.KeepsLanes t := by
  cases h
  refine State.command_keepsLanes fun t p h => ?_
  split at h
  · split at h <;> cases h
    exact .of_lanes (s.putCapture_lanes _)
  · cases h

theorem execCaptureRead_keepsLanes {args : List Byte} {s t : State} (h : execCaptureRead args s = .next t) : s.KeepsLanes t := by
  cases h
  refine State.plainCommand_keepsLanes fun t p h => ?_
  split at h <;> cases h
  exact .refl s

theorem execCaptureClose_keepsLanes {args : List Byte} {s t : State} (h : execCaptureClose args s = .next t) :
    s.KeepsLanes t := by
  cases h
  exact State.plainCommand_keepsLanes fun t p h => by cases h; exact .of_lanes (s.putCapture_lanes _)

theorem execAlertRead_keepsLanes {args : List Byte} {s t : State} (h : execAlertRead args s = .next t) : s.KeepsLanes t := by
  cases h
  exact State.plainCommand_keepsLanes fun t p h => by cases h; exact .refl s

theorem execAlertAck_keepsLanes {args : List Byte} {s t : State} (h : execAlertAck args s = .next t) : s.KeepsLanes t := by
  cases h
  refine State.command_keepsLanes fun t p h => ?_
  split at h <;> cases h
  exact .of_lanes rfl

theorem execAlertMask_keepsLanes {args : List Byte} {s t : State} (h : execAlertMask args s = .next t) : s.KeepsLanes t := by
  cases h
  refine State.command_keepsLanes fun t p h => ?_
  split at h <;> cases h
  exact .of_lanes rfl

theorem execWindowWrite_keepsLanes {args : List Byte} {s t : State} (h : execWindowWrite args s = .next t) : s.KeepsLanes t := by
  cases h
  refine State.command_keepsLanes fun t p h => ?_
  split at h
  · split at h
    · cases h
    · split at h
      · split at h <;> cases h
        exact .of_lanes (State.forSlots_lanes (fun u i => by split <;> rfl) _)
      · cases h
  · cases h

theorem execWindowRead_keepsLanes {args : List Byte} {s t : State} (h : execWindowRead args s = .next t) : s.KeepsLanes t := by
  cases h
  refine State.command_keepsLanes fun t p h => ?_
  split at h
  · split at h <;> cases h
    exact .refl s
  · cases h

theorem execTableWrite_keepsLanes {args : List Byte} {s t : State} (h : execTableWrite args s = .next t) : s.KeepsLanes t := by
  cases h
  refine State.command_keepsLanes fun t p h => ?_
  split at h
  · split at h
    · split at h
      · split at h <;> cases h
        exact .of_lanes rfl
      · cases h
    · cases h
  · cases h

theorem execStatus_keepsLanes {args : List Byte} {s t : State} (h : execStatus args s = .next t) : s.KeepsLanes t := by
  cases h
  split
  · exact .refl s
  · unfold plainCommand
    split <;> exact .of_lanes rfl

theorem execDefectRead_keepsLanes {args : List Byte} {s t : State} (h : execDefectRead args s = .next t) : s.KeepsLanes t := by
  cases h
  refine State.command_keepsLanes fun t p h => ?_
  split at h
  · split at h
    · split at h <;> cases h
      exact .refl s
    · cases h
  · cases h

theorem State.slotQuery_keepsLanes (s : State) (args : List Byte) (payload : State → SlotId → List Byte) :
    s.KeepsLanes (s.command fun s => slotCommand args fun i => .ok s (payload s i)) :=
  State.slotCommand_keepsLanes fun i t p h => by cases h; exact .refl s

/-! ### Resets, READY and the profile -/

theorem execSoftReset_keepsLanes {args : List Byte} {s t : State} (h : execSoftReset args s = .next t) : s.KeepsLanes t := by
  cases h
  exact State.plainCommand_keepsLanes fun t p h => by cases h; exact .of_bypassed rfl

theorem execProfileReload_keepsLanes {args : List Byte} {s t : State} (h : execProfileReload args s = .next t) :
    s.KeepsLanes t := by
  cases h
  refine State.plainCommand_keepsLanes fun t p h => ?_
  split at h <;> cases h
  exact .of_bypassed rfl

theorem execProfileReady_keepsLanes {eeprom : Option (List Byte)} {s t : State} (h : execProfileReady eeprom s = .next t) :
    s.KeepsLanes t := by
  rw [← Host.Outcome.next.inj h]
  split
  · exact .refl s
  · rename_i kind _ _
    split
    · exact .refl s
    · cases kind <;> exact .of_lanes rfl

/-- PROFILE_SET reaches the lanes by a lowered command timeout alone (R37, R168). -/
theorem execProfileSet_laneSafe {args : List Byte} {s t : State} (h : s.laneSafe) (ht : execProfileSet args s = .next t) :
    t.laneSafe := by
  have hitem (p : Profile) (code old : Nat) : (State.itemTakesEffect { s with profile := p } code old).laneSafe := by
    have hp : State.laneSafe { s with profile := p } := h
    unfold State.itemTakesEffect
    split
    · unfold State.timeoutsLowered
      split
      · exact State.forSlots_induct (P := State.laneSafe) (fun u i hu => State.expireSlot_laneSafe hu i) _ hp
      · exact hp
    · split
      · exact State.laneSafe_of_lanes hp rfl
      · split
        · split
          · exact State.laneSafe_of_lanes hp rfl
          · exact hp
        · split
          · split
            · exact State.laneSafe_of_lanes hp rfl
            · exact hp
          · exact hp
  cases ht
  obtain ⟨-, hc⟩ | ⟨-, -, hc⟩ | ⟨-, -, t, p, hr, hc⟩ | ⟨-, -, st, -, hc⟩ := s.command_cases _ <;> rw [hc]
  · exact h
  · exact h
  · split at hr
    · unfold State.setProfile at hr
      split at hr
      · cases hr
      · split at hr
        · cases hr; exact h
        · split at hr
          · cases hr; exact State.laneSafe_of_lanes h (s.putCapture_lanes _)
          · split at hr
            · rw [← (Answer.ok.inj hr).1]; exact hitem _ _ _
            · cases hr
    · cases hr
  · exact h

/-! ## A whole step -/

/-- The events of a drive link, with PROFILE_SET, which can make entries LATE (R168). -/
def onLinks : Instr → Prop
  | .profileSet _ => True
  | .commandFrame _ _ => True
  | .pendingStatusSend _ => True
  | .dataSetupNotice _ _ => True
  | .dataFrame _ _ => True
  | .successStatus _ _ => True
  | .errorStatus _ _ => True
  | .commandTimeout _ _ => True
  | .driveLinkReset _ => True
  | _ => False

/-- Every other command or event leaves each lane or forgets its position. -/
theorem exec_keepsLanes {c : Instr} {s t : State} (h : exec c s = .next t) (hc : ¬onLinks c) : s.KeepsLanes t := by
  cases c with
  | profileSet args => exact absurd trivial hc
  | commandFrame i f => exact absurd trivial hc
  | pendingStatusSend i => exact absurd trivial hc
  | dataSetupNotice i n => exact absurd trivial hc
  | dataFrame i f => exact absurd trivial hc
  | successStatus i st => exact absurd trivial hc
  | errorStatus i r => exact absurd trivial hc
  | commandTimeout i e => exact absurd trivial hc
  | driveLinkReset i => exact absurd trivial hc
  | chipReset => cases h; exact .of_bypassed rfl
  | chipResetRelease straps => cases h; exact .of_bypassed rfl
  | profileReady eeprom => exact execProfileReady_keepsLanes h
  | unknownCommand code args => cases h; exact State.command_keepsLanes fun _ _ h => by cases h
  | status args => exact execStatus_keepsLanes h
  | slotStatus args => cases h; exact s.slotQuery_keepsLanes args State.slotStatusPayload
  | slotCounters args => cases h; exact s.slotQuery_keepsLanes args (fun s i => (s.slot i).countersPayload)
  | histogram args => cases h; exact s.slotQuery_keepsLanes args State.histogramPayload
  | defectRead args => exact execDefectRead_keepsLanes h
  | start args => exact execStart_keepsLanes h
  | advancePass args => exact execAdvancePass_keepsLanes h
  | endBurn args => cases h; exact s.phaseChange_keepsLanes args Phase.endBurn
  | pause args => cases h; exact s.phaseChange_keepsLanes args Phase.pause
  | resume args => cases h; exact s.phaseChange_keepsLanes args Phase.resume
  | grade args => exact execGrade_keepsLanes h
  | ship args => exact execShip_keepsLanes h
  | sealSlot args => exact execSeal_keepsLanes h
  | release args => exact execRelease_keepsLanes h
  | clearSlot args => cases h; exact State.slotCommand_keepsLanes fun i t p h => by cases h; exact s.slotClear_keepsLanes i
  | windowWrite args => exact execWindowWrite_keepsLanes h
  | windowRead args => exact execWindowRead_keepsLanes h
  | tableWrite args => exact execTableWrite_keepsLanes h
  | captureSet args => exact execCaptureSet_keepsLanes h
  | captureOpen args => exact execCaptureOpen_keepsLanes h
  | captureRead args => exact execCaptureRead_keepsLanes h
  | captureClose args => exact execCaptureClose_keepsLanes h
  | alertRead args => exact execAlertRead_keepsLanes h
  | alertAck args => exact execAlertAck_keepsLanes h
  | alertMask args => exact execAlertMask_keepsLanes h
  | sortResume args => exact execSortResume_keepsLanes h
  | profileReload args => exact execProfileReload_keepsLanes h
  | softReset args => exact execSoftReset_keepsLanes h
  | rawPresenceChange i level => exact execRawPresenceChange_keepsLanes h
  | debounceEnd i => exact execDebounceEnd_keepsLanes h
  | soakTick => exact execSoakTick_keepsLanes h
  | chamberByte levels => exact execChamberByte_keepsLanes h
  | chamberCharacterError => exact execChamberCharacterError_keepsLanes h
  | chamberBreak => exact execChamberBreak_keepsLanes h
  | lineBreakClear => exact execLineBreakClear_keepsLanes h
  | staleTimerExpiry => exact execStaleTimerExpiry_keepsLanes h
  | gradeTake => exact execGradeTake_keepsLanes h
  | gradeCompletion => exact execGradeCompletion_keepsLanes h
  | takeAsserted => exact execTakeAsserted_keepsLanes h
  | takeDeasserted => cases h; exact .of_lanes rfl
  | faultAsserted => exact execFaultAsserted_keepsLanes h
  | faultDeasserted => cases h; exact .of_lanes rfl
  | busyAsserted => cases h; exact .of_lanes rfl
  | busyDeasserted => cases h; exact .of_lanes rfl
  | offerTimerExpiry => exact execOfferTimerExpiry_keepsLanes h

/-- Every command and event keeps the lanes safe. -/
theorem exec_laneSafe {c : Instr} {s t : State} (hs : s.laneSafe) (h : exec c s = .next t) : t.laneSafe := by
  cases c with
  | profileSet args => exact execProfileSet_laneSafe hs h
  | commandFrame i f => exact execCommandFrame_laneSafe hs h
  | pendingStatusSend i => cases h; exact State.modLane_laneSafe hs (·.sendNext)
  | dataSetupNotice i n => exact execDataSetupNotice_laneSafe hs h
  | dataFrame i f => exact execDataFrame_laneSafe hs h
  | successStatus i st => exact execSuccessStatus_laneSafe hs h
  | errorStatus i r => exact execErrorStatus_laneSafe hs h
  | commandTimeout i e => exact execCommandTimeout_laneSafe hs h
  | driveLinkReset i => exact execDriveLinkReset_laneSafe hs h
  | _ => exact (exec_keepsLanes h not_false).laneSafe hs

/-- Settles O55: the events of a drive link by the operations on its lane, every other command by leaving the lanes or forgetting them. -/
theorem laneInvariant : Obligations.LaneInvariant := by
  intro s t hs h
  unfold step at h
  split at h
  · refine exec_laneSafe ?_ h
    exact State.laneSafe_of_lanes hs rfl
  · split at h
    · rename_i c u ho
      obtain ⟨d, -, hd⟩ := Option.map_eq_some_iff.mp ho
      cases hd
      refine exec_laneSafe ?_ h
      exact State.laneSafe_of_lanes hs rfl
    · cases h
      unfold State.tick
      split
      · exact hs
      · exact State.laneSafe_of_lanes hs rfl

end Sys2Proof.Machine
end

section
/-!
What the events of a drive link leave, by the slot's record and lane: reports, the UNTRACKED mark, timeouts. The data-setup notice (R29,
R31), COMMAND_TIMEOUT and DRIVE_LINK_RESET (R37, R41, R42).
-/
namespace Sys2Proof.Machine

/-! ## Reports and captures (R26, R100) -/

theorem Phase.ite_counts {α : Type} (p : Phase) (a b : α) :
    (if p.counts then a else b) = if p = .empty ∨ p = .idle then b else a := by
  by_cases he : p = .empty
  · simp [he, Phase.counts]
  · by_cases hi : p = .idle <;> simp [he, hi, Phase.counts]

theorem Phase.counts_eq_false {p : Phase} : p.counts = false ↔ ¬(p ≠ .empty ∧ p ≠ .idle) := by
  rw [← Phase.counts_iff, Bool.not_eq_true]

theorem State.modLane_eq_withLink (s : State) (i : SlotId) (f : Lane → Lane) :
    s.modLane i f = s.withLink i (s.slot i) (f (s.lane i)) := by
  have h := s.modLane_withLink i (s.slot i) (s.lane i) f
  rwa [s.withLink_self] at h

theorem State.report_eq_withLink (s : State) (i : SlotId) (f : SlotRecord → SlotRecord) :
    s.report i f = s.withLink i (if (s.slot i).phase.counts then f (s.slot i) else s.slot i) (s.lane i) := by
  have h := s.report_withLink i (s.slot i) (s.lane i) f
  rwa [s.withLink_self] at h

theorem State.withLink_lanes_only (s : State) (i : SlotId) (l : Lane) :
    s.withLink i (s.slot i) l = { s with lanes := s.lanes.set i l } := by
  rw [State.withLink, State.slot, eight_set_self]

theorem State.withLink_withLink (s : State) (i : SlotId) (r q : SlotRecord) (l m : Lane) :
    (s.withLink i r l).withLink i q m = s.withLink i q m := by
  simp only [State.withLink, Vector.set_set]

/-- A capture event in a phase that counts is delivered with its flag, and nothing else changes (R100). -/
theorem State.capturing_counts {s : State} {e : CaptureEvent} (h : (s.slot e.slot).phase.counts = true) : s.capturing e =
    { s with capture := (delivered (s.capture, s.alerts) e).1, alerts := (delivered (s.capture, s.alerts) e).2 } :=
  (if_pos h).trans (s.putCapture_delivered e)

theorem State.capturing_not_counts {s : State} {e : CaptureEvent} (h : (s.slot e.slot).phase.counts = false) :
    s.capturing e = s := if_neg (ne_true_of_eq_false h)

/-- A slot record with one anomaly more, in a phase that counts (R26). -/
def SlotRecord.noted (r : SlotRecord) : SlotRecord :=
  if r.phase = .empty ∨ r.phase = .idle then r else r.count TestCounters.anomaly

theorem State.anomaly_withLink (s : State) (i : SlotId) (r : SlotRecord) (l : Lane) :
    (s.withLink i r l).report i (SlotRecord.count TestCounters.anomaly) = s.withLink i r.noted l := by
  rw [State.report_withLink, Phase.ite_counts]; rfl

/-! ## The UNTRACKED mark (R31) -/

theorem Lane.setEntry_self {l : Lane} {e : EntryId} {t : Option TagEntry} (h : l.entry e = t) : l.setEntry e t = l := by
  have hset : l.tags.set e t = l.tags := by
    rw [← h]
    exact Vector.ext fun j hj => by rw [Vector.getElem_set]; split <;> simp_all [Lane.entry]
  rw [Lane.setEntry, hset]

/-- An entry with the UNTRACKED mark, the snoop of a newly marked one discarded (R31). -/
def TagEntry.marked (t : TagEntry) : TagEntry :=
  if t.untracked then t else { t with untracked := true, snoop := Snoop.discarded }

/-- The mark counts one anomaly where it is new (R31). -/
theorem State.markUntracked_withLink (s : State) (i : SlotId) (r : SlotRecord) {l : Lane} {e : EntryId} {t : TagEntry}
    (h : l.entry e = some t) : (s.withLink i r l).markUntracked i e =
      s.withLink i (if t.untracked then r else r.noted) (l.setEntry e (some t.marked)) := by
  unfold State.markUntracked TagEntry.marked
  simp only [State.lane_withLink, h]
  cases hu : t.untracked with
  | true => simp [Lane.setEntry_self h]
  | false => simp [State.anomaly_withLink, State.modLane_withLink]

/-! ## DATA_SETUP_NOTICE (R29) -/

/-- The directions that agree with a class (R29, R30). -/
theorem CommandClass.agrees_iff (c : CommandClass) (d : Direction) : c.agrees d = true ↔
    c = .other ∨ ((c = .qwrite ∨ c = .write) ∧ d = .toDrive) ∨ ((c = .qread ∨ c = .read ∨ c = .ident) ∧ d = .toServer) := by
  cases c <;> cases d <;> simp [CommandClass.agrees]

theorem execDataSetupNotice_bypassed {s : State} {i : SlotId} (n : SetupNotice) (h : s.bypassed i = true) :
    execDataSetupNotice i n s = .next (s.modLane i (·.sendsUp [.setup n])) := if_pos h

/-- A notice for a FREE entry leaves no position (R29). -/
theorem execDataSetupNotice_free {s : State} {i : SlotId} {n : SetupNotice} (hb : s.bypassed i = false)
    (he : (s.lane i).entry (entryOf n.tag) = none) :
    execDataSetupNotice i n s = .next (s.modLane i (fun l => (l.sendsUp [.setup n]).moveTo none)) := by
  have he' : ((s.lane i).sendsUp [.setup n]).entry (entryOf n.tag) = none := he
  unfold execDataSetupNotice
  simp only [hb, Bool.false_eq_true, if_false, State.modLane_eq_withLink, State.lane_withLink, State.slot_withLink,
    State.withLink_withLink, he']

/-- A notice for offset 0 that agrees with the class of its entry sets the position to done x S (R29). -/
theorem execDataSetupNotice_agreed {s : State} {i : SlotId} {n : SetupNotice} {x : TagEntry} (hb : s.bypassed i = false)
    (he : (s.lane i).entry (entryOf n.tag) = some x) (h0 : n.offset = 0) (ha : x.cls.agrees n.direction = true) :
    execDataSetupNotice i n s = .next (s.modLane i (fun l => (l.sendsUp [.setup n]).moveTo
      (some { entry := entryOf n.tag, offset := x.done * s.sectorSize.bytes }))) := by
  have he' : ((s.lane i).sendsUp [.setup n]).entry (entryOf n.tag) = some x := he
  unfold execDataSetupNotice
  simp only [hb, Bool.false_eq_true, if_false, State.modLane_eq_withLink, State.lane_withLink, State.slot_withLink,
    State.withLink_withLink, he', h0, ha, decide_true, Bool.and_self, if_true]

/-- Another notice sets the position to the offset given, and the entry is UNTRACKED (R29, R31). -/
theorem execDataSetupNotice_marks {s : State} {i : SlotId} {n : SetupNotice} {x : TagEntry} (hb : s.bypassed i = false)
    (he : (s.lane i).entry (entryOf n.tag) = some x) (h : n.offset ≠ 0 ∨ ¬x.cls.agrees n.direction = true) :
    execDataSetupNotice i n s = .next (s.withLink i (if x.untracked then s.slot i else (s.slot i).noted)
      ((((s.lane i).sendsUp [.setup n]).setEntry (entryOf n.tag) (some x.marked)).moveTo
        (some { entry := entryOf n.tag, offset := n.offset }))) := by
  have he' : ((s.lane i).sendsUp [.setup n]).entry (entryOf n.tag) = some x := he
  have hnot : ¬(decide (n.offset = 0) && x.cls.agrees n.direction) = true := by
    simpa [or_iff_not_imp_left] using h
  unfold execDataSetupNotice
  simp only [hb, Bool.false_eq_true, if_false]
  rw [State.modLane_eq_withLink, State.lane_withLink]
  simp only [he', if_neg hnot]
  rw [State.markUntracked_withLink s i (s.slot i) he', State.modLane_withLink]

/-- Settles O27: the four courses of a notice, each by the record and the lane it leaves. -/
theorem dataSetupSetsPosition : Obligations.DataSetupSetsPosition := by
  intro s i n e
  have he : e = entryOf n.tag := by unfold e; cases n.tag <;> rfl
  clear_value e
  subst he
  simp only [← CommandClass.agrees_iff]
  have hlane (f : Lane → Lane) : ∀ j, j ≠ i → (s.modLane i f).slot j = s.slot j ∧ (s.modLane i f).lane j = s.lane j :=
    fun j hj => ⟨rfl, State.lane_modLane_ne _ hj.symm _⟩
  cases hb : s.bypassed i with
  | true =>
    refine ⟨_, execDataSetupNotice_bypassed n hb, ?_, ?_, fun _ => ?_, nofun, fun d _ => ?_, ?_, hlane _, rfl⟩ <;>
      rw [State.lane_modLane_self]
    · rfl
    · rfl
    · exact ⟨rfl, rfl, rfl⟩
    · rfl
    · rfl
  | false =>
    cases he : (s.lane i).entry (entryOf n.tag) with
    | none =>
      refine ⟨_, execDataSetupNotice_free hb he, ?_, ?_, nofun, fun _ => ⟨?_, fun _ => ?_, nofun⟩, fun d _ => ?_, ?_, hlane _, rfl⟩ <;>
        rw [State.lane_modLane_self]
      · rfl
      · rfl
      · rfl
      · exact ⟨rfl, rfl, rfl⟩
      · rfl
      · rfl
    | some x =>
      by_cases hagreed : n.offset = 0 ∧ x.cls.agrees n.direction = true
      · obtain ⟨h0, ha⟩ := hagreed
        refine ⟨_, execDataSetupNotice_agreed hb he h0 ha, ?_, ?_, nofun, fun _ => ⟨?_, nofun, fun y hy => ?_⟩, fun d _ => ?_, ?_,
          hlane _, rfl⟩ <;> rw [State.lane_modLane_self]
        · rfl
        · rfl
        · rfl
        · cases hy
          exact ⟨fun _ _ => ⟨rfl, rfl, rfl⟩, fun h => h.elim (absurd h0) (absurd ha)⟩
        · rfl
        · rfl
      · have hmarks : n.offset ≠ 0 ∨ ¬x.cls.agrees n.direction = true := by rwa [← not_and_or]
        refine ⟨_, execDataSetupNotice_marks hb he hmarks, ?_, ?_, nofun, fun _ => ⟨?_, nofun, fun y hy => ?_⟩, fun d hd => ?_, ?_,
          State.withLink_others s i _ _, rfl⟩ <;> rw [State.lane_withLink]
        · rfl
        · rfl
        · rfl
        · cases hy
          refine ⟨fun h0 ha => absurd ⟨h0, ha⟩ hagreed, fun _ => ⟨rfl, (Lane.entry_setEntry _ _ _ _).trans (if_pos rfl), ?_⟩⟩
          rw [State.slot_withLink]
          unfold SlotRecord.noted
          cases x.untracked <;> simp [SlotRecord.count, TestCounters.anomaly, inc16, satAdd, max16]
        · exact (Lane.entry_setEntry _ _ _ _).trans (if_neg hd.symm)
        · rfl

/-! ## COMMAND_TIMEOUT (R37) -/

/-- The count of a timeout by the issue phase of its entry (R37). -/
def SlotRecord.timedOut (r : SlotRecord) (issue : PhaseName) : SlotRecord :=
  if issue = .ship then r.shipBad else r.count (fun c => { c with timeouts := inc16 c.timeouts })

/-- The TIMEOUT event of an entry (R37, R89). -/
def TagEntry.timeoutEvent (x : TagEntry) (i : SlotId) (e : EntryId) (now : Time) : CaptureEvent :=
  { slot := i, tag := e, lba := x.lba, time := now, detail := .timeout x.cls x.count x.done x.errorSectors }

/-- The timeout of an entry: LATE, and in a phase that counts its count and its event (R26, R37). -/
theorem State.expireEntry_eq {s : State} {i : SlotId} {e : EntryId} {x : TagEntry} (h : (s.lane i).entry e = some x) :
    s.expireEntry i e =
      if (s.slot i).phase.counts then
        { s.withLink i ((s.slot i).timedOut x.issuePhase) ((s.lane i).setEntry e (some { x with late := true })) with
          capture := (delivered (s.capture, s.alerts) (x.timeoutEvent i e s.timebase)).1
          alerts := (delivered (s.capture, s.alerts) (x.timeoutEvent i e s.timebase)).2 }
      else s.modLane i (·.setEntry e (some { x with late := true })) := by
  have hcount : (if x.issuePhase = .ship then
        (s.modLane i (·.setEntry e (some { x with late := true }))).report i SlotRecord.shipBad
      else (s.modLane i (·.setEntry e (some { x with late := true }))).report i
        (SlotRecord.count (fun c => { c with timeouts := inc16 c.timeouts }))) =
      s.withLink i (if (s.slot i).phase.counts then (s.slot i).timedOut x.issuePhase else s.slot i)
        ((s.lane i).setEntry e (some { x with late := true })) := by
    rw [State.modLane_eq_withLink, State.report_withLink, State.report_withLink]
    unfold SlotRecord.timedOut
    split <;> rfl
  unfold State.expireEntry
  simp only [h]
  rw [hcount]
  cases hc : (s.slot i).phase.counts with
  | true =>
    rw [if_pos rfl, if_pos rfl, State.capturing_counts (by
      rw [State.slot_withLink, SlotRecord.timedOut]
      split <;> exact hc)]
    rfl
  | false =>
    rw [if_neg nofun, if_neg nofun, State.capturing_not_counts (by rwa [State.slot_withLink]), State.modLane_eq_withLink]

theorem PhaseName.isTimed_iff (p : PhaseName) : p.isTimed = true ↔ p = .burn ∨ p = .scan ∨ p = .ship := by
  cases p <;> simp [PhaseName.isTimed, PhaseName.isTest]

/-- Settles O37: the timeout by the entry's expiry, the link reset by the record and lane it leaves. -/
theorem timeoutAndLinkReset : Obligations.TimeoutAndLinkReset := by
  refine ⟨fun s i e x hb he hlate hissue hage => ?_, fun s i hb => ?_⟩
  · have hdue : s.timeoutDue i e = true := by
      simp [State.timeoutDue, he, hb, hlate, (PhaseName.isTimed_iff _).mpr hissue, hage]
    have hrun : exec (.commandTimeout i e) s = .next (s.expireEntry i e) := congrArg Host.Outcome.next (if_pos hdue)
    rw [State.expireEntry_eq he] at hrun
    cases hc : (s.slot i).phase.counts with
    | true =>
      rw [if_pos hc] at hrun
      have hcounts := (Phase.counts_iff _).mp hc
      refine ⟨_, hrun, rfl, fun _ hship => ?_, fun _ hship => ?_, fun _ => rfl, fun hnot => absurd hcounts hnot, rfl⟩
      · show s.slots.set i ((s.slot i).timedOut x.issuePhase) = _
        rw [SlotRecord.timedOut, if_pos hship]; rfl
      · show s.slots.set i ((s.slot i).timedOut x.issuePhase) = _
        rw [SlotRecord.timedOut, if_neg hship]; rfl
    | false =>
      rw [if_neg (ne_true_of_eq_false hc)] at hrun
      have hnot := Phase.counts_eq_false.mp hc
      exact ⟨_, hrun, rfl, fun h => absurd h hnot, fun h => absurd h hnot, fun h => absurd h hnot, fun _ => rfl, rfl⟩
  · have hrun : exec (.driveLinkReset i) s = .next (s.withLink i
        (if (s.slot i).phase.counts then (s.slot i).count (TestCounters.abandonMany (s.lane i).openEntries.length) else s.slot i)
        (s.lane i).forgotten.dropPending) := by
      refine (if_neg (ne_true_of_eq_false hb)).trans (congrArg Host.Outcome.next ?_)
      rw [State.report_eq_withLink, State.modLane_withLink]
    refine ⟨_, hrun, fun e => ?_, ?_, ?_, ?_, ?_, State.withLink_others s i _ _, rfl⟩
    · rw [State.lane_withLink, Lane.entry_dropPending, Lane.entry_forgotten]
    · rw [State.lane_withLink]; rfl
    · rw [State.lane_withLink]; rfl
    · rw [State.lane_withLink]; rfl
    · rw [State.slot_withLink, Phase.ite_counts, Lane.openEntries, ← List.countP_eq_length_filter]
      rfl

end Sys2Proof.Machine
end

section
/-!
The statuses of a drive (R33 to R36, R38, R39, R43, R44): the entries that close, the sample a success gives, the offer of an IDENT's
snoop, the MEDIA effects and the aborted siblings of an error.
-/
namespace Sys2Proof.Machine

/-! ## Entries that close (R33, R60) -/

/-- An entry closed where it is OPEN or LATE; a FREE one is passed over (R33). -/
def Lane.close (l : Lane) (e : EntryId) : Lane := if (l.entry e).isSome then l.free e else l

/-- The entries of a set closed: the position and a sector in progress leave a closed entry and no other (R60). -/
structure Lane.ClosedBy (l m : Lane) (c : EntryId → Bool) : Prop where
  entry : ∀ e, m.entry e = if c e then none else l.entry e
  position : m.position = l.position.filter (fun p => !(c p.entry && (l.entry p.entry).isSome))
  sector : m.sector = l.sector.filter (fun z => !(c z.entry && (l.entry z.entry).isSome))
  toServer : m.toServer = l.toServer

theorem Lane.ClosedBy.refl (l : Lane) : l.ClosedBy l (fun _ => false) :=
  ⟨fun _ => rfl, by cases l.position <;> rfl, by cases l.sector <;> rfl, rfl⟩

/-- One more entry closed. -/
theorem Lane.ClosedBy.close {l m : Lane} {c : EntryId → Bool} (h : l.ClosedBy m c) (e : EntryId) :
    l.ClosedBy (m.close e) (fun d => c d || d == e) := by
  unfold Lane.close
  cases hc : c e with
  | true =>
    have hfree : m.entry e = none := by rw [h.entry, hc]; rfl
    have hset : (fun d => c d || d == e) = c := by
      funext d
      by_cases hd : d = e <;> simp [hd, hc]
    rw [hfree, hset]
    exact h
  | false =>
    have hopen : m.entry e = l.entry e := by rw [h.entry, hc]; rfl
    cases he : l.entry e with
    | none =>
      have htest (d : EntryId) :
          (!(c d && (l.entry d).isSome)) = !((c d || d == e) && (l.entry d).isSome) := by
        by_cases hd : d = e
        · simp [hd, he]
        · rw [beq_false_of_ne hd, Bool.or_false]
      rw [hopen, he]
      refine ⟨fun d => ?_, ?_, ?_, h.toServer⟩
      · rw [if_neg nofun, h.entry]
        by_cases hd : d = e
        · simp [hd, he]
        · rw [beq_false_of_ne hd, Bool.or_false]
      · exact h.position.trans (congrArg (Option.filter · l.position) (funext fun p => htest p.entry))
      · exact h.sector.trans (congrArg (Option.filter · l.sector) (funext fun z => htest z.entry))
    | some t =>
      have htest (d : EntryId) :
          (!(c d && (l.entry d).isSome) && d != e) = !((c d || d == e) && (l.entry d).isSome) := by
        by_cases hd : d = e
        · simp [hd, he]
        · rw [bne, beq_false_of_ne hd, Bool.or_false, Bool.not_false, Bool.and_true]
      rw [hopen, he, if_pos Option.isSome_some]
      refine ⟨fun d => ?_, ?_, ?_, h.toServer⟩
      · rw [Lane.entry_free, h.entry]
        by_cases hd : d = e
        · simp [hd]
        · rw [if_neg (Ne.symm hd), beq_false_of_ne hd, Bool.or_false]
      · show m.position.filter (fun p => p.entry != e) = _
        rw [h.position, Option.filter_filter]
        exact congrArg (Option.filter · l.position) (funext fun p => htest p.entry)
      · show m.sector.filter (fun z => z.entry != e) = _
        rw [h.sector, Option.filter_filter]
        exact congrArg (Option.filter · l.sector) (funext fun z => htest z.entry)

theorem Lane.ClosedBy.closeAll {l : Lane} (L : List EntryId) : ∀ {m : Lane} {c : EntryId → Bool}, l.ClosedBy m c →
    l.ClosedBy (L.foldl Lane.close m) (fun d => c d || L.contains d) := by
  induction L with
  | nil => intro m c h; simpa using h
  | cons e L ih =>
    intro m c h
    have hrest := ih (h.close e)
    simpa only [List.foldl_cons, List.contains_cons, Bool.or_assoc] using hrest

/-- The same set of closed entries, said another way. -/
theorem Lane.ClosedBy.of_eq {l m : Lane} {c d : EntryId → Bool} (h : l.ClosedBy m c) (hd : ∀ e, d e = c e) : l.ClosedBy m d :=
  funext hd ▸ h

/-- A status on its way changes neither entries nor position nor sector in progress; with nothing waiting it is sent (R33, R34). -/
theorem Lane.relayStatus_eq (l : Lane) (st : DriveStatus) : l.relayStatus st = { l with
    upstream := (l.relayStatus st).upstream, toServer := (l.relayStatus st).toServer, toDrive := [] } := by
  unfold Lane.relayStatus; split <;> rfl

theorem Lane.relayStatus_sends {l : Lane} (st : DriveStatus) (h : l.upstream = []) :
    (l.relayStatus st).toServer = [.status st] := by simp [Lane.relayStatus, h, Lane.sendsUp]

theorem Lane.ClosedBy.of_relayStatus {l m : Lane} {st : DriveStatus} {c : EntryId → Bool} (h : (l.relayStatus st).ClosedBy m c) :
    (∀ e, m.entry e = if c e then none else l.entry e) ∧
      m.position = l.position.filter (fun p => !(c p.entry && (l.entry p.entry).isSome)) ∧
      m.sector = l.sector.filter (fun z => !(c z.entry && (l.entry z.entry).isSome)) ∧
      (l.upstream = [] → m.toServer = [.status st]) := by
  have hserver (hnone : l.upstream = []) : m.toServer = [.status st] := h.toServer.trans (Lane.relayStatus_sends st hnone)
  rw [Lane.relayStatus_eq] at h
  exact ⟨h.entry, h.position, h.sector, hserver⟩

theorem tagEntry_inj {a b : Fin 32} : tagEntry a = tagEntry b ↔ a = b := by
  simp [tagEntry, Fin.ext_iff]

/-- The entries of the tags that meet a test. -/
theorem contains_tagEntries (test : Fin 32 → Bool) (e : EntryId) :
    ((allTags.filter test).map tagEntry).contains e = if h : e.val < 32 then test ⟨e.val, h⟩ else false := by
  have hmem (t : Fin 32) : t ∈ allTags := by revert t; decide
  rw [Bool.eq_iff_iff, List.contains_iff_mem, List.mem_map]
  split
  · rename_i h
    constructor
    · rintro ⟨t, ht, rfl⟩
      exact (List.mem_filter.mp ht).2
    · exact fun ht => ⟨⟨e.val, h⟩, List.mem_filter.mpr ⟨hmem _, ht⟩, rfl⟩
  · rename_i h
    refine ⟨?_, nofun⟩
    rintro ⟨t, -, rfl⟩
    exact absurd t.isLt h

/-! ## One success (R33) -/

/-- A success on an entry leaves the lane with the entry closed. -/
theorem State.lane_closeSuccess (s : State) (i : SlotId) (e : EntryId) :
    (s.closeSuccess i e).lane i = (s.lane i).close e := by
  unfold State.closeSuccess Lane.close
  cases he : (s.lane i).entry e with
  | none => rfl
  | some t =>
    have hlanes : (if t.cls = .ident then (s.sampleEntry i t).offerSnoop i t else s.sampleEntry i t).lanes = s.lanes := by
      split
      · exact (State.offerSnoop_lanes _ i t).trans (s.sampleEntry_lanes i t)
      · exact s.sampleEntry_lanes i t
    dsimp only
    rw [State.lane_modLane_self, if_pos Option.isSome_some, State.lane, hlanes]
    rfl

/-- What a success can change beside the slot's lane: latency, late, identity and anomalies of its record, the capture unit and the
flags of its delivery (R33, R38, R43, R44). -/
structure State.SucceedsTo (s t : State) (i : SlotId) : Prop where
  record : t.slot i = { s.slot i with
    latency := (t.slot i).latency, identity := (t.slot i).identity
    counters := { (s.slot i).counters with
      late := (t.slot i).counters.late, anomalies := (t.slot i).counters.anomalies } }
  others : ∀ j, j ≠ i → t.slot j = s.slot j ∧ t.lane j = s.lane j
  alerts : ∀ g : AlertFlag, g ≠ .captureNew → g ≠ .stagedLost → g ≠ .unmatched → t.alertSet g = s.alertSet g
  apart : t = { s with slots := t.slots, lanes := t.lanes, capture := t.capture, alerts := t.alerts }

theorem State.SucceedsTo.refl (s : State) (i : SlotId) : s.SucceedsTo s i := ⟨rfl, fun _ _ => ⟨rfl, rfl⟩, fun _ _ _ _ => rfl, rfl⟩

theorem State.SucceedsTo.trans {s t u : State} {i : SlotId} (h : s.SucceedsTo t i) (g : t.SucceedsTo u i) : s.SucceedsTo u i where
  record := by rw [g.record, h.record]
  others := fun j hj => ⟨(g.others j hj).1.trans (h.others j hj).1, (g.others j hj).2.trans (h.others j hj).2⟩
  alerts := fun f hn hl hu => (g.alerts f hn hl hu).trans (h.alerts f hn hl hu)
  apart := by rw [g.apart, h.apart]

theorem State.modLane_succeedsTo (s : State) (i : SlotId) (f : Lane → Lane) : s.SucceedsTo (s.modLane i f) i :=
  ⟨rfl, fun _ hj => ⟨rfl, s.lane_modLane_ne hj.symm f⟩, fun _ _ _ _ => rfl, rfl⟩

/-- A record changed in the fields that a success may change. -/
theorem State.modSlot_succeedsTo (s : State) (i : SlotId) (f : SlotRecord → SlotRecord)
    (h : ∀ r, f r = { r with
      latency := (f r).latency, identity := (f r).identity
      counters := { r.counters with late := (f r).counters.late, anomalies := (f r).counters.anomalies } }) :
    s.SucceedsTo (s.modSlot i f) i := by
  refine ⟨?_, fun _ hj => ⟨s.slot_modSlot_ne hj.symm f, rfl⟩, fun _ _ _ _ => rfl, rfl⟩
  rw [State.slot_modSlot_self]
  exact h _

theorem State.report_succeedsTo (s : State) (i : SlotId) (f : SlotRecord → SlotRecord)
    (h : ∀ r, f r = { r with
      latency := (f r).latency, identity := (f r).identity
      counters := { r.counters with late := (f r).counters.late, anomalies := (f r).counters.anomalies } }) :
    s.SucceedsTo (s.report i f) i := by
  obtain ⟨-, hr⟩ | ⟨-, hr⟩ := s.report_cases i f <;> rw [hr]
  · exact s.modSlot_succeedsTo i f h
  · exact .refl s i

/-- A delivery sets only the three flags of the capture unit (R100). -/
theorem CaptureUnit.deliver_flag (u : CaptureUnit) (e : CaptureEvent) {g : AlertFlag} (h : (u.deliver e).2 = some g) :
    g = .captureNew ∨ g = .stagedLost ∨ g = .unmatched := by
  obtain ⟨n, -, hd⟩ | ⟨n, -, hd⟩ | ⟨n, -, -, hd⟩ | ⟨n, st, -, -, hd⟩ | ⟨-, hd⟩ := u.deliver_cases e <;> rw [hd] at h <;> cases h
  · exact .inl rfl
  · exact .inl rfl
  · exact .inr (.inl rfl)
  · exact .inr (.inr rfl)

/-- A captured event changes no alert flag but the three of the capture unit (R100). -/
theorem State.alertSet_capturing (s : State) (e : CaptureEvent) {g : AlertFlag} (hn : g ≠ .captureNew) (hl : g ≠ .stagedLost)
    (hu : g ≠ .unmatched) : (s.capturing e).alertSet g = s.alertSet g := by
  obtain ⟨-, hc⟩ | ⟨-, hc⟩ := s.capturing_cases e <;> rw [hc]
  unfold State.putCapture
  cases hd : (s.capture.deliver e).2 with
  | none => rfl
  | some f =>
    dsimp only
    rw [State.alertSet_raise]
    have hne : g ≠ f := by
      rintro rfl
      exact (s.capture.deliver_flag e hd).elim hn (fun h => h.elim hl hu)
    simp [hne, State.alertSet]

theorem State.capturing_succeedsTo (s : State) (e : CaptureEvent) (i : SlotId) : s.SucceedsTo (s.capturing e) i := by
  have hkept : (s.capturing e).slots = s.slots ∧
      s.capturing e = { s with capture := (s.capturing e).capture, alerts := (s.capturing e).alerts } := by
    obtain ⟨-, h⟩ | ⟨-, h⟩ := s.capturing_cases e <;> rw [h]
    · rw [s.putCapture_delivered]; exact ⟨rfl, rfl⟩
    · exact ⟨rfl, rfl⟩
  obtain ⟨hslots, hapart⟩ := hkept
  have hslot (j : SlotId) : (s.capturing e).slot j = s.slot j := by rw [State.slot, hslots]; rfl
  refine ⟨?_, fun j _ => ⟨hslot j, s.capturing_lane e j⟩, fun g => s.alertSet_capturing e, ?_⟩
  · rw [hslot]
  · rw [hslots, s.capturing_lanes e]; exact hapart

theorem State.sampleEntry_succeedsTo (s : State) (i : SlotId) (t : TagEntry) : s.SucceedsTo (s.sampleEntry i t) i := by
  unfold State.sampleEntry
  split
  · dsimp only
    refine s.report_succeedsTo i _ fun r => ?_
    split <;> rfl
  · exact .refl s i

theorem State.offerSnoop_succeedsTo (s : State) (i : SlotId) (t : TagEntry) : s.SucceedsTo (s.offerSnoop i t) i := by
  have hcompare : s.SucceedsTo (s.compareIdentity i t.snoop) i := by
    unfold State.compareIdentity
    dsimp only
    split
    · exact (s.report_succeedsTo i _ fun _ => rfl).trans (State.capturing_succeedsTo _ _ i)
    · exact .refl s i
  unfold State.offerSnoop
  split
  · split
    case h_1 => exact .refl s i
    case h_2 =>
      split
      · exact .refl s i
      · exact s.modSlot_succeedsTo i _ fun _ => rfl
    all_goals exact hcompare
  · exact .refl s i

theorem State.closeSuccess_succeedsTo (s : State) (i : SlotId) (e : EntryId) : s.SucceedsTo (s.closeSuccess i e) i := by
  unfold State.closeSuccess
  split
  · exact .refl s i
  · refine .trans ?_ (State.modLane_succeedsTo _ i _)
    split
    · exact (s.sampleEntry_succeedsTo i _).trans (State.offerSnoop_succeedsTo _ i _)
    · exact s.sampleEntry_succeedsTo i _

/-- What a success leaves that closes no IDENT (R33, R43). -/
structure State.SameIdentity (s t : State) (i : SlotId) : Prop where
  capture : t.capture = s.capture
  alerts : t.alerts = s.alerts
  identity : (t.slot i).identity = (s.slot i).identity
  anomalies : (t.slot i).counters.anomalies = (s.slot i).counters.anomalies

theorem State.SameIdentity.trans {s t u : State} {i : SlotId} (h : s.SameIdentity t i) (g : t.SameIdentity u i) :
    s.SameIdentity u i :=
  ⟨g.capture.trans h.capture, g.alerts.trans h.alerts, g.identity.trans h.identity, g.anomalies.trans h.anomalies⟩

/-- An entry of another class than IDENT closes with its sample alone (R33). -/
theorem State.closeSuccess_eq {s : State} {i : SlotId} {e : EntryId} {x : TagEntry} (he : (s.lane i).entry e = some x)
    (hx : x.cls ≠ .ident) : s.closeSuccess i e = (s.sampleEntry i x).modLane i (·.free e) := by
  unfold State.closeSuccess
  simp only [he, if_neg hx]

theorem State.sampleEntry_sameIdentity (s : State) (i : SlotId) (t : TagEntry) : s.SameIdentity (s.sampleEntry i t) i := by
  unfold State.sampleEntry
  split
  · rw [State.report_eq_withLink]
    refine ⟨rfl, rfl, ?_, ?_⟩ <;> rw [State.slot_withLink]
    all_goals
      split
      · split <;> rfl
      · rfl
  · exact ⟨rfl, rfl, rfl, rfl⟩

theorem State.closeSuccess_sameIdentity {s : State} {i : SlotId} {e : EntryId}
    (h : ∀ x, (s.lane i).entry e = some x → x.cls ≠ .ident) : s.SameIdentity (s.closeSuccess i e) i := by
  cases he : (s.lane i).entry e with
  | none => rw [State.closeSuccess, he]; exact ⟨rfl, rfl, rfl, rfl⟩
  | some x =>
    rw [State.closeSuccess_eq he (h x he)]
    exact (s.sampleEntry_sameIdentity i x).trans ⟨rfl, rfl, rfl, rfl⟩

/-! ## A success of any set of entries -/

/-- The entries of a list closed by a success, one after the other. -/
def State.closeSuccesses (s : State) (i : SlotId) (L : List EntryId) : State := L.foldl (fun u e => u.closeSuccess i e) s

theorem State.lane_closeSuccesses (i : SlotId) (L : List EntryId) :
    ∀ s : State, (s.closeSuccesses i L).lane i = L.foldl Lane.close (s.lane i) := by
  induction L with
  | nil => exact fun _ => rfl
  | cons e L ih => exact fun s => (ih _).trans (by rw [State.lane_closeSuccess]; rfl)

theorem State.closeSuccesses_succeedsTo (i : SlotId) (L : List EntryId) : ∀ s : State, s.SucceedsTo (s.closeSuccesses i L) i := by
  induction L with
  | nil => exact fun s => .refl s i
  | cons e L ih => exact fun s => (s.closeSuccess_succeedsTo i e).trans (ih _)

theorem State.closeSuccesses_sameIdentity (i : SlotId) (L : List EntryId) : ∀ s : State,
    (∀ e ∈ L, ∀ x, (s.lane i).entry e = some x → x.cls ≠ .ident) → s.SameIdentity (s.closeSuccesses i L) i := by
  induction L with
  | nil => exact fun s _ => ⟨rfl, rfl, rfl, rfl⟩
  | cons e L ih =>
    intro s h
    refine (State.closeSuccess_sameIdentity (h e (List.mem_cons_self ..))).trans (ih _ fun d hd x hx => ?_)
    refine h d (List.mem_cons_of_mem _ hd) x ?_
    rw [State.lane_closeSuccess, Lane.close] at hx
    split at hx
    · rw [Lane.entry_free] at hx
      split at hx
      · cases hx
      · exact hx
    · exact hx

/-- The entries that a success names (R33). -/
def successEntries : Success → List EntryId
  | .nonQueued => [untagged]
  | .queued tags => (allTags.filter (fun t => tags.getLsbD t.val)).map tagEntry

theorem execSuccessStatus_eq {s : State} {i : SlotId} (st : Success) (hb : s.bypassed i = false) :
    execSuccessStatus i st s = .next ((s.modLane i (·.relayStatus (.success st))).closeSuccesses i (successEntries st)) := by
  refine (if_neg (ne_true_of_eq_false hb)).trans ?_
  cases st with
  | nonQueued => rfl
  | queued tags =>
    rw [State.closeSuccesses, successEntries, List.foldl_map, List.foldl_filter]

/-- The entries named, as the statement says it: entry 32 by the non-queued success, tag t by bit t. -/
theorem contains_successEntries (st : Success) (e : EntryId) : (successEntries st).contains e =
    match st with
    | .nonQueued => e.val == 32
    | .queued tags => tags.getLsbD e.val := by
  cases st with
  | nonQueued =>
    rw [Bool.eq_iff_iff, List.contains_iff_mem]
    simp [successEntries, untagged, Fin.ext_iff]
  | queued tags =>
    refine (contains_tagEntries _ e).trans ?_
    split
    · rfl
    · rename_i h
      exact (BitVec.getLsbD_of_ge tags e.val (by omega)).symm

/-! ## The sample (R38, R39) -/

/-- The bucket of a latency: 0 below twice the base, else k where the latency lies from base x 2^k up to base x 2^(k+1), and 15
from base x 2^15 on (R39). -/
theorem latencyBucket_spec {base : Nat} (h : 1 ≤ base) (latency : Nat) :
    ((latencyBucket base latency).val = 0 → latency < 2 * base) ∧
      (0 < (latencyBucket base latency).val → base * 2 ^ (latencyBucket base latency).val ≤ latency) ∧
      (0 < (latencyBucket base latency).val → (latencyBucket base latency).val < 15 →
        latency < base * 2 ^ ((latencyBucket base latency).val + 1)) := by
  have hdiv : ∀ k, k ≤ latency / base ↔ base * k ≤ latency := fun k => by
    rw [Nat.le_div_iff_mul_le h, Nat.mul_comm]
  have hbelow : ∀ k, latency / base < k ↔ latency < base * k := fun k => by
    rw [Nat.div_lt_iff_lt_mul h, Nat.mul_comm]
  unfold latencyBucket
  dsimp only
  split
  · rename_i hq
    refine ⟨fun _ => ?_, nofun, nofun⟩
    rw [Nat.mul_comm]
    exact (hbelow 2).mp hq
  · rename_i hq
    have hq0 : latency / base ≠ 0 := by omega
    have hlog : 1 ≤ Nat.log2 (latency / base) := (Nat.le_log2 hq0).mpr (by omega)
    dsimp only
    refine ⟨fun h0 => by omega, fun _ => ?_, fun _ hlt => ?_⟩
    · rw [← hdiv]
      exact (Nat.pow_le_pow_right (by decide) (Nat.min_le_right _ _)).trans (Nat.log2_self_le hq0)
    · rw [← hbelow, show min 15 (Nat.log2 (latency / base)) = Nat.log2 (latency / base) by omega]
      exact Nat.lt_log2_self

/-- The classes and issue phases that give a sample: the four data classes of BURN and SCAN (R38). -/
theorem TagEntry.sampled_iff (x : TagEntry) : (x.issuePhase.isTest && x.cls.isData) = true ↔
    (x.cls = .qread ∨ x.cls = .qwrite ∨ x.cls = .read ∨ x.cls = .write) ∧ (x.issuePhase = .burn ∨ x.issuePhase = .scan) := by
  cases hc : x.cls <;> cases hp : x.issuePhase <;>
    simp [PhaseName.isTest, CommandClass.isData, CommandClass.writes, CommandClass.reads]

/-- A slot record with the sample of an entry (R38, R39). -/
def SlotRecord.sampled (r : SlotRecord) (p : Profile) (late : Bool) (latency : Nat) : SlotRecord :=
  if late then lateSample latency r else latencySample p latency r

theorem State.sampleEntry_sampled {s : State} {i : SlotId} {x : TagEntry} (hp : (s.slot i).phase.counts = true)
    (hx : (x.issuePhase.isTest && x.cls.isData) = true) :
    s.sampleEntry i x = s.modSlot i (·.sampled s.profile x.late (s.elapsed x.issueTime)) := by
  refine (if_pos hx).trans ((if_pos hp).trans ?_)
  unfold SlotRecord.sampled State.modSlot
  split <;> rfl

theorem State.sampleEntry_none {s : State} {i : SlotId} {x : TagEntry}
    (h : ¬((s.slot i).phase.counts = true ∧ (x.issuePhase.isTest && x.cls.isData) = true)) : s.sampleEntry i x = s := by
  by_cases hx : (x.issuePhase.isTest && x.cls.isData) = true
  · exact (if_pos hx).trans (if_neg fun hp => h ⟨hp, hx⟩)
  · exact if_neg hx

/-- A sample, as R38 and R39 give it. -/
theorem SlotRecord.sampled_spec (r : SlotRecord) {p : Profile} (hbase : 1 ≤ p.latencyBase) (hslow : p.slowBucket ≤ 15) (late : Bool)
    (latency : Nat) : ∃ b : Fin 16, (late = true → b = 15) ∧
      (late = false →
        (b.val = 0 → latency < 2 * p.latencyBase) ∧
        (0 < b.val → p.latencyBase * 2 ^ b.val ≤ latency) ∧
        (0 < b.val → b.val < 15 → latency < p.latencyBase * 2 ^ (b.val + 1))) ∧
      r.sampled p late latency = { r with
        latency :=
          { histogram := r.latency.histogram.set b (min (r.latency.histogram[b] + 1) 65535)
            slowCount := if p.slowBucket ≤ b.val then min (r.latency.slowCount + 1) 65535 else r.latency.slowCount
            maxLatency := max r.latency.maxLatency latency }
        counters := { r.counters with late := if late then min (r.counters.late + 1) 65535 else r.counters.late } } := by
  cases late with
  | true =>
    refine ⟨15, fun _ => rfl, nofun, ?_⟩
    simp only [SlotRecord.sampled, if_true, lateSample, Latency.sample, show p.slowBucket ≤ (15 : Fin 16).val from hslow]
    rfl
  | false =>
    refine ⟨latencyBucket p.latencyBase latency, nofun, fun _ => latencyBucket_spec hbase latency, ?_⟩
    simp only [SlotRecord.sampled, Bool.false_eq_true, if_false, latencySample, Latency.sample, decide_eq_true_eq]
    rfl

/-- One tag named alone. -/
theorem successEntries_single (tag : Fin 32) : successEntries (.queued (1#32 <<< tag.val)) = [tagEntry tag] := by
  revert tag; decide

/-- Settles O34: the closed entries by the list that the success names, the record by what one success can change, a single entry's
sample by its bucket. -/
theorem successClosesEntries : Obligations.SuccessClosesEntries := by
  refine ⟨fun s i st hb => ?_, fun s i st e x hb hone he hx => ?_⟩
  · intro named
    have hnamed (e : EntryId) : named e = (successEntries st).contains e := by
      refine Eq.trans ?_ (contains_successEntries st e).symm
      unfold named; cases st <;> rfl
    clear_value named
    have hclosed : ((s.lane i).relayStatus (.success st)).ClosedBy
        (((s.modLane i (·.relayStatus (.success st))).closeSuccesses i (successEntries st)).lane i) named := by
      rw [State.lane_closeSuccesses, State.lane_modLane_self]
      exact ((Lane.ClosedBy.refl _).closeAll (successEntries st)).of_eq fun e => by rw [hnamed, Bool.false_or]
    obtain ⟨hentry, hposition, hsector, hserver⟩ := hclosed.of_relayStatus
    obtain ⟨hrecord, hothers, halerts, hapart⟩ := (s.modLane_succeedsTo i (·.relayStatus (.success st))).trans
      (State.closeSuccesses_succeedsTo i (successEntries st) _)
    refine ⟨_, execSuccessStatus_eq st hb, hentry, hposition, hsector, hserver, hothers, hrecord, fun hident => ?_, halerts, hapart⟩
    obtain ⟨hcapture, halert, hidentity, hanomalies⟩ := State.closeSuccesses_sameIdentity i (successEntries st)
      (s.modLane i (·.relayStatus (.success st))) fun e he x hx => by
        refine hident e ((hnamed e).trans (List.contains_iff_mem.mpr he)) x ?_
        rwa [State.lane_modLane_self, Lane.entry, Lane.relayStatus_tags] at hx
    exact ⟨hcapture, halert, hidentity, hanomalies⟩
  · have hentries : (successEntries st) = [e] := by
      obtain ⟨rfl, rfl⟩ | ⟨tag, rfl, rfl⟩ := hone
      · rfl
      · exact successEntries_single tag
    have hrun := execSuccessStatus_eq st hb
    have he' : ((s.modLane i (·.relayStatus (.success st))).lane i).entry e = some x := by
      rwa [State.lane_modLane_self, Lane.entry, Lane.relayStatus_tags]
    rw [hentries, State.closeSuccesses, List.foldl_cons, List.foldl_nil, State.closeSuccess_eq he' hx] at hrun
    simp only [← Phase.counts_iff, ← TagEntry.sampled_iff]
    refine ⟨_, hrun, ?_, fun q hq => ?_, fun hnot => ?_, fun hsampled hbase hslow => ?_⟩
    · rw [State.lane_modLane_self, Lane.entry_free, if_pos rfl]
    · rw [State.lane_modLane_self, Lane.free_position, Option.filter_eq_some_iff] at hq
      exact of_decide_eq_true hq.2
    · rw [State.sampleEntry_none (s := s.modLane i (·.relayStatus (.success st))) hnot]; rfl
    · have hsample := State.sampleEntry_sampled (s := s.modLane i (·.relayStatus (.success st))) hsampled.1 hsampled.2
      obtain ⟨b, hlate, hbucket, hrecord⟩ := (s.slot i).sampled_spec hbase hslow x.late (s.elapsed x.issueTime)
      refine ⟨b, hlate, hbucket, ?_, ?_⟩
      · rw [State.slot_modLane, hsample, State.slot_modSlot_self]
        exact hrecord
      · rw [hsample]; rfl

/-! ## The offer of an IDENT's snoop (R43, R44) -/

/-- An IDENT closes with its offer alone (R33, R43). -/
theorem State.closeSuccess_ident {s : State} {i : SlotId} {e : EntryId} {x : TagEntry} (he : (s.lane i).entry e = some x)
    (hx : x.cls = .ident) : s.closeSuccess i e = (s.offerSnoop i x).modLane i (·.free e) := by
  have hnone : s.sampleEntry i x = s := State.sampleEntry_none (by
    simp [hx, CommandClass.isData, CommandClass.writes, CommandClass.reads])
  unfold State.closeSuccess
  simp only [he, if_pos hx, hnone]

/-- An offer is made of a block received whole, with correct checks, on an entry that is not UNTRACKED (R31, R32, R43). -/
def TagEntry.offers (x : TagEntry) : Prop := x.done = 1 ∧ x.snoop.intact = true ∧ x.untracked = false

theorem TagEntry.offers_iff (x : TagEntry) : (x.done = 1 && x.snoop.intact && !x.untracked) = true ↔ x.offers := by
  simp [TagEntry.offers, and_assoc]

theorem State.offerSnoop_none {s : State} {i : SlotId} {x : TagEntry} (h : ¬x.offers) : s.offerSnoop i x = s :=
  if_neg (mt x.offers_iff.mp h)

/-- In IDLE with ORPHANED clear the offered identity becomes the slot's (R43). -/
theorem State.offerSnoop_taken {s : State} {i : SlotId} {x : TagEntry} (h : x.offers) (hp : (s.slot i).phase = .idle)
    (ho : (s.slot i).orphaned = false) : s.offerSnoop i x = s.modSlot i (fun r => { r with identity := x.snoop.identity }) := by
  refine (if_pos (x.offers_iff.mpr h)).trans ?_
  simp only [hp, ho, Bool.false_eq_true, if_false]

/-- In EMPTY, and in IDLE with ORPHANED set, the offer has no taker (R43). -/
theorem State.offerSnoop_ignored {s : State} {i : SlotId} {x : TagEntry} (h : x.offers)
    (hp : (s.slot i).phase = .empty ∨ ((s.slot i).phase = .idle ∧ (s.slot i).orphaned = true)) : s.offerSnoop i x = s := by
  refine (if_pos (x.offers_iff.mpr h)).trans ?_
  obtain hp | ⟨hp, ho⟩ := hp
  · simp only [hp]
  · simp only [hp, ho, if_true]

/-- In a run the offer is compared with the slot's identity (R44). -/
theorem State.offerSnoop_compared {s : State} {i : SlotId} {x : TagEntry} (h : x.offers) (he : (s.slot i).phase ≠ .empty)
    (hi : (s.slot i).phase ≠ .idle) : s.offerSnoop i x = s.compareIdentity i x.snoop := by
  refine (if_pos (x.offers_iff.mpr h)).trans ?_
  cases hp : (s.slot i).phase with
  | empty => exact absurd hp he
  | idle => exact absurd hp hi
  | _ => rfl

/-- The serial of a snoop differs from the slot's (R44). -/
def SlotRecord.serialDiffers (r : SlotRecord) (sn : Snoop) : Bool := decide (sn.serial ≠ r.identity.serial)

/-- The capacity of a snoop differs from the slot's (R44). -/
def SlotRecord.capacityDiffers (r : SlotRecord) (sn : Snoop) : Bool := decide (sn.capacityValue ≠ r.identity.capacity)

theorem State.compareIdentity_eq (s : State) (i : SlotId) (sn : Snoop) : s.compareIdentity i sn =
    if (s.slot i).serialDiffers sn || (s.slot i).capacityDiffers sn then
      (s.report i (SlotRecord.count TestCounters.anomaly)).capturing
        { slot := i, tag := untagged, lba := 0, time := s.timebase
          detail := .anomaly ((s.slot i).serialDiffers sn) ((s.slot i).capacityDiffers sn) sn.capacityValue }
    else s := by
  have hserial : (sn.serial != (s.slot i).identity.serial) = (s.slot i).serialDiffers sn := by
    by_cases h : sn.serial = (s.slot i).identity.serial <;> simp [SlotRecord.serialDiffers, h]
  have hcapacity : (sn.capacityValue != (s.slot i).identity.capacity) = (s.slot i).capacityDiffers sn := by
    by_cases h : sn.capacityValue = (s.slot i).identity.capacity <;> simp [SlotRecord.capacityDiffers, h]
  unfold State.compareIdentity
  simp only [hserial, hcapacity]

/-- Settles O35: the offer by the phase at the completion, its comparison by the two differences. -/
theorem identSetsOrComparesIdentity : Obligations.IdentSetsOrComparesIdentity := by
  intro s i x hb he hx cap id sd cd offered
  have hrun := execSuccessStatus_eq .nonQueued hb
  have he' : ((s.modLane i (·.relayStatus (.success .nonQueued))).lane i).entry untagged = some x := by
    rwa [State.lane_modLane_self, Lane.entry, Lane.relayStatus_tags]
  rw [show successEntries .nonQueued = [untagged] from rfl, State.closeSuccesses, List.foldl_cons, List.foldl_nil] at hrun
  have hothers := ((s.modLane_succeedsTo i (·.relayStatus (.success .nonQueued))).trans
    (State.closeSuccess_succeedsTo _ i untagged)).others
  have hentry (e : EntryId) : (((s.modLane i (·.relayStatus (.success .nonQueued))).closeSuccess i untagged).lane i).entry e =
      if untagged = e then none else (s.lane i).entry e := by
    rw [State.lane_closeSuccess, Lane.close, he', if_pos Option.isSome_some, Lane.entry_free, State.lane_modLane_self,
      Lane.entry, Lane.relayStatus_tags]
    rfl
  have hclose := State.closeSuccess_ident he' hx
  refine ⟨_, hrun, (hentry 32).trans (if_pos rfl), fun e h => (hentry e).trans (if_neg (Ne.symm h)), fun j hj => (hothers j hj).2,
    fun hnot => ?_, fun hoffer => ⟨fun hp ho => ?_, fun hp => ?_, fun hempty hidle hsd hcd => ?_, fun hempty hidle hdiff => ?_⟩⟩
  · rw [hclose, State.offerSnoop_none (s := s.modLane i (·.relayStatus (.success .nonQueued))) hnot]; rfl
  · rw [hclose, State.offerSnoop_taken (s := s.modLane i (·.relayStatus (.success .nonQueued))) hoffer hp ho]; rfl
  · rw [hclose, State.offerSnoop_ignored (s := s.modLane i (·.relayStatus (.success .nonQueued))) hoffer hp]; rfl
  · rw [hclose, State.offerSnoop_compared (s := s.modLane i (·.relayStatus (.success .nonQueued))) hoffer hempty hidle,
      State.compareIdentity_eq, if_neg]
    · rfl
    · rw [Bool.or_eq_true]
      exact fun h => h.elim (ne_true_of_eq_false hsd) (ne_true_of_eq_false hcd)
  · have hcounts : (s.slot i).phase.counts = true := (Phase.counts_iff _).mpr ⟨hempty, hidle⟩
    have hdiffers : ((State.slot (s.modLane i (·.relayStatus (.success .nonQueued))) i).serialDiffers x.snoop ||
        (State.slot (s.modLane i (·.relayStatus (.success .nonQueued))) i).capacityDiffers x.snoop) = true :=
      (Bool.or_eq_true _ _).mpr hdiff
    rw [hclose, State.offerSnoop_compared (s := s.modLane i (·.relayStatus (.success .nonQueued))) hoffer hempty hidle,
      State.compareIdentity_eq, if_pos hdiffers,
      State.report_eq_withLink, if_pos (show (State.slot (s.modLane i _) i).phase.counts = true from hcounts),
      State.capturing_counts (by rw [State.slot_withLink]; exact hcounts)]
    exact ⟨rfl, rfl, rfl⟩

/-! ## The effects of an error (R34, R36) -/

/-- The defects and the free records after the insertion of a reported LBA, as they were where none is reported (R36, R80). -/
def State.mediaInserted (s : State) (i : SlotId) (pass : Nat) : Option (BitVec 48) → Defects × Nat
  | none => ((s.slot i).defects, s.freeExtents)
  | some l => Machine.insertDefect s.profile.defectCap l.toNat .media pass (s.slot i).defects s.freeExtents

/-- The MEDIA event of an entry (R36, R89). -/
def TagEntry.mediaEvent (x : TagEntry) (i : SlotId) (e : EntryId) (now : Time) (lba : Option (BitVec 48)) : CaptureEvent :=
  { slot := i, tag := e, lba := (lba.map BitVec.toNat).getD x.lba, time := now
    detail := .media x.cls x.lba x.count lba.isSome x.errorSectors }

/-- A defect inserted in a phase that counts (R26, R80). -/
theorem State.insertDefect_withLink {r : SlotRecord} (hc : r.phase.counts = true) (s : State) (i : SlotId) (l : Lane) (lba : Nat)
    (c : Cause) (pass : Nat) : (s.withLink i r l).insertDefect i lba c pass =
      State.withLink { s with freeExtents := (Machine.insertDefect s.profile.defectCap lba c pass r.defects s.freeExtents).2 } i
        { r with defects := (Machine.insertDefect s.profile.defectCap lba c pass r.defects s.freeExtents).1 } l := by
  refine (if_pos (show (State.slot (s.withLink i r l) i).phase.counts = true by rwa [State.slot_withLink])).trans ?_
  rw [State.slot_withLink]
  dsimp only
  rw [State.modSlot_withLink]
  rfl

theorem State.capturing_withLink {r : SlotRecord} (hc : r.phase.counts = true) (s : State) (i : SlotId) (l : Lane)
    {e : CaptureEvent} (he : e.slot = i) : (s.withLink i r l).capturing e =
      { s.withLink i r l with
        capture := (delivered (s.capture, s.alerts) e).1, alerts := (delivered (s.capture, s.alerts) e).2 } :=
  State.capturing_counts (by rwa [he, State.slot_withLink])

/-- The counter `media` raised by one (R36). -/
def TestCounters.mediaNoted (c : TestCounters) : TestCounters := { c with media := inc16 c.media }

/-- A MEDIA error of an entry issued in BURN or SCAN, in a phase that counts (R36). -/
theorem State.mediaError_test {s : State} {i : SlotId} {e : EntryId} {x : TagEntry} (lba : Option (BitVec 48))
    (hc : (s.slot i).phase.counts = true) (hp : x.issuePhase = .burn ∨ x.issuePhase = .scan) : s.mediaError i e x lba =
      { s.withLink i { (s.slot i).count TestCounters.mediaNoted with defects := (s.mediaInserted i x.pass lba).1 } (s.lane i) with
        freeExtents := (s.mediaInserted i x.pass lba).2
        capture := (delivered (s.capture, s.alerts) (x.mediaEvent i e s.timebase lba)).1
        alerts := (delivered (s.capture, s.alerts) (x.mediaEvent i e s.timebase lba)).2 } := by
  have hcount : ((s.slot i).count TestCounters.mediaNoted).phase.counts = true := hc
  have hreport : s.report i (SlotRecord.count TestCounters.mediaNoted) =
      s.withLink i ((s.slot i).count TestCounters.mediaNoted) (s.lane i) := by rw [State.report_eq_withLink, if_pos hc]
  cases lba with
  | none =>
    have hcase : s.mediaError i e x none =
        (s.report i (SlotRecord.count TestCounters.mediaNoted)).capturing (x.mediaEvent i e s.timebase none) := by
      unfold State.mediaError
      obtain hp | hp := hp <;> rw [hp] <;> rfl
    rw [hcase, hreport, State.capturing_withLink hcount s i _ rfl]
    rfl
  | some l =>
    have hcase : s.mediaError i e x (some l) = ((s.report i (SlotRecord.count TestCounters.mediaNoted)).insertDefect i l.toNat .media
        x.pass).capturing (x.mediaEvent i e s.timebase (some l)) := by
      unfold State.mediaError
      obtain hp | hp := hp <;> rw [hp] <;> rfl
    rw [hcase, hreport, State.insertDefect_withLink hcount, State.capturing_withLink (by exact hcount) _ i _ rfl]
    rfl

theorem State.slot_mediaError_test {s : State} {i : SlotId} {x : TagEntry} (e : EntryId) (lba : Option (BitVec 48))
    (hc : (s.slot i).phase.counts = true) (hp : x.issuePhase = .burn ∨ x.issuePhase = .scan) : (s.mediaError i e x lba).slot i =
      { (s.slot i).count TestCounters.mediaNoted with defects := (s.mediaInserted i x.pass lba).1 } := by
  rw [State.mediaError_test lba hc hp]
  exact s.slot_withLink i _ (s.lane i)

/-- A MEDIA error of an entry issued in SHIP (R36). -/
theorem State.mediaError_ship {s : State} {i : SlotId} {x : TagEntry} (e : EntryId) (lba : Option (BitVec 48))
    (hc : (s.slot i).phase.counts = true) (hp : x.issuePhase = .ship) : s.mediaError i e x lba = s.modSlot i SlotRecord.shipBad := by
  unfold State.mediaError
  rw [hp]
  exact if_pos hc

/-- A MEDIA error of an entry issued in another phase has no effect (R36). -/
theorem State.mediaError_other {s : State} {i : SlotId} {x : TagEntry} (e : EntryId) (lba : Option (BitVec 48))
    (hb : x.issuePhase ≠ .burn) (hs : x.issuePhase ≠ .scan) (hp : x.issuePhase ≠ .ship) : s.mediaError i e x lba = s := by
  unfold State.mediaError
  cases h : x.issuePhase with
  | burn => exact absurd h hb
  | scan => exact absurd h hs
  | ship => exact absurd h hp
  | _ => rfl

/-- In EMPTY and IDLE a MEDIA error has no effect (R26). -/
theorem State.mediaError_not_counts {s : State} {i : SlotId} (e : EntryId) (x : TagEntry) (lba : Option (BitVec 48))
    (hc : (s.slot i).phase.counts = false) : s.mediaError i e x lba = s := by
  have hreport (f : SlotRecord → SlotRecord) : s.report i f = s := if_neg (ne_true_of_eq_false hc)
  have hinsert (l : Nat) : s.insertDefect i l .media x.pass = s := if_neg (ne_true_of_eq_false hc)
  unfold State.mediaError
  simp only [hreport, hinsert]
  split
  case h_1 | h_2 => cases lba <;> exact State.capturing_not_counts hc
  all_goals rfl

/-- The effect of an error on its failing entry, before the entry closes (R34, R36). -/
def State.errorEffect (s : State) (i : SlotId) (r : ErrorReport) : State :=
  match (s.lane i).entry (entryOf r.tag), r.kind with
  | some x, .media lba => s.mediaError i (entryOf r.tag) x lba
  | some _, .abort => s
  | some _, .interface => s
  | none, _ => s

theorem State.errorEffect_media {s : State} {i : SlotId} {r : ErrorReport} {x : TagEntry} {lba : Option (BitVec 48)}
    (he : (s.lane i).entry (entryOf r.tag) = some x) (hk : r.kind = .media lba) :
    s.errorEffect i r = s.mediaError i (entryOf r.tag) x lba := by
  unfold State.errorEffect; rw [he, hk]

/-- An error of another kind, on a FREE entry or in a phase that does not count has no effect (R26, R36). -/
theorem State.errorEffect_none {s : State} {i : SlotId} {r : ErrorReport} (h : (∀ lba, r.kind ≠ .media lba) ∨
    (s.lane i).entry (entryOf r.tag) = none ∨ (s.slot i).phase.counts = false) : s.errorEffect i r = s := by
  unfold State.errorEffect
  split
  · rename_i x lba he hk
    obtain hkind | hfree | hc := h
    · exact absurd hk (hkind lba)
    · rw [hfree] at he; cases he
    · exact State.mediaError_not_counts _ x lba hc
  all_goals rfl

/-- What an error can change beside the slot's lane: media, the ship state and the defects of its record, the free records, the
capture unit and the flags of its delivery (R36). -/
structure State.ErrsTo (s t : State) (i : SlotId) : Prop where
  record : t.slot i = { s.slot i with
    ship := (t.slot i).ship, defects := (t.slot i).defects
    counters := { (s.slot i).counters with media := (t.slot i).counters.media } }
  others : ∀ j, j ≠ i → t.slot j = s.slot j
  lanes : t.lanes = s.lanes
  alerts : ∀ g : AlertFlag, g ≠ .captureNew → g ≠ .stagedLost → g ≠ .unmatched → t.alertSet g = s.alertSet g
  apart : t = { s with slots := t.slots, freeExtents := t.freeExtents, capture := t.capture, alerts := t.alerts }

theorem State.ErrsTo.refl (s : State) (i : SlotId) : s.ErrsTo s i := ⟨rfl, fun _ _ => rfl, rfl, fun _ _ _ _ => rfl, rfl⟩

theorem State.mediaError_errsTo (s : State) (i : SlotId) (e : EntryId) (x : TagEntry) (lba : Option (BitVec 48)) :
    s.ErrsTo (s.mediaError i e x lba) i := by
  cases hc : (s.slot i).phase.counts with
  | false => rw [State.mediaError_not_counts e x lba hc]; exact .refl s i
  | true =>
    by_cases hp : x.issuePhase = .burn ∨ x.issuePhase = .scan
    · have hslot := State.slot_mediaError_test e lba hc hp
      refine ⟨by rw [hslot]; rfl, fun j hj => ?_, ?_, fun g hn hl hu => ?_, ?_⟩
      · rw [State.mediaError_test lba hc hp]
        exact (s.withLink_others i _ (s.lane i) j hj).1
      · rw [State.mediaError_test lba hc hp]
        exact eight_set_self s.lanes i
      · rw [State.mediaError_test lba hc hp]
        have hflag := s.alertSet_capturing (x.mediaEvent i e s.timebase lba) hn hl hu
        rw [State.capturing_counts (e := x.mediaEvent i e s.timebase lba) hc] at hflag
        exact hflag
      · rw [State.mediaError_test lba hc hp, State.withLink, State.lane, eight_set_self]
    · obtain ⟨hb, hs⟩ := not_or.mp hp
      by_cases hship : x.issuePhase = .ship
      · rw [State.mediaError_ship e lba hc hship]
        exact ⟨by rw [State.slot_modSlot_self]; rfl, fun j hj => s.slot_modSlot_ne hj.symm _, rfl, fun _ _ _ _ => rfl, rfl⟩
      · rw [State.mediaError_other e lba hb hs hship]; exact .refl s i

theorem State.errorEffect_errsTo (s : State) (i : SlotId) (r : ErrorReport) : s.ErrsTo (s.errorEffect i r) i := by
  unfold State.errorEffect
  split
  · exact s.mediaError_errsTo i _ _ _
  all_goals exact .refl s i

/-- An error closes its failing entry after its effect (R34). -/
theorem State.closeError_eq (s : State) (i : SlotId) (r : ErrorReport) :
    s.closeError i r = (s.errorEffect i r).modLane i (·.close (entryOf r.tag)) := by
  have hlane : (s.errorEffect i r).lane i = s.lane i := by
    unfold State.lane; rw [(s.errorEffect_errsTo i r).lanes]
  unfold State.closeError
  dsimp only
  cases he : (s.lane i).entry (entryOf r.tag) with
  | none =>
    have hkept : (s.lane i).close (entryOf r.tag) = s.lane i := if_neg (by simp [he])
    rw [State.modLane_eq_withLink, hlane, hkept, State.errorEffect_none (.inr (.inl he)), State.withLink_self]
  | some x =>
    have hfree : (s.lane i).close (entryOf r.tag) = (s.lane i).free (entryOf r.tag) := if_pos (by simp [he])
    rw [State.modLane_eq_withLink (s.errorEffect i r), hlane, hfree, ← hlane,
      ← State.modLane_eq_withLink (s.errorEffect i r) i (·.free (entryOf r.tag))]
    unfold State.errorEffect
    rw [he]
    cases r.kind <;> rfl

/-! ## Aborted siblings (R35) -/

/-- A slot record with `n` aborted commands more, in a phase that counts (R26, R35). -/
def SlotRecord.abortedBy (r : SlotRecord) (n : Nat) : SlotRecord :=
  if r.phase.counts then
    r.count (fun c => { c with aborted := if n = 0 then c.aborted else min (c.aborted + n) 65535 })
  else r

theorem SlotRecord.abortedBy_zero (r : SlotRecord) : r.abortedBy 0 = r := by
  unfold SlotRecord.abortedBy; split <;> rfl

theorem SlotRecord.abortedBy_succ (r : SlotRecord) (n : Nat) : (r.abortedBy 1).abortedBy n = r.abortedBy (n + 1) := by
  unfold SlotRecord.abortedBy
  cases hc : r.phase.counts with
  | false => simp [hc]
  | true =>
    simp only [if_true, SlotRecord.count, hc, if_false, Nat.succ_ne_zero]
    split <;> simp <;> omega

theorem State.abortSibling_eq (i : SlotId) (s : State) (g : Fin 32) : State.abortSibling i s g =
    s.withLink i ((s.slot i).abortedBy (if ((s.lane i).entry (tagEntry g)).isSome then 1 else 0)) ((s.lane i).close (tagEntry g)) := by
  unfold State.abortSibling Lane.close
  split
  · rw [State.report_eq_withLink, State.modLane_withLink]; rfl
  · rw [SlotRecord.abortedBy_zero, State.withLink_self]

theorem Lane.entry_close (l : Lane) (e d : EntryId) : (l.close e).entry d = if e = d then none else l.entry d := by
  unfold Lane.close
  split
  · rw [Lane.entry_free]
  · rename_i h
    split
    · rename_i hd
      rwa [hd, Option.isSome_iff_ne_none, not_not] at h
    · rfl

/-- Every open sibling of a list closes and is counted once (R35). -/
theorem State.abortSiblings_eq (i : SlotId) (L : List (Fin 32)) (hL : L.Nodup) : ∀ s : State, L.foldl (State.abortSibling i) s =
    s.withLink i ((s.slot i).abortedBy (L.countP (fun t => ((s.lane i).entry (tagEntry t)).isSome)))
      ((L.map tagEntry).foldl Lane.close (s.lane i)) := by
  induction L with
  | nil => intro s; rw [List.countP_nil, SlotRecord.abortedBy_zero]; exact (s.withLink_self i).symm
  | cons g L ih =>
    intro s
    obtain ⟨hg, hL⟩ := List.nodup_cons.mp hL
    have hrest : L.countP (fun t => (((s.lane i).close (tagEntry g)).entry (tagEntry t)).isSome) =
        L.countP (fun t => ((s.lane i).entry (tagEntry t)).isSome) :=
      List.countP_congr fun t ht => by
        rw [Lane.entry_close, if_neg (by rw [tagEntry_inj]; rintro rfl; exact hg ht)]
    rw [List.foldl_cons, ih hL, State.abortSibling_eq, State.withLink_withLink, State.slot_withLink, State.lane_withLink, hrest,
      List.countP_cons]
    split
    · rw [SlotRecord.abortedBy_succ]; rfl
    · rw [SlotRecord.abortedBy_zero]; rfl

/-! ## ERROR_STATUS (R34 to R36) -/

/-- The tags that an error of a queued command closes beside the failing one: all, and none for entry 32 (R35). -/
def siblingTags (tag : Option (Fin 32)) : List (Fin 32) := if tag.isSome then allTags else []

theorem execErrorStatus_eq {s : State} {i : SlotId} (r : ErrorReport) (hb : s.bypassed i = false) : execErrorStatus i r s =
    .next ((siblingTags r.tag).foldl (State.abortSibling i)
      ((s.modLane i (·.relayStatus (.error r))).closeError i r)) := by
  refine (if_neg (ne_true_of_eq_false hb)).trans ?_
  cases r.tag <;> simp only [siblingTags] <;> rfl

/-- The open siblings counted after the failing entry closed (R35). -/
theorem countP_siblings (l : Lane) (tag : Option (Fin 32)) :
    (siblingTags tag).countP (fun t => ((l.close (entryOf tag)).entry (tagEntry t)).isSome) = match tag with
      | none => 0
      | some g => allTags.countP (fun t => t ≠ g ∧ (l.entry (tagEntry t)).isSome) := by
  cases tag with
  | none => rfl
  | some g =>
    refine List.countP_congr fun t _ => ?_
    rw [decide_eq_true_iff]
    rw [show entryOf (some g) = tagEntry g from rfl, Lane.entry_close]
    by_cases ht : t = g
    · simp [ht]
    · rw [if_neg (by rw [tagEntry_inj]; exact Ne.symm ht)]
      simp [ht]

theorem siblingTags_nodup (tag : Option (Fin 32)) : (siblingTags tag).Nodup := by
  cases tag with
  | none => exact List.nodup_nil
  | some _ => exact (show allTags.Nodup by decide)

theorem contains_siblings (tag : Option (Fin 32)) (e : EntryId) :
    ((siblingTags tag).map tagEntry).contains e = (tag.isSome && decide (e.val < 32)) := by
  cases tag with
  | none => rfl
  | some g =>
    have hall := contains_tagEntries (fun _ => true) e
    rw [List.filter_true] at hall
    rw [show siblingTags (some g) = allTags from rfl, hall]
    split <;> simp [*]

/-- The lane after an error: the failing entry and its siblings closed (R34, R35). -/
theorem Lane.closedBy_error (l : Lane) (tag : Option (Fin 32)) :
    l.ClosedBy (((siblingTags tag).map tagEntry).foldl Lane.close (l.close (entryOf tag)))
      (fun e => e == entryOf tag || (tag.isSome && decide (e.val < 32))) :=
  (((Lane.ClosedBy.refl l).close (entryOf tag)).closeAll _).of_eq fun e => by rw [Bool.false_or, contains_siblings]

theorem SlotRecord.abortedBy_eq (r : SlotRecord) (n : Nat) : r.abortedBy n =
    { r with counters := { r.counters with aborted := (r.abortedBy n).counters.aborted } } := by
  unfold SlotRecord.abortedBy; split <;> rfl

/-- What an error status leaves: its effect, the aborted siblings counted, the entries closed (R34 to R36). -/
theorem execErrorStatus_out {s : State} {i : SlotId} (r : ErrorReport) (hb : s.bypassed i = false) (n : Nat)
    (hn : n = (siblingTags r.tag).countP (fun t => (((s.lane i).close (entryOf r.tag)).entry (tagEntry t)).isSome)) :
    ∃ l, ((s.lane i).relayStatus (.error r)).ClosedBy l (fun e => e == entryOf r.tag || (r.tag.isSome && decide (e.val < 32))) ∧
      execErrorStatus i r s = .next (((s.modLane i (·.relayStatus (.error r))).errorEffect i r).withLink i
        ((((s.modLane i (·.relayStatus (.error r))).errorEffect i r).slot i).abortedBy n) l) := by
  have hlane : ((s.modLane i (·.relayStatus (.error r))).errorEffect i r).lane i = (s.lane i).relayStatus (.error r) := by
    unfold State.lane; rw [(State.errorEffect_errsTo _ i r).lanes]; exact s.lane_modLane_self i _
  have hentries (e : EntryId) : (((s.lane i).relayStatus (.error r)).close (entryOf r.tag)).entry e =
      ((s.lane i).close (entryOf r.tag)).entry e := by
    rw [Lane.entry_close, Lane.entry_close, Lane.entry, Lane.relayStatus_tags]
    rfl
  refine ⟨_, Lane.closedBy_error _ r.tag, ?_⟩
  rw [execErrorStatus_eq r hb, State.closeError_eq, State.abortSiblings_eq i _ (siblingTags_nodup r.tag), State.modLane_eq_withLink,
    State.withLink_withLink, State.slot_withLink, State.lane_withLink, hlane, hn]
  simp only [hentries]

/-- Settles O36: the effect on the failing entry, the abort of its siblings, the entries that close. -/
theorem errorStatusClosesAndAborts : Obligations.ErrorStatusClosesAndAborts := by
  intro s i r hb failing q counts siblings closed onlyCloses
  have hfailing : failing = entryOf r.tag := by unfold failing; cases r.tag <;> rfl
  have hsiblings : siblings =
      (siblingTags r.tag).countP (fun t => (((s.lane i).close (entryOf r.tag)).entry (tagEntry t)).isSome) := by
    refine Eq.trans ?_ (countP_siblings (s.lane i) r.tag).symm
    unfold siblings; cases r.tag <;> rfl
  clear_value siblings
  clear_value failing
  subst hfailing
  obtain ⟨l, hclosed, hrun⟩ := execErrorStatus_out r hb siblings hsiblings
  obtain ⟨hentry, hposition, hsector, hserver⟩ := hclosed.of_relayStatus
  have hcounts : counts ↔ (s.slot i).phase.counts = true := (Phase.counts_iff _).symm
  have he1 (x : TagEntry) (he : (s.lane i).entry (entryOf r.tag) = some x) :
      ((s.modLane i (·.relayStatus (.error r))).lane i).entry (entryOf r.tag) = some x := by
    rwa [State.lane_modLane_self, Lane.entry, Lane.relayStatus_tags]
  have herrs := State.errorEffect_errsTo (s.modLane i (·.relayStatus (.error r))) i r
  have hmedia (x : TagEntry) (lba) (he : (s.lane i).entry (entryOf r.tag) = some x) (hk : r.kind = .media lba) :=
    State.errorEffect_media (he1 x he) hk
  have hnone : (∀ lba, r.kind ≠ .media lba) ∨ (s.lane i).entry (entryOf r.tag) = none ∨ (s.slot i).phase.counts = false → _ :=
    fun h => State.errorEffect_none (s := s.modLane i (·.relayStatus (.error r))) (i := i) (r := r)
      (h.imp id (Or.imp_left fun h => by rwa [State.lane_modLane_self, Lane.entry, Lane.relayStatus_tags]))
  generalize State.errorEffect _ i r = u at hrun herrs hmedia hnone
  obtain ⟨hrecord, hothers, hlanes, halerts, hapart⟩ := herrs
  have hphase : (u.slot i).phase = (s.slot i).phase := by rw [hrecord]; rfl
  have hslot : (u.withLink i ((u.slot i).abortedBy siblings) l).slot i = (u.slot i).abortedBy siblings := u.slot_withLink i _ l
  have hkept : ((u.slot i).abortedBy siblings).counters.media = (u.slot i).counters.media ∧
      ((u.slot i).abortedBy siblings).ship = (u.slot i).ship ∧ ((u.slot i).abortedBy siblings).defects = (u.slot i).defects := by
    rw [SlotRecord.abortedBy_eq]; exact ⟨rfl, rfl, rfl⟩
  rw [← hslot] at hkept
  obtain ⟨hm, hship, hdefects⟩ := hkept
  have honly (h : u = s.modLane i (·.relayStatus (.error r))) : onlyCloses (u.withLink i ((u.slot i).abortedBy siblings) l) :=
    ⟨hm.trans (by rw [h]; rfl), hship.trans (by rw [h]; rfl), hdefects.trans (by rw [h]; rfl),
      (congrArg State.freeExtents h : u.freeExtents = _), (congrArg State.capture h : u.capture = _),
      (congrArg State.alerts h : u.alerts = _)⟩
  refine ⟨_, hrun, fun e => ?_, ?_, ?_, ?_, fun hc => ?_, fun x lba hc he hk => ⟨fun hp => ?_, fun hp => ?_, fun hb hs hp => ?_⟩,
    fun h => honly (hnone (h.imp id (Or.imp_right ?_))), fun hc => ?_, ?_, halerts, fun j hj => ⟨?_, ?_⟩, ?_⟩
  · rw [State.lane_withLink, hentry]
    simp
  · rw [State.lane_withLink]; exact hposition
  · rw [State.lane_withLink]; exact hsector
  · rw [State.lane_withLink]; exact hserver
  · rw [hslot, SlotRecord.abortedBy, hphase, if_pos (hcounts.mp hc), hrecord]
    rfl
  · have hu := (hmedia x lba he hk).trans (State.mediaError_test lba (hcounts.mp hc) hp)
    have hrecord : u.slot i = { (s.slot i).count TestCounters.mediaNoted with defects := (s.mediaInserted i x.pass lba).1 } := by
      rw [hmedia x lba he hk]
      exact State.slot_mediaError_test (entryOf r.tag) lba (hcounts.mp hc) hp
    have hfree : u.freeExtents = (s.mediaInserted i x.pass lba).2 := by rw [hu]; rfl
    rw [hm, hship, hdefects, hrecord]
    refine ⟨rfl, rfl, ?_, ?_, ?_⟩
    · rintro rfl; exact ⟨rfl, hfree⟩
    · rintro y rfl; exact congrArg (Prod.mk _) hfree
    · exact (congrArg (fun v : State => (v.capture, v.alerts)) hu : (u.capture, u.alerts) = _)
  · have hu := (hmedia x lba he hk).trans (State.mediaError_ship (entryOf r.tag) lba (hcounts.mp hc) hp)
    have hrecord : u.slot i = (s.slot i).shipBad := by rw [hu]; exact State.slot_modSlot_self _ i _
    rw [hm, hship, hdefects, hrecord]
    exact ⟨rfl, rfl, rfl, (congrArg State.freeExtents hu : u.freeExtents = _), (congrArg State.capture hu : u.capture = _),
      (congrArg State.alerts hu : u.alerts = _)⟩
  · exact honly ((hmedia x lba he hk).trans (State.mediaError_other _ lba hb hs hp))
  · exact fun hc => Bool.eq_false_iff.mpr (mt hcounts.mpr hc)
  · have hc : (s.slot i).phase.counts = false := Bool.eq_false_iff.mpr (mt hcounts.mpr hc)
    rw [hslot, SlotRecord.abortedBy, hphase, if_neg (ne_true_of_eq_false hc), hnone (.inr (.inr hc))]
    rfl
  · rw [hslot, SlotRecord.abortedBy_eq, hrecord]
    rfl
  · exact (u.withLink_others i _ l j hj).1.trans (hothers j hj)
  · rw [(u.withLink_others i _ l j hj).2, State.lane, hlanes]
    exact s.lane_modLane_ne hj.symm _
  · rw [hapart]; rfl

end Sys2Proof.Machine
end

section
/-!
The bytes of a frame within one sector of a followed data command (R30, R51, R60, R65): the sector in progress they belong to, the bytes
the lane sends for them, and what the last byte of the sector causes (R66 to R74).
-/
namespace Sys2Proof.Machine

/-! ## The frame at the data position (R24, R30) -/

theorem State.modLane_modLane (s : State) (i : SlotId) (f g : Lane → Lane) :
    (s.modLane i f).modLane i g = s.modLane i (fun l => g (f l)) := by
  unfold State.modLane
  rw [show State.lane { s with lanes := s.lanes.set i (f (s.lane i)) } i = f (s.lane i) from s.lane_modLane_self i f,
    Vector.set_set]

theorem State.modLane_congr {s : State} {i : SlotId} {f g : Lane → Lane} (h : f (s.lane i) = g (s.lane i)) :
    s.modLane i f = s.modLane i g := by
  unfold State.modLane; rw [h]

/-- A frame that agrees with the class of the entry at the position goes on with the bytes that passed (R24, R30). -/
theorem execDataFrame_agreed {s : State} {i : SlotId} {f : DataFrame} {p : Position} {x : TagEntry} (hb : s.bypassed i = false)
    (hwf : f.wf = true) (hp : (s.lane i).position = some p) (he : (s.lane i).entry p.entry = some x)
    (ha : x.cls.agrees f.direction = true) : execDataFrame i f s =
      .next ((s.passBytes i f.checkGood f.bytes).1.modLane i (·.sendsData f.direction (s.passBytes i f.checkGood f.bytes).2.1
        (outgoingCheck (s.passBytes i f.checkGood f.bytes).2.2 f.checkGood))) := by
  unfold execDataFrame
  simp only [hb, hwf, hp, he, ha, Bool.not_true, Bool.or_self, Bool.false_eq_true, if_false, if_true]

/-- What a data frame on its way leaves of a lane: all but what the lane sends (R24). -/
theorem Lane.sendsData_eq (l : Lane) (d : Direction) (bytes : List Byte) (check : OutgoingCheck) : l.sendsData d bytes check =
    { l with toDrive := (l.sendsData d bytes check).toDrive, toServer := (l.sendsData d bytes check).toServer } := by
  cases d <;> rfl

theorem Lane.sendsData_sent (l : Lane) (d : Direction) (bytes : List Byte) (check : OutgoingCheck) :
    (d = .toDrive → (l.sendsData d bytes check).toDrive = [.data bytes check] ∧ (l.sendsData d bytes check).toServer = []) ∧
      (d = .toServer → (l.sendsData d bytes check).toServer = [.data bytes check] ∧ (l.sendsData d bytes check).toDrive = []) := by
  cases d <;> simp [Lane.sendsData, Lane.sendsDown, Lane.sendsUp]

/-- A data frame on its way leaves the lane as it was but for what it sends (R24). -/
theorem State.sendsData_kept (s : State) (i : SlotId) (d : Direction) (bytes : List Byte) (check : OutgoingCheck) :
    ((s.modLane i (·.sendsData d bytes check)).lane i).tags = (s.lane i).tags ∧
      ((s.modLane i (·.sendsData d bytes check)).lane i).position = (s.lane i).position ∧
      ((s.modLane i (·.sendsData d bytes check)).lane i).sector = (s.lane i).sector ∧
      ((s.modLane i (·.sendsData d bytes check)).lane i).upstream = (s.lane i).upstream ∧
      ∀ j, j ≠ i → (s.modLane i (·.sendsData d bytes check)).lane j = s.lane j := by
  rw [State.lane_modLane_self, Lane.sendsData_eq]
  exact ⟨rfl, rfl, rfl, rfl, fun j hj => s.lane_modLane_ne hj.symm _⟩

/-! ## One byte of a sector (R30, R60) -/

/-- The sector in progress that the byte at an offset belongs to, begun by the sector's first byte (R51, R60). -/
def State.begun (s : State) (i : SlotId) (e : EntryId) (t : TagEntry) (offset : Nat) : Option SectorInProgress :=
  if offset % s.sectorSize.bytes = 0 then
    beginSector (sectorAction s.windows s.sectorSize s.profile.shipFill i (s.slot i) t (offset / s.sectorSize.bytes)) e
      (offset / s.sectorSize.bytes) (sectorLba t.lba (offset / s.sectorSize.bytes))
  else (s.lane i).sector

/-- A sector in progress after bytes of one frame (R60). -/
def SectorInProgress.takeAll (x : SectorInProgress) (good : Bool) (bs : List Byte) : SectorInProgress :=
  { x with received := x.received ++ bs, checksGood := x.checksGood && good }

theorem SectorInProgress.take_takeAll (x : SectorInProgress) (good : Bool) (b : Byte) (bs : List Byte) :
    (x.take good b).takeAll good bs = x.takeAll good (b :: bs) := by
  simp [SectorInProgress.take, SectorInProgress.takeAll]

/-- A tracked entry of a data class with a sector of its command at the offset (R29, R30). -/
structure State.Following (s : State) (i : SlotId) (e : EntryId) (t : TagEntry) (offset : Nat) : Prop where
  position : (s.lane i).position = some { entry := e, offset := offset }
  entry : (s.lane i).entry e = some t
  data : t.cls.isData = true
  tracked : t.untracked = false
  within : offset / s.sectorSize.bytes < t.count

theorem SectorSize.bytes_pos (z : SectorSize) : 0 < z.bytes := by cases z <;> decide

theorem State.Following.passOne {s : State} {i : SlotId} {e : EntryId} {t : TagEntry} {offset : Nat}
    (h : s.Following i e t offset) (good : Bool) (b : Byte) : s.passOne i good b = s.passByte i e t offset good b := by
  have hbeyond : t.beyond s.sectorSize offset = false := by
    have hlt := (Nat.div_lt_iff_lt_mul s.sectorSize.bytes_pos).mp h.within
    simp [TagEntry.beyond, TagEntry.dataLimit, h.data, hlt]
  unfold State.passOne
  simp only [h.position, h.entry, hbeyond, h.tracked, h.data, Bool.false_eq_true, if_false, if_true]

/-! ## The bytes of a frame within a sector -/

/-- The bytes sent for bytes of a sector in progress, and whether they are substituted (R30, R65). -/
def State.sent (s : State) (z : Option SectorInProgress) (bs : List Byte) : List Byte × Bool :=
  match z with
  | none => (bs, false)
  | some y =>
    if y.substitutes then
      ((List.range bs.length).map (fun n => y.image.byteAt s.patternTable s.sectorSize.words (y.received.length + n)), true)
    else (bs, false)

theorem State.sent_single (s : State) (z : Option SectorInProgress) (b : Byte) :
    s.sent z [b] = ([(s.outgoing z b).1], (s.outgoing z b).2) := by
  cases z with
  | none => rfl
  | some y => cases h : y.substitutes <;> simp [State.sent, State.outgoing, h]

theorem State.sent_cons (s : State) (z : Option SectorInProgress) (good : Bool) (b : Byte) (bs : List Byte) : s.sent z (b :: bs) =
    ((s.outgoing z b).1 :: (s.sent (z.map (·.take good b)) bs).1,
      (s.outgoing z b).2 || (s.sent (z.map (·.take good b)) bs).2) := by
  cases z with
  | none => rfl
  | some y =>
    cases h : y.substitutes with
    | false => simp [State.sent, State.outgoing, SectorInProgress.take, h]
    | true =>
      have hshift (n : Nat) : y.received.length + 1 + n = y.received.length + (n + 1) := by omega
      simp [State.sent, State.outgoing, SectorInProgress.take, h, List.range_succ_eq_map, hshift]

/-- The end of a sector: a sector in progress is counted or classified, and without one nothing more happens (R30, R65, R66). -/
def State.sectorEnd (s : State) (i : SlotId) (e : EntryId) (t : TagEntry) (z : Option SectorInProgress) : State :=
  match z with
  | none => s
  | some y => s.finishSector i e t y

/-- The lane at the end of a sector: done one more, the position moved, no sector in progress (R30). -/
def Lane.pastSector (l : Lane) (e : EntryId) (t : TagEntry) (offset : Nat) : Lane :=
  { l.setEntry e (some t) with position := some { entry := e, offset := offset }, sector := none }

/-- The lane within a sector: the position moved, the sector in progress as given (R30, R60). -/
def Lane.inSector (l : Lane) (e : EntryId) (offset : Nat) (z : Option SectorInProgress) : Lane :=
  { l with position := some { entry := e, offset := offset }, sector := z }

/-- An entry with one sector more done (R30). -/
def TagEntry.didSector (t : TagEntry) : TagEntry := { t with done := t.done + 1 }

theorem State.sent_substituted (s : State) (z : Option SectorInProgress) (bs : List Byte) :
    (s.sent z bs).2 = z.any (·.substitutes) := by
  cases z with
  | none => rfl
  | some y => cases h : y.substitutes <;> simp [State.sent, h]

theorem State.sent_unaltered {z : Option SectorInProgress} (h : z.any (·.substitutes) = false) (s : State) (bs : List Byte) :
    (s.sent z bs).1 = bs := by
  cases z with
  | none => rfl
  | some y => exact congrArg Prod.fst (if_neg (ne_true_of_eq_false h))

theorem State.sent_image {y : SectorInProgress} (h : y.substitutes = true) (s : State) (bs : List Byte) : (s.sent (some y) bs).1 =
    (List.range bs.length).map (fun n => y.image.byteAt s.patternTable s.sectorSize.words (y.received.length + n)) :=
  congrArg Prod.fst (if_pos h)

/-- The state after bytes of a frame within one sector: the sector in progress as it stands then, or the effects of its end (R30, R60). -/
def State.carried (s : State) (i : SlotId) (e : EntryId) (t : TagEntry) (offset : Nat) (z : Option SectorInProgress) (good : Bool)
    (bs : List Byte) : State :=
  if offset % s.sectorSize.bytes + bs.length = s.sectorSize.bytes then
    (s.modLane i (·.pastSector e t.didSector (offset + bs.length))).sectorEnd i e t.didSector (z.map (·.takeAll good bs))
  else s.modLane i (·.inSector e (offset + bs.length) (z.map (·.takeAll good bs)))

theorem State.carried_inSector (s : State) (i : SlotId) (e : EntryId) (t : TagEntry) {offset : Nat}
    (z : Option SectorInProgress) (good : Bool) {b : Byte} {bs : List Byte}
    (hinside : offset % s.sectorSize.bytes + 1 = (offset + 1) % s.sectorSize.bytes) :
    (s.modLane i (·.inSector e (offset + 1) (z.map (·.takeAll good [b])))).carried i e t (offset + 1) (z.map (·.takeAll good [b])) good
      bs = s.carried i e t offset z good (b :: bs) := by
  have hlast : (offset + 1) % s.sectorSize.bytes + bs.length = offset % s.sectorSize.bytes + (b :: bs).length := by
    rw [← hinside, List.length_cons]; omega
  have hoffset : offset + 1 + bs.length = offset + (b :: bs).length := by rw [List.length_cons]; omega
  have hgrown : (z.map (·.takeAll good [b])).map (·.takeAll good bs) = z.map (·.takeAll good (b :: bs)) := by
    rw [Option.map_map]
    exact congrArg (Option.map · z) (funext fun y => y.take_takeAll good b bs)
  have hsize (f : Lane → Lane) : (s.modLane i f).sectorSize = s.sectorSize := rfl
  unfold State.carried
  rw [hsize, hlast, hoffset, hgrown, State.modLane_modLane, State.modLane_modLane]
  rfl

theorem succ_mod_eq_zero_iff {a n : Nat} (hn : 0 < n) : (a + 1) % n = 0 ↔ a % n + 1 = n := by
  have hlt := Nat.mod_lt a hn
  rw [← Nat.mod_add_mod]
  constructor
  · intro h
    by_contra hne
    rw [Nat.mod_eq_of_lt (by omega)] at h
    omega
  · intro h
    rw [h, Nat.mod_self]

/-- One byte joins the sector in progress, or ends it (R30, R60). -/
theorem State.Following.passByte {s : State} {i : SlotId} {e : EntryId} {t : TagEntry} {offset : Nat}
    (h : s.Following i e t offset) (good : Bool) (b : Byte) : s.passByte i e t offset good b =
      (s.carried i e t offset (s.begun i e t offset) good [b], s.outgoing (s.begun i e t offset) b) := by
  have hnext (u : Option TagEntry) : ((s.lane i).setEntry e u).advance.position = some { entry := e, offset := offset + 1 } := by
    show ((s.lane i).position.map _) = _
    rw [h.position]; rfl
  have hlast := succ_mod_eq_zero_iff (a := offset) s.sectorSize.bytes_pos
  have hended : s.modLane i (fun l => { (l.setEntry e (some t.didSector)).advance with sector := none }) =
      s.modLane i (·.pastSector e t.didSector (offset + 1)) := State.modLane_congr (by rw [Lane.pastSector, ← hnext]; rfl)
  have hinside : s.modLane i (fun l => { l.advance with sector := (s.begun i e t offset).map (·.take good b) }) =
      s.modLane i (·.inSector e (offset + 1) ((s.begun i e t offset).map (·.takeAll good [b]))) :=
    State.modLane_congr (by rw [Lane.inSector, ← hnext ((s.lane i).entry e), Lane.setEntry_self rfl]; rfl)
  unfold State.carried
  rw [List.length_singleton, ← hended, ← hinside]
  split
  · rename_i hend
    exact if_pos (hlast.mpr hend)
  · rename_i hshort
    exact if_neg (mt hlast.mp hshort)

theorem mod_succ_of_lt {a n : Nat} (h : a % n + 1 < n) : (a + 1) % n = a % n + 1 :=
  (Nat.mod_add_mod ..).symm.trans (Nat.mod_eq_of_lt h)

theorem State.begun_inSector (s : State) (i : SlotId) (e : EntryId) (t : TagEntry) {offset : Nat} (z : Option SectorInProgress)
    (h : offset % s.sectorSize.bytes + 1 < s.sectorSize.bytes) :
    (s.modLane i (·.inSector e (offset + 1) z)).begun i e t (offset + 1) = z := by
  refine (if_neg (show ¬(offset + 1) % s.sectorSize.bytes = 0 by rw [mod_succ_of_lt h]; omega)).trans ?_
  rw [State.lane_modLane_self]
  rfl

theorem State.Following.inSector {s : State} {i : SlotId} {e : EntryId} {t : TagEntry} {offset : Nat} (h : s.Following i e t offset)
    (z : Option SectorInProgress) (hshort : offset % s.sectorSize.bytes + 1 < s.sectorSize.bytes) :
    (s.modLane i (·.inSector e (offset + 1) z)).Following i e t (offset + 1) where
  position := by rw [State.lane_modLane_self]; rfl
  entry := by rw [State.lane_modLane_self]; exact h.entry
  data := h.data
  tracked := h.tracked
  within := by
    have hnot : ¬s.sectorSize.bytes ∣ offset + 1 := fun hd => by
      have := Nat.mod_eq_zero_of_dvd hd
      rw [mod_succ_of_lt hshort] at this
      omega
    show (offset + 1) / s.sectorSize.bytes < t.count
    rw [Nat.succ_div_of_not_dvd hnot]
    exact h.within

/-- The bytes of a frame within one sector of a followed command, byte by byte (R30, R60). -/
theorem State.Following.passBytes (i : SlotId) (e : EntryId) (t : TagEntry) (good : Bool) :
    ∀ (bs : List Byte) (s : State) (offset : Nat), bs ≠ [] → s.Following i e t offset →
      offset % s.sectorSize.bytes + bs.length ≤ s.sectorSize.bytes →
      s.passBytes i good bs =
        (s.carried i e t offset (s.begun i e t offset) good bs, s.sent (s.begun i e t offset) bs)
  | [], _, _, hne, _, _ => absurd rfl hne
  | [b], s, offset, _, h, _ => by
    rw [State.passBytes, h.passOne, h.passByte, State.passBytes, State.sent_single, Bool.or_false]
  | b :: c :: bs, s, offset, _, h, hfits => by
    rw [List.length_cons, List.length_cons] at hfits
    have hshort : offset % s.sectorSize.bytes + 1 < s.sectorSize.bytes := by omega
    have hmod := mod_succ_of_lt hshort
    have hstep : s.carried i e t offset (s.begun i e t offset) good [b] =
        s.modLane i (·.inSector e (offset + 1) ((s.begun i e t offset).map (·.takeAll good [b]))) :=
      if_neg (by rw [List.length_singleton]; omega)
    have hnext := h.inSector ((s.begun i e t offset).map (·.takeAll good [b])) hshort
    have hrest := State.Following.passBytes i e t good (c :: bs) _ (offset + 1) nofun hnext (by
      show (offset + 1) % s.sectorSize.bytes + (c :: bs).length ≤ s.sectorSize.bytes
      rw [hmod, List.length_cons]; omega)
    rw [State.begun_inSector s i e t _ hshort, State.carried_inSector s i e t _ good hmod.symm] at hrest
    rw [State.passBytes, h.passOne, h.passByte, hstep, hrest, State.sent_cons s _ good b (c :: bs)]
    rfl

/-! ## The end of a sector (R65, R66, R70 to R74) -/

/-- What the end of a sector leaves as it was: the slot's lane but for its entry, and every other slot and lane. -/
structure State.Beside (s t : State) (i : SlotId) (e : EntryId) : Prop where
  position : (t.lane i).position = (s.lane i).position
  sector : (t.lane i).sector = (s.lane i).sector
  upstream : (t.lane i).upstream = (s.lane i).upstream
  entry : ∀ d, d ≠ e → (t.lane i).entry d = (s.lane i).entry d
  others : ∀ j, j ≠ i → t.slot j = s.slot j ∧ t.lane j = s.lane j

theorem State.Beside.of_lanes {s t : State} {i : SlotId} {e : EntryId} (h : t.lanes = s.lanes)
    (hs : ∀ j, j ≠ i → t.slot j = s.slot j) : s.Beside t i e := by
  have hlane (j : SlotId) : t.lane j = s.lane j := by rw [State.lane, h]; rfl
  exact ⟨by rw [hlane], by rw [hlane], by rw [hlane], fun d _ => by rw [hlane], fun j hj => ⟨hs j hj, hlane j⟩⟩

theorem State.Beside.refl (s : State) (i : SlotId) (e : EntryId) : s.Beside s i e := .of_lanes rfl fun _ _ => rfl

theorem State.Beside.trans {s t u : State} {i : SlotId} {e : EntryId} (h : s.Beside t i e) (g : t.Beside u i e) : s.Beside u i e where
  position := g.position.trans h.position
  sector := g.sector.trans h.sector
  upstream := g.upstream.trans h.upstream
  entry := fun d hd => (g.entry d hd).trans (h.entry d hd)
  others := fun j hj => ⟨(g.others j hj).1.trans (h.others j hj).1, (g.others j hj).2.trans (h.others j hj).2⟩

theorem State.setEntry_beside (s : State) (i : SlotId) (e : EntryId) (t : Option TagEntry) :
    s.Beside (s.modLane i (·.setEntry e t)) i e where
  position := by rw [State.lane_modLane_self]; rfl
  sector := by rw [State.lane_modLane_self]; rfl
  upstream := by rw [State.lane_modLane_self]; rfl
  entry := fun d hd => by rw [State.lane_modLane_self, Lane.entry_setEntry, if_neg hd.symm]
  others := fun _ hj => ⟨rfl, s.lane_modLane_ne hj.symm _⟩

theorem State.report_beside (s : State) (i : SlotId) (e : EntryId) (f : SlotRecord → SlotRecord) : s.Beside (s.report i f) i e :=
  .of_lanes (s.report_lanes i f) fun j hj => by rw [State.report_eq_withLink]; exact (s.withLink_others i _ _ j hj).1

/-- The defects and the free records after a checked sector: those of CORRUPT with the LBA inserted (R71, R80). -/
def State.corrupted (s : State) (i : SlotId) (lba pass : Nat) : CheckResult → Defects × Nat
  | .corrupt _ _ _ _ => Machine.insertDefect s.profile.defectCap lba .corrupt pass (s.slot i).defects s.freeExtents
  | .isMatch | .stale _ | .slip _ => ((s.slot i).defects, s.freeExtents)

/-- What the capture event of a checked sector holds, by its result (R71). -/
def CheckResult.detail (pass : Nat) : CheckResult → Option CaptureDetail
  | .isMatch => none
  | .stale p => some (.stale p pass)
  | .slip offset => some (.slip offset pass)
  | .corrupt first expected actual n => some (.corrupt first expected actual n)

/-- The capture unit and the alert flags after the event of a checked sector (R100). -/
def State.raised (s : State) (i : SlotId) (e : EntryId) (lba : Nat) : Option CaptureDetail → CaptureUnit × BitVec 17
  | none => (s.capture, s.alerts)
  | some d => delivered (s.capture, s.alerts) { slot := i, tag := e, lba := lba, time := s.timebase, detail := d }

theorem State.testResult_not_counts {s : State} {i : SlotId} (e : EntryId) (lba pass : Nat) (c : CheckResult)
    (hc : (s.slot i).phase.counts = false) : s.testResult i e lba pass c = s := by
  have hreport (f : SlotRecord → SlotRecord) : s.report i f = s := if_neg (ne_true_of_eq_false hc)
  have hinsert (l : Nat) : s.insertDefect i l .corrupt pass = s := if_neg (ne_true_of_eq_false hc)
  unfold State.testResult
  simp only [hreport, hinsert]
  cases c
  case isMatch => rfl
  all_goals exact State.capturing_not_counts hc

theorem State.testResult_counts {s : State} {i : SlotId} (e : EntryId) (lba pass : Nat) (c : CheckResult)
    (hc : (s.slot i).phase.counts = true) : s.testResult i e lba pass c =
      { s.withLink i { (s.slot i).count (·.checkedWith c) with defects := (s.corrupted i lba pass c).1 } (s.lane i) with
        freeExtents := (s.corrupted i lba pass c).2
        capture := (s.raised i e lba (c.detail pass)).1
        alerts := (s.raised i e lba (c.detail pass)).2 } := by
  have hreport : s.report i (SlotRecord.count (·.checkedWith c)) =
      s.withLink i ((s.slot i).count (·.checkedWith c)) (s.lane i) := by rw [State.report_eq_withLink, if_pos hc]
  have hcount : ((s.slot i).count (·.checkedWith c)).phase.counts = true := hc
  unfold State.testResult
  simp only [hreport]
  cases c with
  | isMatch => rfl
  | stale p => exact State.capturing_withLink hcount s i _ rfl
  | slip o => exact State.capturing_withLink hcount s i _ rfl
  | corrupt first expected actual n =>
    dsimp only
    rw [State.insertDefect_withLink hcount, State.capturing_withLink (by exact hcount) _ i _ rfl]
    rfl

/-- The counters of a checked sector, its defect and its event, by its result (R26, R70, R71). -/
theorem State.testResult_judged (s : State) (i : SlotId) (e : EntryId) (lba pass : Nat) (c : CheckResult) :
    s.sectorJudged (s.testResult i e lba pass c) i e lba pass c := by
  cases hc : (s.slot i).phase.counts with
  | false =>
    rw [State.testResult_not_counts e lba pass c hc]
    exact ⟨fun _ => rfl, fun he hi => absurd ⟨he, hi⟩ (Phase.counts_eq_false.mp hc), fun _ _ => rfl, rfl⟩
  | true =>
    obtain ⟨hempty, hidle⟩ := (Phase.counts_iff _).mp hc
    have hslot : (s.testResult i e lba pass c).slot i =
        { (s.slot i).count (·.checkedWith c) with defects := (s.corrupted i lba pass c).1 } := by
      rw [State.testResult_counts e lba pass c hc]
      exact s.slot_withLink i _ (s.lane i)
    have hothers (j : SlotId) (hj : j ≠ i) : (s.testResult i e lba pass c).slot j = s.slot j := by
      rw [State.testResult_counts e lba pass c hc]
      exact (s.withLink_others i _ (s.lane i) j hj).1
    refine ⟨fun h => (h.elim hempty hidle).elim, fun _ _ => ?_, hothers, ?_⟩
    · rw [hslot, State.testResult_counts e lba pass c hc]
      refine ⟨?_, ?_, ?_, ?_⟩
      · rintro rfl; exact ⟨⟨rfl, rfl⟩, rfl, rfl⟩
      · rintro p rfl; exact ⟨⟨rfl, rfl⟩, rfl⟩
      · rintro o rfl; exact ⟨⟨rfl, rfl⟩, rfl⟩
      · rintro first expected actual n rfl; exact ⟨rfl, rfl, rfl⟩
    · rw [State.testResult_counts e lba pass c hc]; rfl

/-- A judgement says nothing of the lanes. -/
theorem State.sectorJudged.modLane {s t : State} {i : SlotId} {e : EntryId} {lba pass : Nat} {c : CheckResult}
    (h : s.sectorJudged t i e lba pass c) (j : SlotId) (f : Lane → Lane) : s.sectorJudged (t.modLane j f) i e lba pass c := by
  obtain ⟨hnone, hcounts, hothers, hapart⟩ := h
  refine ⟨fun hp => ?_, hcounts, hothers, ?_⟩
  · rw [hnone hp]; rfl
  · rw [hapart]; rfl

/-- The slot record after a substituted sector counted by its issue phase (R26, R72, R73). -/
def SlotRecord.substituted (r : SlotRecord) (issue : PhaseName) (img : Image) : SlotRecord :=
  if r.phase.counts then
    match issue with
    | .burn | .scan => r.count (fun c => { c with writtenSectors := inc32 c.writtenSectors })
    | .ship => { r with ship := r.ship.sent img }
    | .empty | .idle | .gradeWait | .graded | .sealed | .hold => r
  else r

theorem SlotRecord.substituted_test {r : SlotRecord} {issue : PhaseName} (hc : r.phase.counts = true)
    (h : issue = .burn ∨ issue = .scan) (img : Image) :
    r.substituted issue img = r.count (fun c => { c with writtenSectors := inc32 c.writtenSectors }) := by
  refine (if_pos hc).trans ?_
  obtain rfl | rfl := h <;> rfl

theorem SlotRecord.substituted_ship {r : SlotRecord} (hc : r.phase.counts = true) (img : Image) :
    r.substituted .ship img = { r with ship := r.ship.sent img } := if_pos hc

theorem SlotRecord.substituted_uncounted {r : SlotRecord} {issue : PhaseName} (h : r.phase.counts = false ∨ issue.isTimed = false)
    (img : Image) : r.substituted issue img = r := by
  unfold SlotRecord.substituted
  obtain h | h := h
  · exact if_neg (ne_true_of_eq_false h)
  · split
    · split
      case h_1 | h_2 | h_3 => exact absurd h (by decide)
      all_goals rfl
    · rfl

theorem State.countSubstituted_eq (s : State) (i : SlotId) (issue : PhaseName) (img : Image) :
    s.countSubstituted i issue img = s.withLink i ((s.slot i).substituted issue img) (s.lane i) := by
  have hself : s = s.withLink i (s.slot i) (s.lane i) := (s.withLink_self i).symm
  unfold State.countSubstituted SlotRecord.substituted
  split
  case h_1 | h_2 | h_3 => rw [State.report_eq_withLink]
  all_goals rw [ite_self]; exact hself

/-- An entry after a classified sector: one error sector more unless it is a match (R30). -/
def TagEntry.classified (t : TagEntry) (c : CheckResult) : TagEntry :=
  { t with errorSectors := if c = .isMatch then t.errorSectors else inc16 t.errorSectors }

/-- The state after a classified sector whose entry is up to date, by the issue phase (R70, R74). -/
def State.judging (s : State) (i : SlotId) (e : EntryId) (t : TagEntry) (x : SectorInProgress) (c : CheckResult) : State :=
  match t.issuePhase with
  | .burn | .scan => s.testResult i e x.lba t.pass c
  | .ship => s.report i (fun r => { r with ship := r.ship.checked x.image (c == .isMatch) })
  | .empty | .idle | .gradeWait | .graded | .sealed | .hold => s

theorem State.applyResult_eq {s : State} {i : SlotId} {e : EntryId} {t : TagEntry} (he : (s.lane i).entry e = some t)
    (x : SectorInProgress) (c : CheckResult) : s.applyResult i e t x c =
      (s.modLane i (·.setEntry e (some (t.classified c)))).judging i e t x c := by
  have hentry : (if c = .isMatch then s else s.modEntry i e (fun u => { u with errorSectors := inc16 u.errorSectors })) =
      s.modLane i (·.setEntry e (some (t.classified c))) := by
    unfold TagEntry.classified
    split
    · rw [State.modLane_eq_withLink, Lane.setEntry_self (by rw [he]), State.withLink_self]
    · unfold State.modEntry; simp only [he]
  unfold State.applyResult
  rw [hentry]
  rfl

theorem State.judging_beside (s : State) (i : SlotId) (e : EntryId) (t : TagEntry) (x : SectorInProgress) (c : CheckResult) :
    s.Beside (s.judging i e t x c) i e := by
  obtain ⟨-, -, hothers, -⟩ := s.testResult_judged i e x.lba t.pass c
  unfold State.judging
  split
  case h_1 | h_2 => exact .of_lanes (s.testResult_lanes i e _ _ c) hothers
  case h_3 => exact s.report_beside i e _
  all_goals exact .refl s i e

/-- The result of a checked sector (R66). -/
def State.resultOf (s : State) (x : SectorInProgress) : CheckResult :=
  classify s.patternTable s.sectorSize.words s.profile.slipReach x.image (wordsOf x.received)

/-- A sector that a frame with a wrong check carried is not counted (R32). -/
theorem State.finishSector_wrong {x : SectorInProgress} (h : x.checksGood = false) (s : State) (i : SlotId) (e : EntryId)
    (t : TagEntry) : s.finishSector i e t x = s := if_pos (by rw [h]; rfl)

theorem State.finishSector_substituted {x : SectorInProgress} (h : x.checksGood = true) (hs : x.substitutes = true) (s : State)
    (i : SlotId) (e : EntryId) (t : TagEntry) :
    s.finishSector i e t x = s.withLink i ((s.slot i).substituted t.issuePhase x.image) (s.lane i) :=
  (if_neg (by rw [h]; exact nofun)).trans ((if_pos hs).trans (s.countSubstituted_eq i _ _))

theorem State.finishSector_checked {x : SectorInProgress} (h : x.checksGood = true) (hs : x.substitutes = false) {s : State}
    {i : SlotId} {e : EntryId} {t : TagEntry} (he : (s.lane i).entry e = some t) : s.finishSector i e t x =
      (s.modLane i (·.setEntry e (some (t.classified (s.resultOf x))))).judging i e t x (s.resultOf x) :=
  (if_neg (by rw [h]; exact nofun)).trans ((if_neg (ne_true_of_eq_false hs)).trans (State.applyResult_eq he x _))

theorem State.sectorEnd_uncounted {z : Option SectorInProgress} (h : z = none ∨ ∃ y, z = some y ∧ y.checksGood = false) (s : State)
    (i : SlotId) (e : EntryId) (t : TagEntry) : s.sectorEnd i e t z = s := by
  obtain rfl | ⟨y, rfl, hwrong⟩ := h
  · rfl
  · exact State.finishSector_wrong hwrong s i e t

theorem State.judging_lanes (s : State) (i : SlotId) (e : EntryId) (t : TagEntry) (x : SectorInProgress) (c : CheckResult) :
    (s.judging i e t x c).lanes = s.lanes := by
  unfold State.judging
  split
  case h_1 | h_2 => exact s.testResult_lanes i e _ _ c
  case h_3 => exact s.report_lanes i _
  all_goals rfl

theorem Lane.entry_pastSector (l : Lane) (e d : EntryId) (t : TagEntry) (offset : Nat) :
    (l.pastSector e t offset).entry d = if e = d then some t else l.entry d := Lane.entry_setEntry l e d (some t)

theorem State.pastSector_entry (s : State) (i : SlotId) (e : EntryId) (t : TagEntry) (offset : Nat) :
    ((s.modLane i (·.pastSector e t offset)).lane i).entry e = some t := by
  rw [State.lane_modLane_self, Lane.entry_pastSector, if_pos rfl]

/-- A checked sector's end: the entry with its error sectors, then the judgement by the issue phase (R30, R66). -/
theorem State.sectorEnd_checked {y : SectorInProgress} (h : y.checksGood = true) (hs : y.substitutes = false) (s : State)
    (i : SlotId) (e : EntryId) (t : TagEntry) (offset : Nat) :
    (s.modLane i (·.pastSector e t offset)).sectorEnd i e t (some y) =
      (s.modLane i (·.pastSector e (t.classified (s.resultOf y)) offset)).judging i e t y (s.resultOf y) := by
  have hset : (s.modLane i (·.pastSector e t offset)).modLane i (·.setEntry e (some (t.classified (s.resultOf y)))) =
      s.modLane i (·.pastSector e (t.classified (s.resultOf y)) offset) := by
    rw [State.modLane_modLane]
    refine State.modLane_congr ?_
    simp only [Lane.pastSector, Lane.setEntry, Vector.set_set]
  refine (State.finishSector_checked h hs (s.pastSector_entry i e t offset)).trans ?_
  rw [← hset]
  rfl

theorem State.finishSector_beside {s : State} {i : SlotId} {e : EntryId} {t : TagEntry} (he : (s.lane i).entry e = some t)
    (x : SectorInProgress) : s.Beside (s.finishSector i e t x) i e := by
  cases hgood : x.checksGood with
  | false => rw [State.finishSector_wrong hgood]; exact .refl s i e
  | true =>
    cases hs : x.substitutes with
    | true =>
      rw [State.finishSector_substituted hgood hs]
      exact .of_lanes (eight_set_self s.lanes i) fun j hj => (s.withLink_others i _ _ j hj).1
    | false =>
      rw [State.finishSector_checked hgood hs he]
      exact (s.setEntry_beside i e _).trans (State.judging_beside _ i e t x _)

/-- What bytes within one sector leave beside the entry: the position moved on, the rest of the links as they were (R30). -/
theorem State.carried_links (s : State) (i : SlotId) (e : EntryId) (t : TagEntry) (offset : Nat) (z : Option SectorInProgress)
    (good : Bool) (bs : List Byte) :
    ((s.carried i e t offset z good bs).lane i).position = some { entry := e, offset := offset + bs.length } ∧
      ((s.carried i e t offset z good bs).lane i).upstream = (s.lane i).upstream ∧
      (∀ d, d ≠ e → ((s.carried i e t offset z good bs).lane i).entry d = (s.lane i).entry d) ∧
      (∀ j, j ≠ i → (s.carried i e t offset z good bs).slot j = s.slot j ∧
        (s.carried i e t offset z good bs).lane j = s.lane j) ∧
      (offset % s.sectorSize.bytes + bs.length = s.sectorSize.bytes → ((s.carried i e t offset z good bs).lane i).sector = none) := by
  unfold State.carried
  split
  · have hbeside : (s.modLane i (·.pastSector e t.didSector (offset + bs.length))).Beside
        ((s.modLane i (·.pastSector e t.didSector (offset + bs.length))).sectorEnd i e t.didSector (z.map (·.takeAll good bs))) i e := by
      unfold State.sectorEnd
      split
      · exact .refl _ i e
      · exact State.finishSector_beside (s.pastSector_entry i e _ _) _
    obtain ⟨hposition, hsector, hupstream, hentries, hothers⟩ := hbeside
    rw [State.lane_modLane_self] at hposition hsector hupstream hentries
    refine ⟨hposition, hupstream, fun d hd => ?_, fun j hj => ⟨(hothers j hj).1, ?_⟩, fun _ => hsector⟩
    · exact (hentries d hd).trans ((Lane.entry_pastSector ..).trans (if_neg hd.symm))
    · exact (hothers j hj).2.trans (s.lane_modLane_ne hj.symm _)
  · rename_i hshort
    rw [State.lane_modLane_self]
    exact ⟨rfl, rfl, fun _ _ => rfl, fun j hj => ⟨rfl, s.lane_modLane_ne hj.symm _⟩, fun h => absurd h hshort⟩

/-- A substituted sector ends with its count in the slot record (R72, R73). -/
theorem State.carried_substituted {s : State} {i : SlotId} {offset : Nat} {z : Option SectorInProgress} {good : Bool} {bs : List Byte}
    {y : SectorInProgress} (hend : offset % s.sectorSize.bytes + bs.length = s.sectorSize.bytes)
    (hz : z.map (·.takeAll good bs) = some y) (hgood : y.checksGood = true) (hs : y.substitutes = true) (e : EntryId) (t : TagEntry) :
    s.carried i e t offset z good bs = s.withLink i ((s.slot i).substituted t.issuePhase y.image)
      ((s.lane i).pastSector e t.didSector (offset + bs.length)) := by
  rw [State.carried, if_pos hend, hz]
  refine (State.finishSector_substituted hgood hs _ i e _).trans ?_
  rw [State.modLane_eq_withLink, State.slot_withLink, State.lane_withLink, State.withLink_withLink]
  rfl

/-- A checked sector ends with its judgement (R66, R70, R74). -/
theorem State.carried_checked {s : State} {offset : Nat} {z : Option SectorInProgress} {good : Bool} {bs : List Byte}
    {y : SectorInProgress} (hend : offset % s.sectorSize.bytes + bs.length = s.sectorSize.bytes)
    (hz : z.map (·.takeAll good bs) = some y) (hgood : y.checksGood = true) (hs : y.substitutes = false) (i : SlotId) (e : EntryId)
    (t : TagEntry) : s.carried i e t offset z good bs =
      (s.modLane i (·.pastSector e (t.didSector.classified (s.resultOf y)) (offset + bs.length))).judging i e t.didSector y
        (s.resultOf y) := by
  rw [State.carried, if_pos hend, hz]
  exact State.sectorEnd_checked hgood hs s i e _ _

theorem State.judging_test {t : TagEntry} (h : t.issuePhase = .burn ∨ t.issuePhase = .scan) (s : State) (i : SlotId) (e : EntryId)
    (x : SectorInProgress) (c : CheckResult) : s.judging i e t x c = s.testResult i e x.lba t.pass c := by
  unfold State.judging
  obtain h | h := h <;> rw [h]

theorem State.judging_ship {t : TagEntry} (h : t.issuePhase = .ship) (s : State) (i : SlotId) (e : EntryId)
    (x : SectorInProgress) (c : CheckResult) : s.judging i e t x c =
      s.report i (fun r => { r with ship := r.ship.checked x.image (c == .isMatch) }) := by
  unfold State.judging; rw [h]

theorem State.judging_untimed {t : TagEntry} (h : t.issuePhase.isTimed = false) (s : State) (i : SlotId) (e : EntryId)
    (x : SectorInProgress) (c : CheckResult) : s.judging i e t x c = s := by
  unfold State.judging
  split
  case h_1 hp | h_2 hp | h_3 hp => rw [hp] at h; exact absurd h (by decide)
  all_goals rfl

/-! ## The settled statements of a sector -/

/-- Settles O33: the frame's bytes as one step within the sector, and the sector's end by its result. -/
theorem sectorInProgressFollowed : Obligations.SectorInProgressFollowed := by
  intro s i f e x offset hb hwf hp he htracked hagrees size words index last hindex hfits begun grown substituted counts c
  have hclass : x.cls.isData = true ∧ x.cls.agrees f.direction = true := by
    obtain ⟨hd, hc | hc⟩ | ⟨hd, hc | hc⟩ := hagrees <;> rw [hd, hc] <;> exact ⟨rfl, rfl⟩
  have hne : f.bytes ≠ [] := by
    rintro hnil
    simp [DataFrame.wf, hnil] at hwf
  have hfollowing : s.Following i e x offset := ⟨hp, he, hclass.1, htracked, hindex⟩
  have hrun := execDataFrame_agreed hb hwf hp he hclass.2
  rw [State.Following.passBytes i e x f.checkGood f.bytes s offset hne hfollowing hfits] at hrun
  have hbegun : s.begun i e x offset = begun := rfl
  rw [hbegun] at hrun
  obtain ⟨hposition, hupstream, hentries, hothers, hended⟩ := s.carried_links i e x offset begun f.checkGood f.bytes
  obtain ⟨htags', hposition', hsector', hupstream', hothers'⟩ := (s.carried i e x offset begun f.checkGood f.bytes).sendsData_kept i
    f.direction (s.sent begun f.bytes).1 (outgoingCheck (s.sent begun f.bytes).2 f.checkGood)
  have hentry' (d : EntryId) := congrArg (fun v : Vector (Option TagEntry) 33 => v[d]) htags'
  refine ⟨_, (s.sent begun f.bytes).1, hrun, ?_, fun h => State.sent_unaltered h s _, ?_, hposition'.trans hposition,
    hupstream'.trans hupstream, fun d hd => (hentry' d).trans (hentries d hd),
    fun j hj => ⟨(hothers j hj).1, (hothers' j hj).trans (hothers j hj).2⟩, fun hshort => ?_, fun hend => ⟨hsector'.trans (hended hend),
      fun hnone => ?_, fun z hz hgood hs => ?_, fun z hz hgood hs => ?_⟩⟩
  · rw [State.lane_modLane_self, State.sent_substituted]
    exact Lane.sendsData_sent _ _ _ _
  · intro z hz hs
    rw [hz]
    exact State.sent_image hs s f.bytes
  · have hv : s.carried i e x offset begun f.checkGood f.bytes = s.modLane i (·.inSector e (offset + f.bytes.length) grown) :=
      if_neg (Nat.ne_of_lt hshort)
    rw [hsector', htags', hv, State.lane_modLane_self]
    exact ⟨rfl, rfl, rfl⟩
  · have hv : s.carried i e x offset begun f.checkGood f.bytes = s.modLane i (·.pastSector e x.didSector (offset + f.bytes.length)) :=
      (if_pos hend).trans (State.sectorEnd_uncounted hnone _ i e _)
    rw [hv] at hentry' ⊢
    exact ⟨(hentry' e).trans (s.pastSector_entry i e _ _), rfl⟩
  · have hv := State.carried_substituted hend hz hgood hs e x (i := i)
    have hslot : (s.carried i e x offset begun f.checkGood f.bytes).slot i = (s.slot i).substituted x.issuePhase z.image := by
      rw [hv, State.slot_withLink]
    refine ⟨(hentry' e).trans ?_, fun hc hp => hslot.trans ?_, fun hc hp => hslot.trans ?_, fun h => hslot.trans ?_, ?_⟩
    · rw [hv, State.lane_withLink]
      exact (Lane.entry_pastSector ..).trans (if_pos rfl)
    · exact SlotRecord.substituted_test ((Phase.counts_iff _).mpr hc) hp _
    · rw [hp]; exact SlotRecord.substituted_ship ((Phase.counts_iff _).mpr hc) _
    · exact SlotRecord.substituted_uncounted (h.imp_left Phase.counts_eq_false.mpr) _
    · rw [hv]; rfl
  · have hv := State.carried_checked hend hz hgood hs i e x
    refine ⟨(hentry' e).trans ?_, fun hp => ?_, fun hp => ?_, fun hp => ?_⟩
    · rw [hv, State.lane, State.judging_lanes]
      exact s.pastSector_entry i e _ _
    · rw [hv.trans (State.judging_test hp _ i e _ _)]
      exact (State.testResult_judged (s.modLane i _) i e z.lba x.pass (s.resultOf z)).modLane i _
    · have hship := hv.trans (State.judging_ship hp _ i e z (s.resultOf z))
      rw [State.report_eq_withLink, Phase.ite_counts] at hship
      refine ⟨?_, by rw [hship]; rfl⟩
      show (s.carried i e x offset begun f.checkGood f.bytes).slot i = _
      rw [hship, State.slot_withLink]
      rfl
    · rw [hv.trans (State.judging_untimed hp _ i e _ _)]
      rfl

/-! ## A whole sector in one frame (R51, R52) -/

theorem DataFrame_wf_of_sector {f : DataFrame} {z : SectorSize} (h : f.bytes.length = z.bytes) : f.wf = true := by
  have hsize : 1 ≤ z.bytes ∧ z.bytes ≤ 8192 := by cases z <;> decide
  rw [← h] at hsize
  simp [DataFrame.wf, hsize]

theorem sectorLba_of_lt {lba index : Nat} (h : lba + index < 2 ^ 48) : sectorLba lba index = lba + index := if_pos h

/-- The first byte of a sector begins it by the action of its LBA (R51). -/
theorem State.begun_first (s : State) (i : SlotId) (e : EntryId) {t : TagEntry} {index : Nat} (h : t.lba + index < 2 ^ 48) :
    s.begun i e t (index * s.sectorSize.bytes) =
      beginSector (sectorAction s.windows s.sectorSize s.profile.shipFill i (s.slot i) t index) e index (t.lba + index) := by
  rw [State.begun, Nat.mul_mod_left, if_pos rfl, Nat.mul_div_cancel _ s.sectorSize.bytes_pos, sectorLba_of_lt h]

/-- In BURN and SCAN the action is that of the window that matches the LBA (R52, Table 3-3). -/
theorem sectorAction_test {t : TagEntry} {index : Nat} (hp : t.issuePhase = .burn ∨ t.issuePhase = .scan)
    (h : t.lba + index < 2 ^ 48) (ws : Vector Window 16) (z : SectorSize) (fill : Byte) (i : SlotId) (r : SlotRecord) :
    sectorAction ws z fill i r t index =
      testAction ((matchingWindow ws i r.identity (t.lba + index)).map (ws[·])) t.cls.writes (t.lba + index) t.pass t.seed := by
  unfold sectorAction
  rw [sectorLba_of_lt h]
  obtain hp | hp := hp <;> rw [hp]

theorem CommandClass.writes_of_write {c : CommandClass} (h : c = .qwrite ∨ c = .write) : c.writes = true := by
  obtain rfl | rfl := h <;> rfl

theorem CommandClass.writes_of_read {c : CommandClass} (h : c = .qread ∨ c = .read) : c.writes = false := by
  obtain rfl | rfl := h <;> rfl

/-- A sector in progress of which no byte has passed (R60). -/
def SectorInProgress.fresh (e : EntryId) (index lba : Nat) (substitutes : Bool) (img : Image) : SectorInProgress :=
  { entry := e, index := index, lba := lba, substitutes := substitutes, image := img, received := [], checksGood := true }

/-- Settles O29: the sector's image goes to the drive, by the rule of the sector in progress. -/
theorem testSectorIsSubstituted : Obligations.TestSectorIsSubstituted := by
  intro s i f e x k hb hd hlen hp he hcls htracked hdone hissue hlba hmatch haction
  have hbegun : s.begun i e x (x.done * s.sectorSize.bytes) =
      some (.fresh e x.done (x.lba + x.done) true (s.windows[k].image (x.lba + x.done) x.pass x.seed)) := by
    rw [State.begun_first s i e hlba, sectorAction_test hissue hlba, hmatch, CommandClass.writes_of_write hcls]
    simp only [Option.map_some, testAction, haction, actionOn, if_true, beginSector, SectorInProgress.fresh]
  have hgrown := congrArg (Option.map (·.takeAll f.checkGood f.bytes)) hbegun
  have hstart : x.done * s.sectorSize.bytes % s.sectorSize.bytes + f.bytes.length = s.sectorSize.bytes := by
    rw [Nat.mul_mod_left, hlen, Nat.zero_add]
  obtain ⟨t, sent, hrun, hframe, -, himage, hposition, hupstream, hentries, hothers, -, hend⟩ :=
    sectorInProgressFollowed s i f e x (x.done * s.sectorSize.bytes) hb (DataFrame_wf_of_sector hlen) hp he htracked (.inl ⟨hd, hcls⟩)
      (by rwa [Nat.mul_div_cancel _ s.sectorSize.bytes_pos]) (Nat.le_of_eq hstart)
  obtain ⟨hsector, hwrong, hcounted, -⟩ := hend hstart
  obtain ⟨hsent, hserver⟩ := hframe.1 hd
  have himage := himage _ hbegun rfl
  have hsent : (t.lane i).toDrive = [.data sent (if (s.begun i e x (x.done * s.sectorSize.bytes)).any (·.substitutes) then
      (if f.checkGood then .computed else .inverted) else .original f.checkGood)] := hsent
  have hposition : (t.lane i).position = some { entry := e, offset := (x.done + 1) * s.sectorSize.bytes } := by
    rw [hposition, hlen, Nat.succ_mul]
  have heffect : (t.lane i).entry e = some x.didSector ∧ t = { s with slots := t.slots, lanes := t.lanes } ∧
      t.slot i = if f.checkGood = true ∧ (s.slot i).phase ≠ .empty ∧ (s.slot i).phase ≠ .idle then
        (s.slot i).count (fun c => { c with writtenSectors := inc32 c.writtenSectors }) else s.slot i := by
    cases hgood : f.checkGood with
    | false =>
      obtain ⟨hentry, ht⟩ := hwrong (.inr ⟨_, hgrown, hgood⟩)
      exact ⟨hentry, by rw [ht], by rw [ht]; exact (if_neg nofun).symm⟩
    | true =>
      obtain ⟨hentry, hcounts, -, hnone, ht⟩ := hcounted _ hgrown hgood rfl
      refine ⟨hentry, ht, ?_⟩
      split
      · rename_i hc
        exact hcounts hc.2 hissue
      · rename_i hc
        exact hnone (.inl fun h => hc ⟨rfl, h⟩)
  obtain ⟨hentry, ht, hslot⟩ := heffect
  refine ⟨t, hrun, hserver, ?_, hentry, hentries, hupstream, hposition, hsector, hslot, hothers, ht⟩
  rw [hsent, hbegun, himage, hlen]
  exact congrArg (fun sent => [SentFrame.data sent _]) (List.map_congr_left fun n _ => congrArg _ (Nat.zero_add n))

/-- Settles O30: the sector's words judged at its end, by the rule of the sector in progress. -/
theorem testSectorIsChecked : Obligations.TestSectorIsChecked := by
  intro s i f e x k hb hd hgood hlen hp he hcls htracked hdone hissue hlba hmatch haction c
  have hbegun : s.begun i e x (x.done * s.sectorSize.bytes) =
      some (.fresh e x.done (x.lba + x.done) false (s.windows[k].image (x.lba + x.done) x.pass x.seed)) := by
    rw [State.begun_first s i e hlba, sectorAction_test hissue hlba, hmatch, CommandClass.writes_of_read hcls]
    obtain haction | haction := haction <;>
      simp only [Option.map_some, testAction, haction, actionOn, Bool.false_eq_true, if_false, beginSector, SectorInProgress.fresh]
  have hgrown := congrArg (Option.map (·.takeAll f.checkGood f.bytes)) hbegun
  have hstart : x.done * s.sectorSize.bytes % s.sectorSize.bytes + f.bytes.length = s.sectorSize.bytes := by
    rw [Nat.mul_mod_left, hlen, Nat.zero_add]
  obtain ⟨t, sent, hrun, hframe, hunaltered, -, hposition, hupstream, hentries, hothers, -, hend⟩ :=
    sectorInProgressFollowed s i f e x (x.done * s.sectorSize.bytes) hb (DataFrame_wf_of_sector hlen) hp he htracked (.inr ⟨hd, hcls⟩)
      (by rwa [Nat.mul_div_cancel _ s.sectorSize.bytes_pos]) (Nat.le_of_eq hstart)
  obtain ⟨hsector, -, -, hchecked⟩ := hend hstart
  obtain ⟨hentry, hjudged, -⟩ := hchecked _ hgrown hgood rfl
  have hunsubstituted : (s.begun i e x (x.done * s.sectorSize.bytes)).any (·.substitutes) = false := by rw [hbegun]; rfl
  have hsent := hunaltered hunsubstituted
  obtain ⟨hserver, hdrive⟩ := hframe.2 hd
  have hserver : (t.lane i).toServer = [.data sent (if (s.begun i e x (x.done * s.sectorSize.bytes)).any (·.substitutes) then
      (if f.checkGood then .computed else .inverted) else .original f.checkGood)] := hserver
  refine ⟨t, hrun, ?_, hdrive, hentry, ?_, hsector, fun j hj => (hothers j hj).2, hentries, hupstream, hjudged hissue⟩
  · rw [hserver, hsent, hunsubstituted, hgood]
    rfl
  · rw [hposition, hlen, Nat.succ_mul]

end Sys2Proof.Machine
end

section
/-!
Data frames that pass unaltered (R24, R29 to R32): nothing to follow, the wrong direction, bytes that only move the position, an UNTRACKED
sector partly substituted, an IDENT's block, a whole sector without effect.
-/
namespace Sys2Proof.Machine

/-! ## Frames with nothing to follow (R24, R29, R45) -/

theorem execDataFrame_relays {s : State} {i : SlotId} {f : DataFrame} (h : s.bypassed i = true ∨ f.wf = false ∨
    (s.lane i).position = none ∨ ∃ q, (s.lane i).position = some q ∧ (s.lane i).entry q.entry = none) :
    execDataFrame i f s = .next (s.modLane i (·.relaysData f)) := by
  unfold execDataFrame
  split
  · rfl
  · rename_i hfollows
    obtain hb | hwf | hp | ⟨q, hp, he⟩ := h
    · exact absurd (by rw [hb]; rfl) hfollows
    · exact absurd (by rw [hwf]; exact Bool.or_true _) hfollows
    · rw [hp]
    · simp only [hp, he]

/-! ## Data in the wrong direction (R30, R31, R60) -/

theorem execDataFrame_wrong {s : State} {i : SlotId} {f : DataFrame} {q : Position} {x : TagEntry} (hb : s.bypassed i = false)
    (hwf : f.wf = true) (hp : (s.lane i).position = some q) (he : (s.lane i).entry q.entry = some x)
    (ha : x.cls.agrees f.direction = false) : execDataFrame i f s = .next ((s.withLink i
      (if x.untracked then s.slot i else (s.slot i).noted) { (s.lane i).setEntry q.entry (some x.marked) with
        sector := (s.lane i).sector.filter (·.substitutes) }).modLane i (·.relaysData f)) := by
  have hwrong : s.wrongData i q.entry = s.withLink i (if x.untracked then s.slot i else (s.slot i).noted)
      { (s.lane i).setEntry q.entry (some x.marked) with sector := (s.lane i).sector.filter (·.substitutes) } := by
    have hmark := s.markUntracked_withLink i (s.slot i) he
    rw [s.withLink_self] at hmark
    rw [State.wrongData, hmark, State.modLane_withLink]
    rfl
  unfold execDataFrame
  simp only [hb, hwf, hp, he, ha, Bool.not_true, Bool.or_self, Bool.false_eq_true, if_false, hwrong]

/-! ## Bytes that only move the position (R30, R31) -/

/-- The position some bytes on (R30). -/
def Lane.moved (l : Lane) (n : Nat) : Lane :=
  { l with position := l.position.map (fun p => { p with offset := p.offset + n }) }

theorem Lane.moved_zero (l : Lane) : l.moved 0 = l := by
  cases l with
  | mk tags position => cases position <;> rfl

theorem Lane.advance_moved (l : Lane) (n : Nat) : (l.moved n).advance = l.moved (n + 1) := by
  simp only [Lane.advance, Lane.moved, Option.map_map]
  rfl

theorem Lane.moved_moved (l : Lane) (m n : Nat) : (l.moved m).moved n = l.moved (m + n) := by
  simp only [Lane.moved, Option.map_map]
  congr
  funext p
  simp [Nat.add_assoc]

theorem State.modLane_moved_zero (s : State) (i : SlotId) : s.modLane i (·.moved 0) = s := by
  rw [State.modLane_eq_withLink, Lane.moved_zero, State.withLink_self]

/-- Bytes of which each moves the position alone. -/
theorem State.passBytes_all_move (i : SlotId) (good : Bool) (bs : List Byte) : ∀ s : State,
    (∀ k < bs.length, ∀ b, (s.modLane i (·.moved k)).passOne i good b = (s.modLane i (·.moved (k + 1)), b, false)) →
      s.passBytes i good bs = (s.modLane i (·.moved bs.length), bs, false) := by
  induction bs with
  | nil => intro s _; rw [State.passBytes, List.length_nil, State.modLane_moved_zero]
  | cons b bs ih =>
    intro s h
    have hfirst := h 0 (Nat.succ_pos _) b
    rw [State.modLane_moved_zero] at hfirst
    have hshift (k : Nat) : (s.modLane i (·.moved (0 + 1))).modLane i (·.moved k) = s.modLane i (·.moved (k + 1)) := by
      rw [State.modLane_modLane]
      exact State.modLane_congr ((Lane.moved_moved ..).trans (by rw [Nat.zero_add, Nat.add_comm]))
    rw [State.passBytes, hfirst]
    dsimp only
    rw [ih _ fun k hk c => by
      rw [hshift, hshift]
      exact h (k + 1) (Nat.succ_lt_succ hk) c, hshift]
    rfl

/-- A byte at the offset moves the position alone: beyond the command's data after the first, on an UNTRACKED entry without a sector in
progress, on an entry of OTHER or FLUSH (R30, R31). -/
def TagEntry.movesOnly (t : TagEntry) (z : SectorSize) (x : Option SectorInProgress) (offset : Nat) : Prop :=
  (t.beyond z offset = true ∧ t.overrunNoted = true) ∨ (t.beyond z offset = false ∧ t.untracked = true ∧ x = none) ∨
    (t.beyond z offset = false ∧ t.untracked = false ∧ t.cls.isData = false ∧ t.cls ≠ .ident)

theorem State.passOne_moves_only {s : State} {i : SlotId} {p : Position} {t : TagEntry} (hp : (s.lane i).position = some p)
    (he : (s.lane i).entry p.entry = some t) (h : t.movesOnly s.sectorSize (s.lane i).sector p.offset) (good : Bool) (b : Byte) :
    s.passOne i good b = (s.modLane i Lane.advance, b, false) := by
  unfold State.passOne
  simp only [hp, he]
  obtain ⟨hbeyond, hnoted⟩ | ⟨hbeyond, huntracked, hx⟩ | ⟨hbeyond, htracked, hdata, hident⟩ := h
  · rw [if_pos hbeyond, State.noteOverrun, if_pos hnoted]
  · have hkept : s.modLane i (fun l => { l.advance with sector := none }) = s.modLane i Lane.advance :=
      State.modLane_congr (by simp only [Lane.advance, hx])
    simp only [hbeyond, huntracked, Bool.false_eq_true, if_false, if_true, State.passUntracked, hx, Option.map_none,
      Option.filter_none, hkept, State.outgoing]
  · simp only [hbeyond, htracked, hdata, hident, Bool.false_eq_true, if_false]

theorem State.passBytes_moves_only {s : State} {i : SlotId} {p : Position} {t : TagEntry} {bs : List Byte}
    (hp : (s.lane i).position = some p) (he : (s.lane i).entry p.entry = some t)
    (h : ∀ k < bs.length, t.movesOnly s.sectorSize (s.lane i).sector (p.offset + k)) (good : Bool) :
    s.passBytes i good bs = (s.modLane i (·.moved bs.length), bs, false) := by
  refine State.passBytes_all_move i good bs s fun k hk b => ?_
  have hmoved : (s.modLane i (·.moved k)).lane i = (s.lane i).moved k := s.lane_modLane_self i _
  rw [State.passOne_moves_only (p := { p with offset := p.offset + k }) (t := t) (by rw [hmoved, Lane.moved, hp]; rfl)
    (by rw [hmoved]; exact he) (by rw [hmoved]; exact h k hk), State.modLane_modLane]
  simp only [Lane.advance_moved]

/-! ## Data past the command's data (R31) -/

/-- An entry with overrun noted (R31). -/
def TagEntry.overrun (t : TagEntry) : TagEntry := { t with overrunNoted := true }

theorem State.noteOverrun_eq {s : State} {i : SlotId} {e : EntryId} {t : TagEntry} (he : (s.lane i).entry e = some t) :
    s.noteOverrun i e t = s.withLink i (if t.overrunNoted then s.slot i else (s.slot i).noted)
      ((s.lane i).setEntry e (some t.overrun)) := by
  have hanomaly := s.anomaly_withLink i (s.slot i) (s.lane i)
  rw [s.withLink_self] at hanomaly
  obtain ⟨hnoted, h⟩ | ⟨hnew, h⟩ := s.noteOverrun_cases i e t
  · have hsame : t.overrun = t := by rw [TagEntry.overrun, ← hnoted]
    rw [h, if_pos hnoted, hsame, Lane.setEntry_self he, s.withLink_self]
  · rw [h, if_neg (ne_true_of_eq_false hnew), hanomaly, State.modLane_withLink]
    rfl

/-- Bytes beyond the command's data note the overrun once and move the position (R31). -/
theorem State.passBytes_overrun {s : State} {i : SlotId} {p : Position} {t : TagEntry} {bs : List Byte} (hne : bs ≠ [])
    (hp : (s.lane i).position = some p) (he : (s.lane i).entry p.entry = some t)
    (h : ∀ k, t.beyond s.sectorSize (p.offset + k) = true) (good : Bool) : s.passBytes i good bs =
      (s.withLink i (if t.overrunNoted then s.slot i else (s.slot i).noted)
        (((s.lane i).setEntry p.entry (some t.overrun)).moved bs.length), bs, false) := by
  obtain ⟨b, bs, rfl⟩ := List.exists_cons_of_ne_nil hne
  have hfirst : s.passOne i good b = (s.withLink i (if t.overrunNoted then s.slot i else (s.slot i).noted)
      (((s.lane i).setEntry p.entry (some t.overrun)).moved 1), b, false) := by
    unfold State.passOne
    simp only [hp, he, State.noteOverrun_eq he, State.modLane_withLink]
    exact if_pos (h 0)
  rw [State.passBytes, hfirst]
  dsimp only
  rw [State.passBytes_moves_only (p := { p with offset := p.offset + 1 }) (t := t.overrun)
    (by rw [State.lane_withLink, Lane.moved]; exact congrArg (Option.map _) hp)
    (by rw [State.lane_withLink]; exact (Lane.entry_setEntry ..).trans (if_pos rfl))
    (fun k _ => .inl ⟨by rw [Nat.add_assoc]; exact h (1 + k), rfl⟩), State.modLane_withLink, Lane.moved_moved, List.length_cons,
    Nat.add_comm 1]
  rfl

/-! ## Frames that go on unaltered (R24) -/

/-- What a frame that goes on unaltered leaves: it is sent with its own check, the lane is as it was but for what it sends (R24). -/
theorem State.relaysData_kept (v : State) (i : SlotId) (f : DataFrame) :
    ((f.direction = .toDrive → ((v.modLane i (·.relaysData f)).lane i).toDrive = [.data f.bytes (.original f.checkGood)] ∧
        ((v.modLane i (·.relaysData f)).lane i).toServer = []) ∧
      (f.direction = .toServer → ((v.modLane i (·.relaysData f)).lane i).toServer = [.data f.bytes (.original f.checkGood)] ∧
        ((v.modLane i (·.relaysData f)).lane i).toDrive = [])) ∧
      ((v.modLane i (·.relaysData f)).lane i).tags = (v.lane i).tags ∧
      ((v.modLane i (·.relaysData f)).lane i).position = (v.lane i).position ∧
      ((v.modLane i (·.relaysData f)).lane i).sector = (v.lane i).sector ∧
      ((v.modLane i (·.relaysData f)).lane i).upstream = (v.lane i).upstream ∧
      ∀ j, j ≠ i → (v.modLane i (·.relaysData f)).slot j = v.slot j ∧ (v.modLane i (·.relaysData f)).lane j = v.lane j := by
  obtain ⟨htags, hposition, hsector, hupstream, hothers⟩ := v.sendsData_kept i f.direction f.bytes (.original f.checkGood)
  refine ⟨?_, htags, hposition, hsector, hupstream, fun j hj => ⟨rfl, hothers j hj⟩⟩
  rw [State.lane_modLane_self]
  exact Lane.sendsData_sent _ _ _ _

theorem execDataFrame_unaltered {s v : State} {i : SlotId} {f : DataFrame} {p : Position} {x : TagEntry} (hb : s.bypassed i = false)
    (hwf : f.wf = true) (hp : (s.lane i).position = some p) (he : (s.lane i).entry p.entry = some x)
    (ha : x.cls.agrees f.direction = true) (h : s.passBytes i f.checkGood f.bytes = (v, f.bytes, false)) :
    execDataFrame i f s = .next (v.modLane i (·.relaysData f)) := by
  rw [execDataFrame_agreed hb hwf hp he ha, h]
  rfl

/-- The data of a class with a limit agrees in its direction (R29, R31). -/
theorem CommandClass.agrees_of_follows {c : CommandClass} {d : Direction} (h : (d = .toDrive ∧ (c = .qwrite ∨ c = .write)) ∨
    (d = .toServer ∧ (c = .qread ∨ c = .read ∨ c = .ident))) : c.agrees d = true := by
  rw [CommandClass.agrees_iff]
  exact .inr (h.imp And.symm And.symm)

/-- The bytes of a command's data as O28 bounds them: 512 of an IDENT, count x S of a data class (R31). -/
theorem TagEntry.beyond_of_follows {t : TagEntry} {d : Direction} (h : (d = .toDrive ∧ (t.cls = .qwrite ∨ t.cls = .write)) ∨
    (d = .toServer ∧ (t.cls = .qread ∨ t.cls = .read ∨ t.cls = .ident))) (z : SectorSize) (offset : Nat) :
    t.beyond z offset = decide ((if t.cls = .ident then 512 else t.count * z.bytes) ≤ offset) := by
  unfold TagEntry.beyond TagEntry.dataLimit
  obtain ⟨-, hc | hc⟩ | ⟨-, hc | hc | hc⟩ := h <;> rw [hc] <;> rfl

theorem TagEntry.beyond_other {t : TagEntry} (h : t.cls = .other) (z : SectorSize) (offset : Nat) : t.beyond z offset = false := by
  unfold TagEntry.beyond TagEntry.dataLimit
  rw [h]
  rfl

/-! ## An UNTRACKED sector partly substituted (R31, R60) -/

theorem State.passOne_untracked {s : State} {i : SlotId} {p : Position} {t : TagEntry} (hp : (s.lane i).position = some p)
    (he : (s.lane i).entry p.entry = some t) (hbeyond : t.beyond s.sectorSize p.offset = false) (hu : t.untracked = true)
    (good : Bool) (b : Byte) : s.passOne i good b = s.passUntracked i good b := by
  unfold State.passOne
  simp only [hp, he, hbeyond, hu, Bool.false_eq_true, if_false, if_true]

/-- The lane some bytes on, with a sector in progress. -/
def Lane.movedIn (l : Lane) (n : Nat) (x : Option SectorInProgress) : Lane := { l.moved n with sector := x }

theorem State.movedIn_movedIn (s : State) (i : SlotId) (n : Nat) (x y : Option SectorInProgress) :
    (s.modLane i (·.movedIn 1 x)).modLane i (·.movedIn n y) = s.modLane i (·.movedIn (n + 1) y) := by
  rw [State.modLane_modLane]
  refine State.modLane_congr ?_
  have h := congrArg (fun l : Lane => { l with sector := y }) (Lane.moved_moved (s.lane i) 1 n)
  rw [Nat.add_comm 1 n] at h
  exact h

/-- The sector in progress on an UNTRACKED entry after a byte, none once it is whole (R31). -/
def SectorInProgress.ending (z : SectorInProgress) (size : Nat) (good : Bool) (b : Byte) : Option SectorInProgress :=
  if z.received.length + 1 < size then some (z.take good b) else none

theorem State.passUntracked_substitutes {s : State} {i : SlotId} {z : SectorInProgress} (hz : (s.lane i).sector = some z)
    (hs : z.substitutes = true) (good : Bool) (b : Byte) : s.passUntracked i good b =
      (s.modLane i (·.movedIn 1 (z.ending s.sectorSize.bytes good b)),
        z.image.byteAt s.patternTable s.sectorSize.words z.received.length, true) := by
  have hending : (some (z.take good b)).filter (fun y => y.received.length < s.sectorSize.bytes) =
      z.ending s.sectorSize.bytes good b := by
    simp [SectorInProgress.ending, Option.filter, SectorInProgress.take]
  unfold State.passUntracked State.outgoing
  simp only [hz, hs, if_true, Option.map_some, hending]
  rfl

/-- The bytes of a frame on an UNTRACKED entry with a sector partly substituted: the image to the sector's end, then the bytes as they
are (R31, R60). -/
theorem State.passBytes_untracked {i : SlotId} {t : TagEntry} (hu : t.untracked = true) (good : Bool) (bs : List Byte) :
    ∀ (s : State) (p : Position) (z : SectorInProgress), bs ≠ [] → (s.lane i).position = some p → (s.lane i).entry p.entry = some t →
      (∀ k < bs.length, t.beyond s.sectorSize (p.offset + k) = false) → (s.lane i).sector = some z → z.substitutes = true →
      z.received.length < s.sectorSize.bytes →
      ∃ y sent, s.passBytes i good bs = (s.modLane i (·.movedIn bs.length y), sent, true) ∧ sent.length = bs.length ∧
        (∀ k < bs.length, sent[k]? = if z.received.length + k < s.sectorSize.bytes
          then some (z.image.byteAt s.patternTable s.sectorSize.words (z.received.length + k)) else bs[k]?) ∧
        (s.sectorSize.bytes ≤ z.received.length + bs.length → y = none) := by
  induction bs with
  | nil => exact fun s p z h => absurd rfl h
  | cons b bs ih =>
    intro s p z _ hp he hbeyond hz hs hlt
    have hfirst := (State.passOne_untracked hp he (hbeyond 0 (Nat.succ_pos _)) hu good b).trans
      (State.passUntracked_substitutes hz hs good b)
    have hlane : (s.modLane i (·.movedIn 1 (z.ending s.sectorSize.bytes good b))).lane i =
        (s.lane i).movedIn 1 (z.ending s.sectorSize.bytes good b) := s.lane_modLane_self i _
    have hposition : ((s.lane i).movedIn 1 (z.ending s.sectorSize.bytes good b)).position =
        some { p with offset := p.offset + 1 } := congrArg (Option.map _) hp
    have hnext (k : Nat) (hk : k < bs.length) : t.beyond s.sectorSize (p.offset + 1 + k) = false := by
      rw [Nat.add_assoc, Nat.add_comm 1]
      exact hbeyond (k + 1) (Nat.succ_lt_succ hk)
    rw [State.passBytes, hfirst]
    dsimp only
    by_cases hshort : z.received.length + 1 < s.sectorSize.bytes
    · have hending : z.ending s.sectorSize.bytes good b = some (z.take good b) := if_pos hshort
      cases bs with
      | nil =>
        refine ⟨_, _, rfl, rfl, fun k hk => ?_, fun h => absurd h (by simpa using hshort)⟩
        obtain rfl : k = 0 := by simpa using hk
        simp [hlt]
      | cons c bs =>
        have hlength : (z.take good b).received.length = z.received.length + 1 := by simp [SectorInProgress.take]
        obtain ⟨y, sent, hrest, hsent, hbytes, hnone⟩ := ih (s.modLane i (·.movedIn 1 (z.ending s.sectorSize.bytes good b)))
          { p with offset := p.offset + 1 } (z.take good b) nofun
          (by rw [hlane]; exact hposition) (by rw [hlane]; exact he) hnext (by rw [hlane, hending]; rfl) hs
          (by rw [hlength]; exact hshort)
        rw [hrest, State.movedIn_movedIn]
        refine ⟨y, _, rfl, congrArg Nat.succ hsent, fun k hk => ?_, fun h => hnone ?_⟩
        · cases k with
          | zero => simp [hlt]
          | succ k =>
            have h := hbytes k (Nat.lt_of_succ_lt_succ hk)
            rw [hlength, Nat.add_assoc, Nat.add_comm 1] at h
            exact h
        · rw [hlength, Nat.add_assoc, Nat.add_comm 1]
          exact h
    · have hending : z.ending s.sectorSize.bytes good b = none := if_neg hshort
      rw [hending] at hlane hposition ⊢
      have hsector : ((s.modLane i (·.movedIn 1 none)).lane i).sector = none := by rw [hlane]; rfl
      have hrest := State.passBytes_moves_only (s := s.modLane i (·.movedIn 1 none)) (p := { p with offset := p.offset + 1 }) (t := t)
        (bs := bs) (by rw [hlane]; exact hposition) (by rw [hlane]; exact he) (fun k hk => .inr (.inl ⟨hnext k hk, hu, hsector⟩)) good
      have hmoved : (s.modLane i (·.movedIn 1 none)).modLane i (·.moved bs.length) =
          (s.modLane i (·.movedIn 1 none)).modLane i (·.movedIn bs.length none) :=
        State.modLane_congr (by rw [hlane]; rfl)
      rw [hrest, hmoved, State.movedIn_movedIn]
      refine ⟨none, _, rfl, rfl, fun k hk => ?_, fun _ => rfl⟩
      cases k with
      | zero => simp [hlt]
      | succ k => rw [if_neg (by omega)]; rfl

/-! ## An IDENT's block (R30, R32, R43) -/

/-- The snoop buffer after bytes of one frame from an offset on (R30, R43). -/
def Snoop.takeAll (sn : Snoop) (offset : Nat) (good : Bool) : List Byte → Snoop
  | [] => sn
  | b :: bs => Snoop.takeAll (sn.take offset good b) (offset + 1) good bs

/-- An IDENT entry after bytes of its block from an offset on (R30). -/
def TagEntry.tookBlock (t : TagEntry) (offset : Nat) (good : Bool) (bs : List Byte) : TagEntry :=
  { t with
    snoop := t.snoop.takeAll offset good bs
    done := if offset ≤ 511 ∧ 511 < offset + bs.length then 1 else t.done }

theorem State.passOne_ident {s : State} {i : SlotId} {p : Position} {t : TagEntry} (hp : (s.lane i).position = some p)
    (he : (s.lane i).entry p.entry = some t) (hc : t.cls = .ident) (htracked : t.untracked = false) (hin : p.offset < 512)
    (good : Bool) (b : Byte) : s.passOne i good b =
      (s.modLane i (fun l => (l.setEntry p.entry (some (t.tookBlock p.offset good [b]))).moved 1), b, false) := by
  have hbeyond : t.beyond s.sectorSize p.offset = false := by
    simp [TagEntry.beyond, TagEntry.dataLimit, hc, CommandClass.isData, CommandClass.writes, CommandClass.reads, hin]
  have hdata : t.cls.isData = false := by rw [hc]; rfl
  have hdone : (p.offset = 511) = (p.offset ≤ 511 ∧ 511 < p.offset + [b].length) := by
    rw [List.length_singleton]; apply propext; omega
  unfold State.passOne
  simp only [hp, he]
  rw [if_neg (ne_true_of_eq_false hbeyond), if_neg (ne_true_of_eq_false htracked), if_neg (ne_true_of_eq_false hdata), if_pos hc,
    State.passIdent]
  simp only [hdone]
  rfl

/-- The bytes of a frame within an IDENT's block (R30). -/
theorem State.passBytes_ident {i : SlotId} (good : Bool) (bs : List Byte) : ∀ (s : State) (p : Position) (t : TagEntry),
    (s.lane i).position = some p → (s.lane i).entry p.entry = some t → t.cls = .ident → t.untracked = false →
      p.offset + bs.length ≤ 512 → s.passBytes i good bs =
        (s.modLane i (fun l => (l.setEntry p.entry (some (t.tookBlock p.offset good bs))).moved bs.length), bs, false) := by
  induction bs with
  | nil =>
    intro s p t _ he _ _ _
    have hsame : t.tookBlock p.offset good [] = t := by
      have hno : ¬(p.offset ≤ 511 ∧ 511 < p.offset + ([] : List Byte).length) := by simp only [List.length_nil]; omega
      rw [TagEntry.tookBlock, if_neg hno]; rfl
    rw [State.passBytes, List.length_nil, hsame, State.modLane_eq_withLink, Lane.setEntry_self he, Lane.moved_zero, s.withLink_self]
  | cons b bs ih =>
    intro s p t hp he hc htracked hin
    rw [List.length_cons] at hin
    have hlane : (s.modLane i (fun l => (l.setEntry p.entry (some (t.tookBlock p.offset good [b]))).moved 1)).lane i =
        ((s.lane i).setEntry p.entry (some (t.tookBlock p.offset good [b]))).moved 1 := s.lane_modLane_self i _
    have hnext := ih (s.modLane i (fun l => (l.setEntry p.entry (some (t.tookBlock p.offset good [b]))).moved 1))
      { p with offset := p.offset + 1 } (t.tookBlock p.offset good [b]) (by rw [hlane]; exact congrArg (Option.map _) hp)
      (by rw [hlane]; exact (Lane.entry_setEntry ..).trans (if_pos rfl)) hc htracked (by show p.offset + 1 + bs.length ≤ 512; omega)
    have hlast : (p.offset + 1 ≤ 511 ∧ 511 < p.offset + 1 + bs.length) ∨ (p.offset ≤ 511 ∧ 511 < p.offset + [b].length) ↔
        p.offset ≤ 511 ∧ 511 < p.offset + (b :: bs).length := by
      rw [List.length_singleton, List.length_cons]; omega
    have htook : (t.tookBlock p.offset good [b]).tookBlock (p.offset + 1) good bs = t.tookBlock p.offset good (b :: bs) := by
      simp only [TagEntry.tookBlock, ← hlast, ite_or]
      rfl
    have hlanes : ((((s.lane i).setEntry p.entry (some (t.tookBlock p.offset good [b]))).moved 1).setEntry p.entry
        (some (t.tookBlock p.offset good (b :: bs)))).moved bs.length =
        ((s.lane i).setEntry p.entry (some (t.tookBlock p.offset good (b :: bs)))).moved (b :: bs).length := by
      rw [List.length_cons, Nat.add_comm, ← Lane.moved_moved]
      simp only [Lane.moved, Lane.setEntry, Vector.set_set]
    rw [State.passBytes, State.passOne_ident hp he hc htracked (by omega)]
    dsimp only at hnext ⊢
    rw [hnext, htook, State.modLane_modLane, State.modLane_congr
      (g := fun l => (l.setEntry p.entry (some (t.tookBlock p.offset good (b :: bs)))).moved (b :: bs).length) hlanes]
    rfl

/-- A byte of the snoop buffer that the block's byte at an offset sets (R43). -/
def Snoop.SetAt (g : Snoop → Byte) (a : Nat) : Prop := ∀ (sn : Snoop) (offset : Nat) (good : Bool) (b : Byte),
  g (sn.take offset good b) = if offset = a then b else if offset = 0 then 0#8 else g sn

/-- The block's byte at an offset put into a field that begins at a base. -/
theorem getElem_put {n : Nat} (v : Vector Byte n) (base offset : Nat) (b : Byte) (k : Fin n) :
    (if base ≤ offset && offset < base + n then v.setIfInBounds (offset - base) b else v)[k] =
      if offset = base + k.val then b else v[k] := by
  have hk := k.isLt
  by_cases hin : base ≤ offset ∧ offset < base + n
  · rw [if_pos (by simpa using hin), Fin.getElem_fin, Vector.getElem_setIfInBounds]
    have hat : offset - base = k.val ↔ offset = base + k.val := by omega
    simp only [hat]
    rfl
  · rw [if_neg (by simpa using hin), if_neg (by omega)]

theorem Snoop.serial_setAt (k : Fin 20) : Snoop.SetAt (fun sn => sn.serial[k]) (20 + k.val) := by
  intro sn offset good b
  refine (getElem_put _ 20 offset b k).trans ?_
  split
  · rfl
  · split
    · simp [Snoop.empty]
    · rfl

theorem Snoop.capacity_setAt (k : Fin 6) : Snoop.SetAt (fun sn => sn.capacity[k]) (200 + k.val) := by
  intro sn offset good b
  refine (getElem_put _ 200 offset b k).trans ?_
  split
  · rfl
  · split
    · simp [Snoop.empty]
    · rfl

theorem Snoop.SetAt.takeAll_later {g : Snoop → Byte} {a : Nat} (h : Snoop.SetAt g a) (good : Bool) (bs : List Byte) :
    ∀ (sn : Snoop) (offset : Nat), offset ≠ 0 →
      g (sn.takeAll offset good bs) = if offset ≤ a then bs.getD (a - offset) (g sn) else g sn := by
  induction bs with
  | nil => intro sn offset _; simp [Snoop.takeAll]
  | cons b bs ih =>
    intro sn offset h0
    rw [Snoop.takeAll, ih _ (offset + 1) (Nat.succ_ne_zero _), h, if_neg h0]
    rcases Nat.lt_trichotomy offset a with hlt | rfl | hgt
    · obtain ⟨d, rfl⟩ := Nat.exists_eq_add_of_lt hlt
      rw [if_pos (by omega), if_neg (by omega), if_pos (by omega), show offset + d + 1 - offset = d + 1 by omega,
        show offset + d + 1 - (offset + 1) = d by omega, List.getD_cons_succ]
    · rw [if_neg (by omega), if_pos rfl, if_pos (Nat.le_refl _), Nat.sub_self, List.getD_cons_zero]
    · rw [if_neg (by omega), if_neg (by omega), if_neg (by omega)]

/-- A byte of the snoop buffer after bytes of one frame: the block's byte where the frame brings it, else as it stood, empty from a
block's beginning on (R43). -/
theorem Snoop.SetAt.takeAll {g : Snoop → Byte} {a : Nat} (h : Snoop.SetAt g a) (ha : a ≠ 0) (good : Bool) {bs : List Byte}
    (hne : bs ≠ []) (sn : Snoop) (offset : Nat) :
    (offset ≤ a ∧ a < offset + bs.length → bs[a - offset]? = some (g (sn.takeAll offset good bs))) ∧
      (¬(offset ≤ a ∧ a < offset + bs.length) → g (sn.takeAll offset good bs) = if offset = 0 then 0#8 else g sn) := by
  have hvalue : g (sn.takeAll offset good bs) =
      if offset ≤ a then bs.getD (a - offset) (if offset = 0 then 0#8 else g sn) else if offset = 0 then 0#8 else g sn := by
    by_cases h0 : offset = 0
    · subst h0
      obtain ⟨b, bs, rfl⟩ := List.exists_cons_of_ne_nil hne
      obtain ⟨d, rfl⟩ := Nat.exists_eq_succ_of_ne_zero ha
      rw [Snoop.takeAll, h.takeAll_later good bs _ _ (Nat.succ_ne_zero 0), h, if_neg (Nat.succ_ne_zero d).symm, if_pos rfl,
        if_pos (by omega), if_pos (Nat.zero_le _)]
      simp
    · rw [h.takeAll_later good bs sn offset h0, if_neg h0]
  constructor
  · rintro ⟨hle, hlt⟩
    rw [hvalue, if_pos hle, List.getD_eq_getElem _ _ (by omega), List.getElem?_eq_getElem (by omega)]
  · intro hout
    rw [hvalue]
    split
    · rw [List.getD_eq_default _ _ (by omega)]
    · rfl

/-- The mark of a snoop buffer after bytes of one frame: kept by a correct check alone, and made afresh at a block's beginning (R32). -/
theorem Snoop.takeAll_intact (good : Bool) (bs : List Byte) : ∀ (sn : Snoop) (offset : Nat), bs ≠ [] →
    (sn.takeAll offset good bs).intact = ((offset == 0 || sn.intact) && good) := by
  induction bs with
  | nil => exact fun _ _ h => absurd rfl h
  | cons b bs ih =>
    intro sn offset _
    have hfirst : (sn.take offset good b).intact = ((offset == 0 || sn.intact) && good) := by
      by_cases h0 : offset = 0
      · simp [Snoop.take, Snoop.empty, h0]
      · rw [beq_false_of_ne h0]; simp [Snoop.take, h0]
    cases bs with
    | nil => exact hfirst
    | cons c bs =>
      rw [Snoop.takeAll, ih _ _ nofun, hfirst]
      simp

/-! ## A whole sector without effect (R32, R51 to R53) -/

/-- The actions of a command's sector that have no effect in its issue phase: no window, RECORD, EXCLUDE, and VERIFY of a write, in BURN
and SCAN; EXCLUDE in SHIP; all elsewhere (Tables 3-3, 3-4). -/
def passesSector (issue : PhaseName) (writes : Bool) (action : Option WindowAction) : Prop :=
  (issue ≠ .burn ∧ issue ≠ .scan ∧ issue ≠ .ship) ∨
    (issue ≠ .ship ∧
      (action = none ∨ action = some .record ∨ action = some .exclude ∨ (action = some .verify ∧ writes = true))) ∨
    (issue = .ship ∧ action = some .exclude)

theorem testAction_pass {win : Option Window} {writes : Bool} (h : win.map (·.action) = none ∨ win.map (·.action) = some .record ∨
    win.map (·.action) = some .exclude ∨ (win.map (·.action) = some .verify ∧ writes = true)) (lba pass : Nat) (seed : Word32) :
    testAction win writes lba pass seed = .pass := by
  cases win with
  | none => rfl
  | some w =>
    simp only [Option.map_some, Option.some.injEq, reduceCtorEq, false_or] at h
    obtain h | h | ⟨h, hw⟩ := h
    · simp only [testAction, h]
    · simp only [testAction, h]
    · simp only [testAction, h, hw, if_true]

theorem shipAction_pass {ws : Vector Window 16} {i : SlotId} {r : SlotRecord} {lba : Nat}
    (h : (matchingWindow ws i r.identity lba).map (fun k => ws[k].action) = some .exclude) (z : SectorSize) (fill : Byte)
    (writes : Bool) : shipAction ws z i r fill writes lba = .pass := by
  unfold shipAction
  cases hm : matchingWindow ws i r.identity lba with
  | none => rw [hm] at h; exact absurd h nofun
  | some k =>
    rw [hm] at h
    simp only [Option.some.inj h]

theorem sectorAction_pass {ws : Vector Window 16} {i : SlotId} {r : SlotRecord} {t : TagEntry} {index : Nat}
    (hlba : t.lba + index < 2 ^ 48) (h : passesSector t.issuePhase t.cls.writes
      ((matchingWindow ws i r.identity (t.lba + index)).map (fun k => ws[k].action))) (z : SectorSize) (fill : Byte) :
    sectorAction ws z fill i r t index = .pass := by
  have htest (hp : t.issuePhase = .burn ∨ t.issuePhase = .scan) : sectorAction ws z fill i r t index = .pass := by
    have hnotship : t.issuePhase ≠ .ship := by obtain hp | hp := hp <;> rw [hp] <;> decide
    obtain ⟨hb, hs, -⟩ | ⟨-, h⟩ | ⟨hship, -⟩ := h
    · exact absurd hp (not_or.mpr ⟨hb, hs⟩)
    · rw [sectorAction_test hp hlba]
      exact testAction_pass (by rw [Option.map_map]; exact h) _ _ _
    · exact absurd hship hnotship
  cases hp : t.issuePhase with
  | burn => exact htest (.inl hp)
  | scan => exact htest (.inr hp)
  | ship =>
    obtain ⟨-, -, hn⟩ | ⟨hn, -⟩ | ⟨-, h⟩ := h
    · exact absurd hp hn
    · exact absurd hp hn
    · unfold sectorAction
      simp only [hp, sectorLba_of_lt hlba]
      exact shipAction_pass h z fill _
  | _ => unfold sectorAction; simp only [hp]

/-- A sector that is read is not substituted (R51). -/
theorem sectorAction_reads {t : TagEntry} (h : t.cls.writes = false) (ws : Vector Window 16) (z : SectorSize) (fill : Byte)
    (i : SlotId) (r : SlotRecord) (index : Nat) (img : Image) : sectorAction ws z fill i r t index ≠ .substitute img := by
  have htest (win : Option Window) (lba : Nat) : testAction win false lba t.pass t.seed ≠ .substitute img := by
    unfold testAction
    split
    · exact nofun
    · split <;> exact nofun
  have hship (lba : Nat) : shipAction ws z i r fill false lba ≠ .substitute img := by
    unfold shipAction
    split
    · exact nofun
    · split
      case h_4 => split <;> exact nofun
      all_goals exact nofun
  unfold sectorAction
  rw [h]
  split
  case h_1 | h_2 => exact htest _ _
  case h_3 => exact hship _
  all_goals exact nofun

/-- The sector in progress that a sector action begins: none for PASS, and substituted by SUBSTITUTE alone (R51, R60). -/
theorem beginSector_unsubstituted {a : SectorAction} (h : ∀ img, a ≠ .substitute img) (e : EntryId) (index lba : Nat) :
    (beginSector a e index lba).any (·.substitutes) = false := by
  cases a with
  | pass => rfl
  | check img => rfl
  | substitute img => exact absurd rfl (h img)

/-- A whole sector whose action is PASS, or that is read in a frame with a wrong check, advances done and the position (R30, R32, R51). -/
theorem execDataFrame_passesSector {s : State} {i : SlotId} {f : DataFrame} {e : EntryId} {x : TagEntry} (hb : s.bypassed i = false)
    (hlen : f.bytes.length = s.sectorSize.bytes)
    (hp : (s.lane i).position = some { entry := e, offset := x.done * s.sectorSize.bytes }) (he : (s.lane i).entry e = some x)
    (htracked : x.untracked = false) (hfollows : (f.direction = .toDrive ∧ (x.cls = .qwrite ∨ x.cls = .write)) ∨
      (f.direction = .toServer ∧ (x.cls = .qread ∨ x.cls = .read))) (hdone : x.done < x.count) (hlba : x.lba + x.done < 2 ^ 48)
    (hpasses : passesSector x.issuePhase x.cls.writes
        ((matchingWindow s.windows i (s.slot i).identity (x.lba + x.done)).map (fun k => s.windows[k].action)) ∨
      (x.cls.writes = false ∧ f.checkGood = false)) :
    execDataFrame i f s = .next
      ((s.modLane i (·.pastSector e x.didSector (x.done * s.sectorSize.bytes + f.bytes.length))).modLane i (·.relaysData f)) := by
  have hclass : x.cls.isData = true ∧ x.cls.agrees f.direction = true := by
    obtain ⟨hd, hc | hc⟩ | ⟨hd, hc | hc⟩ := hfollows <;> rw [hd, hc] <;> exact ⟨rfl, rfl⟩
  have hfollowing : s.Following i e x (x.done * s.sectorSize.bytes) :=
    ⟨hp, he, hclass.1, htracked, by rwa [Nat.mul_div_cancel _ s.sectorSize.bytes_pos]⟩
  have hne : f.bytes ≠ [] := List.ne_nil_of_length_pos (by rw [hlen]; exact s.sectorSize.bytes_pos)
  have hstart : x.done * s.sectorSize.bytes % s.sectorSize.bytes + f.bytes.length = s.sectorSize.bytes := by
    rw [Nat.mul_mod_left, hlen, Nat.zero_add]
  have hbegun := s.begun_first i e hlba
  have hunsubstituted : (s.begun i e x (x.done * s.sectorSize.bytes)).any (·.substitutes) = false := by
    rw [hbegun]
    refine beginSector_unsubstituted (fun img => ?_) e _ _
    obtain hpass | ⟨hreads, -⟩ := hpasses
    · rw [sectorAction_pass hlba hpass]; exact nofun
    · exact sectorAction_reads hreads _ _ _ _ _ _ img
  have huncounted : (s.begun i e x (x.done * s.sectorSize.bytes)).map (·.takeAll f.checkGood f.bytes) = none ∨
      ∃ y, (s.begun i e x (x.done * s.sectorSize.bytes)).map (·.takeAll f.checkGood f.bytes) = some y ∧ y.checksGood = false := by
    obtain hpass | ⟨-, hwrong⟩ := hpasses
    · exact .inl (by rw [hbegun, sectorAction_pass hlba hpass]; rfl)
    · cases s.begun i e x (x.done * s.sectorSize.bytes) with
      | none => exact .inl rfl
      | some z => exact .inr ⟨_, rfl, by simp [SectorInProgress.takeAll, hwrong]⟩
  refine execDataFrame_unaltered hb (DataFrame_wf_of_sector hlen) hp he hclass.2 ?_
  rw [State.Following.passBytes i e x f.checkGood f.bytes s _ hne hfollowing (Nat.le_of_eq hstart), State.carried, if_pos hstart,
    State.sectorEnd_uncounted huncounted]
  exact congrArg (Prod.mk _) (Prod.ext (State.sent_unaltered hunsubstituted s _)
    ((s.sent_substituted _ _).trans hunsubstituted))

/-! ## The settled statement -/

/-- A frame that goes on unaltered beside a change of the slot's record and lane. -/
theorem State.relays_withLink {s : State} {i : SlotId} {e : EntryId} {l : Lane} (f : DataFrame) (r : SlotRecord)
    (hentries : ∀ d, d ≠ e → l.entry d = (s.lane i).entry d) (hupstream : l.upstream = (s.lane i).upstream) :
    let t := (s.withLink i r l).modLane i (·.relaysData f)
    ((f.direction = .toDrive → (t.lane i).toDrive = [.data f.bytes (.original f.checkGood)] ∧ (t.lane i).toServer = []) ∧
      (f.direction = .toServer → (t.lane i).toServer = [.data f.bytes (.original f.checkGood)] ∧ (t.lane i).toDrive = [])) ∧
      (t.lane i).tags = l.tags ∧ (t.lane i).position = l.position ∧ (t.lane i).sector = l.sector ∧ t.slot i = r ∧
      ((∀ d, d ≠ e → (t.lane i).entry d = (s.lane i).entry d) ∧ (t.lane i).upstream = (s.lane i).upstream ∧
        ∀ j, j ≠ i → t.slot j = s.slot j ∧ t.lane j = s.lane j) ∧
      t = { s with slots := t.slots, lanes := t.lanes } ∧ (r = s.slot i → t = { s with lanes := t.lanes }) := by
  intro t
  obtain ⟨hrelayed, htags, hposition, hsector, hup, hothers⟩ := (s.withLink i r l).relaysData_kept i f
  rw [State.lane_withLink] at htags hposition hsector hup
  have hslot : (s.withLink i r l).slot i = r := s.slot_withLink i r l
  have hentry (d : EntryId) := congrArg (fun v : Vector (Option TagEntry) 33 => v[d]) htags
  have hlinks (j : SlotId) (hj : j ≠ i) := s.withLink_others i r l j hj
  refine ⟨hrelayed, htags, hposition, hsector, hslot, ⟨fun d hd => (hentry d).trans (hentries d hd), hup.trans hupstream,
    fun j hj => ⟨(hothers j hj).1.trans (hlinks j hj).1, (hothers j hj).2.trans (hlinks j hj).2⟩⟩, rfl, fun hr => ?_⟩
  unfold t
  rw [hr, State.withLink_lanes_only]
  rfl

theorem CommandClass.not_agrees_of_wrong {c : CommandClass} {d : Direction} (h : c = .flush ∨
    ((c = .qwrite ∨ c = .write) ∧ d = .toServer) ∨ ((c = .qread ∨ c = .read ∨ c = .ident) ∧ d = .toDrive)) :
    c.agrees d = false := by
  obtain hc | ⟨hc | hc, hd⟩ | ⟨hc | hc | hc, hd⟩ := h
  · rw [hc]; rfl
  all_goals rw [hc, hd]; rfl

/-- Settles O28: each course of a frame that passes unaltered, by the lane and the record it leaves. -/
theorem dataFramePassesUnaltered : Obligations.DataFramePassesUnaltered := by
  intro s i f relayed
  refine ⟨fun h => ?_, ?_⟩
  · obtain ⟨hrelayed, htags, hposition, hsector, hupstream, hothers⟩ := s.relaysData_kept i f
    exact ⟨_, execDataFrame_relays h, hrelayed, htags, hposition, hsector, hupstream, fun j hj => (hothers j hj).2, rfl⟩
  intro q x hb hwf hp he size oneAnomaly follows limit moved elsewhere
  have hne : f.bytes ≠ [] := by
    rintro hnil
    simp [DataFrame.wf, hnil] at hwf
  have hposition : ((s.lane i).moved f.bytes.length).position = moved := congrArg (Option.map _) hp
  have hmovesOnly (h : ∀ k < f.bytes.length, x.movesOnly s.sectorSize (s.lane i).sector (q.offset + k))
      (ha : x.cls.agrees f.direction = true) : ∃ t, exec (.dataFrame i f) s = .next t ∧ relayed (t.lane i) ∧
        (t.lane i).tags = (s.lane i).tags ∧ (t.lane i).position = moved ∧ (t.lane i).sector = (s.lane i).sector ∧ elsewhere t ∧
        t = { s with lanes := t.lanes } := by
    have hrun := execDataFrame_unaltered hb hwf hp he ha (State.passBytes_moves_only hp he h f.checkGood)
    rw [State.modLane_eq_withLink s] at hrun
    obtain ⟨hrelayed, htags, hposition', hsector, -, helsewhere, -, ht⟩ := State.relays_withLink (s := s) (i := i) (e := q.entry)
      (l := (s.lane i).moved f.bytes.length) f (s.slot i) (fun _ _ => rfl) rfl
    exact ⟨_, hrun, hrelayed, htags, hposition'.trans hposition, hsector, helsewhere, ht rfl⟩
  have hinside (h : x.cls = .other ∨ (follows ∧ q.offset + f.bytes.length ≤ limit)) : x.cls.agrees f.direction = true ∧
      ∀ k < f.bytes.length, x.beyond s.sectorSize (q.offset + k) = false := by
    obtain hother | ⟨hfollows, hlimit⟩ := h
    · exact ⟨by rw [hother]; rfl, fun k _ => x.beyond_other hother _ _⟩
    · refine ⟨CommandClass.agrees_of_follows hfollows, fun k hk => ?_⟩
      rw [TagEntry.beyond_of_follows hfollows]
      exact decide_eq_false (Nat.not_le_of_lt (Nat.lt_of_lt_of_le (Nat.add_lt_add_left hk _) hlimit))
  refine ⟨fun hother htracked => ?_, fun hwrong => ?_, fun huntracked hwithin => ⟨fun hnone => ?_, fun z hd hz hs hlt => ?_⟩,
    fun hfollows hpast => ?_, fun hident htracked hd hin => ?_, fun htracked hident hfollows hstart hdone hlen hlba => ?_⟩
  · obtain ⟨t, hrun, hrelayed, htags, hmoved, -, helsewhere, ht⟩ := hmovesOnly
      (fun k _ => .inr (.inr ⟨x.beyond_other hother _ _, htracked, by rw [hother]; rfl, by rw [hother]; exact nofun⟩))
      (by rw [hother]; rfl)
    exact ⟨t, hrun, hrelayed, htags, hmoved, helsewhere, ht⟩
  · obtain ⟨hrelayed, htags, hposition, hsector, hslot, helsewhere, ht, -⟩ := State.relays_withLink (s := s) (i := i) (e := q.entry)
      (l := { (s.lane i).setEntry q.entry (some x.marked) with sector := (s.lane i).sector.filter (·.substitutes) }) f
      (if x.untracked then s.slot i else (s.slot i).noted) (fun d hd => (Lane.entry_setEntry ..).trans (if_neg hd.symm)) rfl
    refine ⟨_, execDataFrame_wrong hb hwf hp he (CommandClass.not_agrees_of_wrong hwrong), hrelayed, ?_, hposition.trans hp, hsector,
      hslot, helsewhere, ht⟩
    exact (congrArg (fun v : Vector (Option TagEntry) 33 => v[q.entry]) htags).trans ((Lane.entry_setEntry ..).trans (if_pos rfl))
  · obtain ⟨hagrees, hbeyond⟩ := hinside hwithin
    obtain ⟨t, hrun, hrelayed, htags, hmoved, hsector, helsewhere, ht⟩ := hmovesOnly
      (fun k hk => .inr (.inl ⟨hbeyond k hk, huntracked, hnone⟩)) hagrees
    exact ⟨t, hrun, hrelayed, htags, hmoved, hsector.trans hnone, helsewhere, ht⟩
  · obtain ⟨hagrees, hbeyond⟩ := hinside hwithin
    obtain ⟨y, sent, hpass, hlength, hbytes, hended⟩ := State.passBytes_untracked huntracked f.checkGood f.bytes s q z hne hp he hbeyond
      hz hs hlt
    have hrun := execDataFrame_agreed hb hwf hp he hagrees
    rw [hpass] at hrun
    obtain ⟨htags, hposition', hsector, hupstream, hothers⟩ := (s.modLane i (·.movedIn f.bytes.length y)).sendsData_kept i f.direction
      sent (outgoingCheck true f.checkGood)
    rw [State.lane_modLane_self s] at htags hposition' hsector hupstream
    obtain ⟨hdrive, hserver⟩ := (Lane.sendsData_sent ((s.modLane i (·.movedIn f.bytes.length y)).lane i) f.direction sent
      (outgoingCheck true f.checkGood)).1 hd
    have hentry (d : EntryId) := congrArg (fun v : Vector (Option TagEntry) 33 => v[d]) htags
    refine ⟨_, sent, hrun, ?_, ?_, hlength, hbytes, htags, hposition'.trans hposition, fun h => hsector.trans (hended h),
      ⟨fun d _ => hentry d, hupstream, fun j hj => ⟨rfl, (hothers j hj).trans (s.lane_modLane_ne hj.symm _)⟩⟩, rfl⟩
    · rw [State.lane_modLane_self]; exact hserver
    · rw [State.lane_modLane_self]; exact hdrive
  · have hbeyond (k : Nat) : x.beyond s.sectorSize (q.offset + k) = true := by
      rw [TagEntry.beyond_of_follows hfollows]
      exact decide_eq_true (Nat.le_add_right_of_le hpast)
    obtain ⟨hrelayed, htags, hposition', hsector, hslot, helsewhere, ht, -⟩ := State.relays_withLink (s := s) (i := i) (e := q.entry)
      (l := ((s.lane i).setEntry q.entry (some x.overrun)).moved f.bytes.length) f
      (if x.overrunNoted then s.slot i else (s.slot i).noted) (fun d hd => (Lane.entry_setEntry ..).trans (if_neg hd.symm)) rfl
    refine ⟨_, execDataFrame_unaltered hb hwf hp he (CommandClass.agrees_of_follows hfollows)
      (State.passBytes_overrun hne hp he hbeyond f.checkGood), hrelayed, ?_, hposition'.trans hposition, hsector, hslot, helsewhere, ht⟩
    exact (congrArg (fun v : Vector (Option TagEntry) 33 => v[q.entry]) htags).trans ((Lane.entry_setEntry ..).trans (if_pos rfl))
  · have hrun := execDataFrame_unaltered hb hwf hp he (by rw [hident, hd]; rfl)
      (State.passBytes_ident f.checkGood f.bytes s q x hp he hident htracked hin)
    rw [State.modLane_eq_withLink s] at hrun
    obtain ⟨hrelayed, htags, hposition', -, -, helsewhere, -, ht⟩ := State.relays_withLink (s := s) (i := i) (e := q.entry)
      (l := ((s.lane i).setEntry q.entry (some (x.tookBlock q.offset f.checkGood f.bytes))).moved f.bytes.length) f (s.slot i)
      (fun d hd => (Lane.entry_setEntry ..).trans (if_neg hd.symm)) rfl
    intro passed kept
    have hentry := (congrArg (fun v : Vector (Option TagEntry) 33 => v[q.entry]) htags).trans
      ((Lane.entry_setEntry ..).trans (if_pos rfl))
    have hlast : (q.offset ≤ 511 ∧ 511 < q.offset + f.bytes.length) = (q.offset + f.bytes.length = 512) := by
      have := List.length_pos_of_ne_nil hne
      apply propext; omega
    refine ⟨_, _, hrun, hrelayed, hentry, ?_, Snoop.takeAll_intact f.checkGood f.bytes x.snoop q.offset hne, fun k => ?_, fun k => ?_,
      hposition'.trans hposition, helsewhere, ht rfl⟩
    · simp only [TagEntry.tookBlock, hlast]
    · exact (Snoop.serial_setAt k).takeAll (by omega) f.checkGood hne x.snoop q.offset
    · exact (Snoop.capacity_setAt k).takeAll (by omega) f.checkGood hne x.snoop q.offset
  · intro writes action passes hpasses
    have hdata : (f.direction = .toDrive ∧ (x.cls = .qwrite ∨ x.cls = .write)) ∨
        (f.direction = .toServer ∧ (x.cls = .qread ∨ x.cls = .read)) :=
      hfollows.imp_right fun ⟨hd, hc⟩ => ⟨hd, hc.imp_right fun hc => hc.resolve_right hident⟩
    have hwrites : writes = (x.cls.writes = true) := by
      unfold writes
      obtain ⟨hd, hc | hc⟩ | ⟨hd, hc | hc⟩ := hdata <;> rw [hd, hc] <;> simp [CommandClass.writes]
    have hpasses : passesSector x.issuePhase x.cls.writes action ∨ (x.cls.writes = false ∧ f.checkGood = false) := by
      rw [← Bool.not_eq_true, passesSector, ← hwrites]
      exact hpasses
    obtain ⟨e, offset⟩ := q
    obtain rfl : offset = x.done * size := hstart
    have hrun := execDataFrame_passesSector hb hlen hp he htracked hdata hdone hlba hpasses
    rw [State.modLane_eq_withLink s] at hrun
    obtain ⟨hrelayed, htags, hposition', hsector, -, helsewhere, -, ht⟩ := State.relays_withLink (s := s) (i := i) (e := e)
      (l := (s.lane i).pastSector e x.didSector (x.done * s.sectorSize.bytes + f.bytes.length)) f (s.slot i)
      (fun d hd => (Lane.entry_pastSector ..).trans (if_neg hd.symm)) rfl
    refine ⟨_, hrun, hrelayed, ?_, hposition', hsector, helsewhere, ht rfl⟩
    exact (congrArg (fun v : Vector (Option TagEntry) 33 => v[e]) htags).trans ((Lane.entry_pastSector ..).trans (if_pos rfl))

end Sys2Proof.Machine
end

section
/-!
Data frames compose (R24, R29, R30, R31): the bytes of a frame do not depend on what the lane sent before, so two frames do what the one
frame of their bytes does.
-/
namespace Sys2Proof.Machine

/-! ## What the lane sends, put apart -/

/-- A lane that sends other frames. -/
def Lane.sending (l : Lane) (x y : List SentFrame) : Lane := { l with toDrive := x, toServer := y }

/-- A state whose lane sends other frames. -/
def State.sending (s : State) (i : SlotId) (x y : List SentFrame) : State := s.modLane i (·.sending x y)

section
variable (s : State) (i : SlotId) (x y : List SentFrame)

theorem State.lane_sending : (s.sending i x y).lane i = (s.lane i).sending x y := s.lane_modLane_self i _

theorem State.sending_sending (x' y' : List SentFrame) : (s.sending i x y).sending i x' y' = s.sending i x' y' :=
  s.modLane_modLane i _ _

/-- A change of the lane that does not ask what it sends. -/
theorem State.modLane_sending {f : Lane → Lane} (h : ∀ l : Lane, f (l.sending x y) = (f l).sending x y) :
    (s.sending i x y).modLane i f = (s.modLane i f).sending i x y := by
  rw [State.sending, State.sending, State.modLane_modLane, State.modLane_modLane]
  exact State.modLane_congr (h _)

theorem State.withLink_sending (r : SlotRecord) (l : Lane) :
    (s.sending i x y).withLink i r (l.sending x y) = (s.withLink i r l).sending i x y := by
  rw [State.sending, State.sending, State.modLane_withLink, State.modLane_eq_withLink, State.withLink_withLink]

theorem State.report_sending (f : SlotRecord → SlotRecord) : (s.sending i x y).report i f = (s.report i f).sending i x y := by
  unfold State.report; split
  · rename_i h
    rw [if_pos (show s.counting i = true from h)]; rfl
  · rename_i h
    rw [if_neg (show ¬s.counting i = true from h)]

theorem State.testResult_sending (e : EntryId) (lba pass : Nat) (c : CheckResult) :
    (s.sending i x y).testResult i e lba pass c = (s.testResult i e lba pass c).sending i x y := by
  cases hc : (s.slot i).phase.counts with
  | true =>
    rw [State.testResult_counts e lba pass c hc, State.testResult_counts (s := s.sending i x y) e lba pass c hc, State.lane_sending,
      State.withLink_sending]
    rfl
  | false => rw [State.testResult_not_counts e lba pass c hc, State.testResult_not_counts (s := s.sending i x y) e lba pass c hc]

theorem State.judging_sending (e : EntryId) (t : TagEntry) (z : SectorInProgress) (c : CheckResult) :
    (s.sending i x y).judging i e t z c = (s.judging i e t z c).sending i x y := by
  unfold State.judging
  split
  case h_1 | h_2 => exact s.testResult_sending i x y e _ _ c
  case h_3 => exact s.report_sending i x y _
  all_goals rfl

theorem State.sectorEnd_sending {e : EntryId} {t : TagEntry} (offset : Nat) (z : Option SectorInProgress) :
    ((s.sending i x y).modLane i (·.pastSector e t offset)).sectorEnd i e t z =
      ((s.modLane i (·.pastSector e t offset)).sectorEnd i e t z).sending i x y := by
  have hpast (u : TagEntry) : (s.sending i x y).modLane i (·.pastSector e u offset) =
      (s.modLane i (·.pastSector e u offset)).sending i x y := s.modLane_sending i x y fun _ => rfl
  cases z with
  | none => exact hpast t
  | some z =>
    cases hgood : z.checksGood with
    | false =>
      rw [State.sectorEnd_uncounted (.inr ⟨z, rfl, hgood⟩), State.sectorEnd_uncounted (.inr ⟨z, rfl, hgood⟩)]
      exact hpast t
    | true =>
      cases hs : z.substitutes with
      | true =>
        refine (State.finishSector_substituted hgood hs _ i e t).trans
          (Eq.trans ?_ (congrArg (State.sending · i x y) (State.finishSector_substituted hgood hs _ i e t)).symm)
        rw [hpast, State.lane_sending]
        exact State.withLink_sending _ i x y _ _
      | false =>
        rw [State.sectorEnd_checked hgood hs, State.sectorEnd_checked hgood hs, hpast]
        exact State.judging_sending _ i x y e t z _

theorem State.begun_sending (e : EntryId) (t : TagEntry) (offset : Nat) :
    (s.sending i x y).begun i e t offset = s.begun i e t offset := by
  unfold State.begun
  rw [State.lane_sending]
  rfl

theorem State.carried_sending (e : EntryId) (t : TagEntry) (offset : Nat) (z : Option SectorInProgress) (good : Bool)
    (bs : List Byte) : (s.sending i x y).carried i e t offset z good bs = (s.carried i e t offset z good bs).sending i x y := by
  unfold State.carried
  rw [apply_ite (State.sending · i x y), ← State.sectorEnd_sending, ← State.modLane_sending s i x y fun _ => rfl]
  rfl

end

/-! ## One byte, by what the position and its entry are (R29 to R31) -/

theorem State.passOne_nothing {s : State} {i : SlotId} (h : (s.lane i).position = none ∨
    ∃ p, (s.lane i).position = some p ∧ (s.lane i).entry p.entry = none) (good : Bool) (b : Byte) :
    s.passOne i good b = (s, b, false) := by
  unfold State.passOne
  obtain hp | ⟨p, hp, he⟩ := h
  · simp only [hp]
  · simp only [hp, he]

theorem State.passOne_beyond {s : State} {i : SlotId} {p : Position} {t : TagEntry} (hp : (s.lane i).position = some p)
    (he : (s.lane i).entry p.entry = some t) (h : t.beyond s.sectorSize p.offset = true) (good : Bool) (b : Byte) :
    s.passOne i good b = (s.withLink i (if t.overrunNoted then s.slot i else (s.slot i).noted)
      (((s.lane i).setEntry p.entry (some t.overrun)).moved 1), b, false) := by
  unfold State.passOne
  simp only [hp, he, State.noteOverrun_eq he, State.modLane_withLink]
  exact if_pos h

/-- A tracked entry of a data class within its data is followed (R29, R30). -/
theorem State.Following.of_within {s : State} {i : SlotId} {p : Position} {t : TagEntry} (hp : (s.lane i).position = some p)
    (he : (s.lane i).entry p.entry = some t) (h : t.beyond s.sectorSize p.offset = false) (htracked : t.untracked = false)
    (hdata : t.cls.isData = true) : s.Following i p.entry t p.offset := by
  refine ⟨hp, he, hdata, htracked, (Nat.div_lt_iff_lt_mul s.sectorSize.bytes_pos).mpr ?_⟩
  simpa [TagEntry.beyond, TagEntry.dataLimit, hdata] using h

theorem TagEntry.lt_of_ident {t : TagEntry} {z : SectorSize} {offset : Nat} (hc : t.cls = .ident) (h : t.beyond z offset = false) :
    offset < 512 := by
  simpa [TagEntry.beyond, TagEntry.dataLimit, hc, CommandClass.isData, CommandClass.writes, CommandClass.reads] using h

/-- A byte passes alike whatever the lane sent before. -/
theorem State.passOne_sending (s : State) (i : SlotId) (x y : List SentFrame) (good : Bool) (b : Byte) :
    (s.sending i x y).passOne i good b = ((s.passOne i good b).1.sending i x y, (s.passOne i good b).2) := by
  have hlane := s.lane_sending i x y
  cases hp : (s.lane i).position with
  | none =>
    rw [State.passOne_nothing (.inl hp), State.passOne_nothing (.inl (by rw [hlane]; exact hp))]
  | some p =>
    have hp' : ((s.sending i x y).lane i).position = some p := by rw [hlane]; exact hp
    cases he : (s.lane i).entry p.entry with
    | none =>
      rw [State.passOne_nothing (.inr ⟨p, hp, he⟩), State.passOne_nothing (.inr ⟨p, hp', by rw [hlane]; exact he⟩)]
    | some t =>
      have he' : ((s.sending i x y).lane i).entry p.entry = some t := by rw [hlane]; exact he
      cases hbeyond : t.beyond s.sectorSize p.offset with
      | true =>
        rw [State.passOne_beyond hp he hbeyond, State.passOne_beyond hp' he' hbeyond, hlane]
        exact congrArg (·, b, false) (s.withLink_sending i x y (if t.overrunNoted then s.slot i else (s.slot i).noted)
          (((s.lane i).setEntry p.entry (some t.overrun)).moved 1))
      | false =>
        cases hu : t.untracked with
        | true =>
          rw [State.passOne_untracked hp he hbeyond hu, State.passOne_untracked hp' he' hbeyond hu]
          unfold State.passUntracked
          rw [hlane]
          exact congrArg (·, _) (s.modLane_sending i x y fun _ => rfl)
        | false =>
          cases hdata : t.cls.isData with
          | true =>
            have hfollowing := State.Following.of_within hp he hbeyond hu hdata
            have hfollowing' := State.Following.of_within hp' he' hbeyond hu hdata
            rw [hfollowing.passOne, hfollowing'.passOne, hfollowing.passByte, hfollowing'.passByte, State.begun_sending,
              State.carried_sending]
            rfl
          | false =>
            by_cases hc : t.cls = .ident
            · have hin := TagEntry.lt_of_ident hc hbeyond
              rw [State.passOne_ident hp he hc hu hin, State.passOne_ident hp' he' hc hu hin,
                State.modLane_sending s i x y fun _ => rfl]
            · rw [State.passOne_moves_only hp he (.inr (.inr ⟨hbeyond, hu, hdata, hc⟩)),
                State.passOne_moves_only hp' he' (.inr (.inr ⟨hbeyond, hu, hdata, hc⟩)), State.modLane_sending s i x y fun _ => rfl]

/-- The bytes of a frame pass alike whatever the lane sent before. -/
theorem State.passBytes_sending (i : SlotId) (x y : List SentFrame) (good : Bool) (bs : List Byte) : ∀ s : State,
    (s.sending i x y).passBytes i good bs = ((s.passBytes i good bs).1.sending i x y, (s.passBytes i good bs).2) := by
  induction bs with
  | nil => exact fun _ => rfl
  | cons b bs ih =>
    intro s
    rw [State.passBytes, State.passBytes, State.passOne_sending]
    dsimp only
    rw [ih]

/-! ## What the bytes of a frame keep -/

/-- A lane follows an entry of a class, in a state that is in bypass or not (R29, R45). -/
def State.HoldsClass (s : State) (i : SlotId) (e : EntryId) (c : CommandClass) : Prop :=
  s.bypassed i = false ∧ ∃ offset t, (s.lane i).position = some { entry := e, offset := offset } ∧
    (s.lane i).entry e = some t ∧ t.cls = c

theorem State.bypassed_judging (s : State) (i : SlotId) (e : EntryId) (t : TagEntry) (z : SectorInProgress) (c : CheckResult) :
    (s.judging i e t z c).bypassed i = s.bypassed i := by
  unfold State.judging
  split
  case h_1 | h_2 =>
    obtain ⟨-, -, -, hapart⟩ := s.testResult_judged i e z.lba t.pass c
    rw [hapart]; rfl
  case h_3 => rw [State.report_eq_withLink]; rfl
  all_goals rfl

theorem State.carried_holdsClass {s : State} {i : SlotId} {e : EntryId} {t : TagEntry} (hb : s.bypassed i = false)
    (he : (s.lane i).entry e = some t) (offset : Nat) (z : Option SectorInProgress) (good : Bool) (bs : List Byte) :
    (s.carried i e t offset z good bs).HoldsClass i e t.cls := by
  obtain ⟨hposition, -⟩ := s.carried_links i e t offset z good bs
  suffices h : (s.carried i e t offset z good bs).bypassed i = false ∧
      ∃ u, ((s.carried i e t offset z good bs).lane i).entry e = some u ∧ u.cls = t.cls by
    obtain ⟨hb', u, hu, hcls⟩ := h
    exact ⟨hb', _, u, hposition, hu, hcls⟩
  by_cases hend : offset % s.sectorSize.bytes + bs.length = s.sectorSize.bytes
  · have huncounted (h : z.map (·.takeAll good bs) = none ∨ ∃ y, z.map (·.takeAll good bs) = some y ∧ y.checksGood = false) :
        (s.carried i e t offset z good bs).bypassed i = false ∧
          ∃ u, ((s.carried i e t offset z good bs).lane i).entry e = some u ∧ u.cls = t.cls := by
      rw [State.carried, if_pos hend, State.sectorEnd_uncounted h]
      exact ⟨hb, t.didSector, s.pastSector_entry i e _ _, rfl⟩
    cases hz : z.map (·.takeAll good bs) with
    | none => exact huncounted (.inl hz)
    | some y =>
      cases hgood : y.checksGood with
      | false => exact huncounted (.inr ⟨y, hz, hgood⟩)
      | true =>
        cases hs : y.substitutes with
        | true =>
          rw [State.carried_substituted hend hz hgood hs, State.lane_withLink]
          exact ⟨hb, t.didSector, (Lane.entry_pastSector ..).trans (if_pos rfl), rfl⟩
        | false =>
          rw [State.carried_checked hend hz hgood hs, State.bypassed_judging, State.lane, State.judging_lanes]
          exact ⟨hb, t.didSector.classified (s.resultOf y), s.pastSector_entry i e _ _, rfl⟩
  · rw [State.carried, if_neg hend, State.lane_modLane_self]
    exact ⟨hb, t, he, rfl⟩

/-- A byte keeps the lane on its entry, of the same class (R29, R30). -/
theorem State.HoldsClass.passOne {s : State} {i : SlotId} {e : EntryId} {c : CommandClass} (h : s.HoldsClass i e c) (good : Bool)
    (b : Byte) : (s.passOne i good b).1.HoldsClass i e c := by
  obtain ⟨hb, offset, t, hp, he, rfl⟩ := h
  have hmoved (l : Lane) (hl : l.position = (s.lane i).position) :
      (l.moved 1).position = some { entry := e, offset := offset + 1 } := by rw [Lane.moved, hl, hp]; rfl
  cases hbeyond : t.beyond s.sectorSize offset with
  | true =>
    rw [State.passOne_beyond hp he hbeyond]
    refine ⟨hb, offset + 1, t.overrun, ?_, ?_, rfl⟩ <;> rw [State.lane_withLink]
    · exact hmoved _ rfl
    · exact (Lane.entry_setEntry ..).trans (if_pos rfl)
  | false =>
    cases hu : t.untracked with
    | true =>
      rw [State.passOne_untracked hp he hbeyond hu]
      refine ⟨hb, offset + 1, t, ?_, ?_, rfl⟩ <;> rw [State.passUntracked, State.lane_modLane_self]
      · exact hmoved (s.lane i) rfl
      · exact he
    | false =>
      cases hdata : t.cls.isData with
      | true =>
        have hfollowing := State.Following.of_within hp he hbeyond hu hdata
        rw [hfollowing.passOne, hfollowing.passByte]
        exact State.carried_holdsClass hb he offset _ good [b]
      | false =>
        by_cases hc : t.cls = .ident
        · rw [State.passOne_ident hp he hc hu (TagEntry.lt_of_ident hc hbeyond)]
          refine ⟨hb, offset + 1, t.tookBlock offset good [b], ?_, ?_, rfl⟩ <;> rw [State.lane_modLane_self]
          · exact hmoved _ rfl
          · exact (Lane.entry_setEntry ..).trans (if_pos rfl)
        · rw [State.passOne_moves_only hp he (.inr (.inr ⟨hbeyond, hu, hdata, hc⟩))]
          refine ⟨hb, offset + 1, t, ?_, ?_, rfl⟩ <;> rw [State.lane_modLane_self]
          · exact hmoved (s.lane i) rfl
          · exact he

/-- Bytes that are not substituted go on as they are (R24, R30). -/
theorem State.passOne_unsubstituted {s : State} {i : SlotId} {good : Bool} {b : Byte} (h : (s.passOne i good b).2.2 = false) :
    (s.passOne i good b).2.1 = b := by
  have houtgoing (z : Option SectorInProgress) (h : (s.outgoing z b).2 = false) : (s.outgoing z b).1 = b := by
    cases z with
    | none => rfl
    | some y => cases hs : y.substitutes <;> simp_all [State.outgoing]
  obtain heq | ⟨p, t, -, -, ⟨-, heq⟩ | ⟨-, -, heq⟩ | ⟨-, -, -, heq⟩ | ⟨-, -, -, heq⟩ | ⟨-, -, -, -, heq⟩⟩ := s.passOne_cases i good b
  · rw [heq]
  · rw [heq]
  · rw [heq] at h ⊢; exact houtgoing _ h
  · have hsent : (s.passByte i p.entry t p.offset good b).2 = s.outgoing (s.begun i p.entry t p.offset) b := by
      unfold State.passByte; dsimp only; split <;> rfl
    rw [heq, hsent] at h ⊢
    exact houtgoing _ h
  · rw [heq]
  · rw [heq]

theorem State.passBytes_unsubstituted (i : SlotId) (good : Bool) (bs : List Byte) : ∀ s : State,
    (s.passBytes i good bs).2.2 = false → (s.passBytes i good bs).2.1 = bs := by
  induction bs with
  | nil => exact fun _ _ => rfl
  | cons b bs ih =>
    intro s h
    obtain ⟨hfirst, hrest⟩ := Bool.or_eq_false_iff.mp (show ((s.passOne i good b).2.2 || _) = false from h)
    exact congrArg₂ List.cons (State.passOne_unsubstituted hfirst) (ih _ hrest)

/-! ## The settled statement -/

theorem State.HoldsClass.passBytes {s : State} {i : SlotId} {e : EntryId} {c : CommandClass} (h : s.HoldsClass i e c) (good : Bool)
    (bs : List Byte) : (s.passBytes i good bs).1.HoldsClass i e c :=
  State.passBytes_induct (P := fun u => u.HoldsClass i e c) i good (fun _ b hu => hu.passOne good b) bs s h

/-- Where the lane holds an entry whose class agrees, the bytes of a frame pass and the lane sends them (R24, R30). -/
theorem State.HoldsClass.execDataFrame {s : State} {i : SlotId} {e : EntryId} {c : CommandClass} (h : s.HoldsClass i e c)
    {f : DataFrame} (hwf : f.wf = true) (ha : c.agrees f.direction = true) : execDataFrame i f s =
      .next ((s.passBytes i f.checkGood f.bytes).1.modLane i (·.sendsData f.direction (s.passBytes i f.checkGood f.bytes).2.1
        (outgoingCheck (s.passBytes i f.checkGood f.bytes).2.2 f.checkGood))) := by
  obtain ⟨hb, offset, t, hp, he, rfl⟩ := h
  exact execDataFrame_agreed hb hwf hp he ha

theorem State.HoldsClass.sending {s : State} {i : SlotId} {e : EntryId} {c : CommandClass} (h : s.HoldsClass i e c)
    (x y : List SentFrame) : (s.sending i x y).HoldsClass i e c := by
  obtain ⟨hb, offset, t, hp, he, hc⟩ := h
  refine ⟨hb, offset, t, ?_, ?_, hc⟩ <;> rw [State.lane_sending]
  · exact hp
  · exact he

/-- To send a data frame is to send it and nothing else (R24). -/
theorem State.sendsData_sending (i : SlotId) (d : Direction) (bytes : List Byte) (check : OutgoingCheck) :
    ∃ x y, ∀ s : State, s.modLane i (·.sendsData d bytes check) = s.sending i x y := by
  cases d with
  | toDrive => exact ⟨[.data bytes check], [], fun _ => rfl⟩
  | toServer => exact ⟨[], [.data bytes check], fun _ => rfl⟩

/-- Two states that differ in what the lane sends, the one said from the other. -/
theorem State.sending_from (w : State) (i : SlotId) (x y x' y' : List SentFrame) : w.sending i x y =
    { w.sending i x' y' with lanes := (w.sending i x' y').lanes.set i { (w.sending i x' y').lane i with
      toDrive := ((w.sending i x y).lane i).toDrive, toServer := ((w.sending i x y).lane i).toServer } } := by
  show w.sending i x y = (w.sending i x' y').sending i ((w.sending i x y).lane i).toDrive ((w.sending i x y).lane i).toServer
  rw [State.lane_sending, State.sending_sending]
  rfl

theorem TagEntry.untracked_marked (t : TagEntry) : t.marked.untracked = true := by
  unfold TagEntry.marked; split
  · assumption
  · rfl

theorem TagEntry.cls_marked (t : TagEntry) : t.marked.cls = t.cls := by
  unfold TagEntry.marked; split <;> rfl

/-- A second frame in the wrong direction changes nothing but what the lane sends (R30, R31). -/
theorem execDataFrame_wrong_again {s : State} {i : SlotId} {f : DataFrame} {q : Position} {x : TagEntry} (hb : s.bypassed i = false)
    (hwf : f.wf = true) (hp : (s.lane i).position = some q) (he : (s.lane i).entry q.entry = some x)
    (ha : x.cls.agrees f.direction = false) (hu : x.untracked = true)
    (hsector : (s.lane i).sector.filter (·.substitutes) = (s.lane i).sector) :
    execDataFrame i f s = .next (s.modLane i (·.relaysData f)) := by
  have hmarked : x.marked = x := if_pos hu
  rw [execDataFrame_wrong hb hwf hp he ha, if_pos hu, hmarked, Lane.setEntry_self he, hsector]
  exact congrArg (fun w : State => Host.Outcome.next (w.modLane i (·.relaysData f))) (s.withLink_self i)

/-- Two frames pass as the one frame of their bytes, whatever the lane sent between (R24, R30). -/
theorem execDataFrame_composes (s : State) (i : SlotId) (d : Direction) {a b : List Byte} (good : Bool)
    (hwfA : DataFrame.wf ⟨d, a, good⟩ = true) (hwfB : DataFrame.wf ⟨d, b, good⟩ = true)
    (hwfAB : DataFrame.wf ⟨d, a ++ b, good⟩ = true) :
    ∃ (w₁ w₂ : State) (sentA sentB : List Byte) (subA subB : Bool),
      execDataFrame i ⟨d, a, good⟩ s = .next (w₁.modLane i (·.sendsData d sentA (outgoingCheck subA good))) ∧
      (∀ x y, execDataFrame i ⟨d, b, good⟩ (w₁.sending i x y) =
        .next ((w₂.sending i x y).modLane i (·.sendsData d sentB (outgoingCheck subB good)))) ∧
      execDataFrame i ⟨d, a ++ b, good⟩ s =
        .next (w₂.modLane i (·.sendsData d (sentA ++ sentB) (outgoingCheck (subA || subB) good))) ∧
      (sentA.length = a.length ∧ sentB.length = b.length) ∧ (subA = false → sentA = a) ∧ (subB = false → sentB = b) := by
  by_cases hnothing : s.bypassed i = true ∨ (s.lane i).position = none ∨
      ∃ q, (s.lane i).position = some q ∧ (s.lane i).entry q.entry = none
  · refine ⟨s, s, a, b, false, false, execDataFrame_relays (hnothing.imp_right .inr), fun x y => execDataFrame_relays ?_,
      execDataFrame_relays (hnothing.imp_right .inr), ⟨rfl, rfl⟩, fun _ => rfl, fun _ => rfl⟩
    rw [State.lane_sending]
    exact hnothing.imp_right .inr
  · obtain ⟨hbypassed, hposition⟩ := not_or.mp hnothing
    have hbypassed : s.bypassed i = false := Bool.eq_false_iff.mpr hbypassed
    obtain ⟨p, hp⟩ := Option.ne_none_iff_exists'.mp (not_or.mp hposition).1
    obtain ⟨t, he⟩ := Option.ne_none_iff_exists'.mp fun he => (not_or.mp hposition).2 ⟨p, hp, he⟩
    cases hagrees : t.cls.agrees d with
    | true =>
      have hholds : s.HoldsClass i p.entry t.cls := ⟨hbypassed, p.offset, t, hp, he, rfl⟩
      have hAB := hholds.execDataFrame hwfAB hagrees
      rw [State.passBytes_append] at hAB
      refine ⟨_, _, _, _, _, _, hholds.execDataFrame hwfA hagrees, fun x y => ?_, hAB,
        ⟨s.passBytes_length i good a, State.passBytes_length i good b _⟩, State.passBytes_unsubstituted i good a s,
        State.passBytes_unsubstituted i good b _⟩
      have hB := ((hholds.passBytes good a).sending x y).execDataFrame hwfB hagrees
      rw [State.passBytes_sending] at hB
      exact hB
    | false =>
      refine ⟨_, _, a, b, false, false, execDataFrame_wrong hbypassed hwfA hp he hagrees, fun x y => ?_,
        execDataFrame_wrong hbypassed hwfAB hp he hagrees, ⟨rfl, rfl⟩, fun _ => rfl, fun _ => rfl⟩
      refine execDataFrame_wrong_again (q := p) (x := t.marked) hbypassed hwfB ?_ ?_ (by rw [t.cls_marked]; exact hagrees)
        t.untracked_marked ?_ <;> rw [State.lane_sending, State.lane_withLink]
      · exact hp
      · exact (Lane.entry_setEntry ..).trans (if_pos rfl)
      · exact (Option.filter_filter ..).trans (congrArg (Option.filter · _) (funext fun z => Bool.and_self _))

/-- Settles O32: the frames that pass alike, the wrong direction, and the bytes of two frames as those of one. -/
theorem dataFramesCompose : Obligations.DataFramesCompose := by
  intro s i d a b good ha hb hlen sends
  have hwf (bs : List Byte) (hne : bs ≠ []) (hle : bs.length ≤ 8192) : DataFrame.wf ⟨d, bs, good⟩ = true := by
    have hpos := List.length_pos_of_ne_nil hne
    simp [DataFrame.wf, hle, Nat.succ_le_of_lt hpos]
  have hsends (w : State) (bytes : List Byte) (substituted : Bool) :
      sends (w.modLane i (·.sendsData d bytes (outgoingCheck substituted good))) bytes substituted := by
    unfold sends
    rw [State.lane_modLane_self]
    exact Lane.sendsData_sent _ _ _ _
  obtain ⟨w₁, w₂, sentA, sentB, subA, subB, hA, hB, hAB, hlength, hsameA, hsameB⟩ := execDataFrame_composes s i d good
    (hwf a ha (by omega)) (hwf b hb (by omega)) (hwf (a ++ b) (by simp [ha]) (by rw [List.length_append]; omega))
  obtain ⟨x, y, hsendA⟩ := State.sendsData_sending i d sentA (outgoingCheck subA good)
  obtain ⟨x', y', hsendB⟩ := State.sendsData_sending i d sentB (outgoingCheck subB good)
  obtain ⟨x'', y'', hsendAB⟩ := State.sendsData_sending i d (sentA ++ sentB) (outgoingCheck (subA || subB) good)
  refine ⟨_, _, _, sentA, sentB, subA, subB, hA, (congrArg _ (hsendA w₁)).trans (hB x y), hAB, hsends _ _ _, hsends _ _ _,
    hsends _ _ _, hlength, hsameA, hsameB, ?_⟩
  rw [hsendAB, hsendB, State.sending_sending]
  exact w₂.sending_from i _ _ _ _

end Sys2Proof.Machine
end

section
/-!
What a PROFILE_SET causes at once (R168): the entries that a lowered command timeout makes LATE, in slot and entry order (R37), and the
stale timer, the offer and the chamber receiver (R110, R119, R140).
-/
namespace Sys2Proof.Machine

/-! ## What a timeout reaches (R37) -/

/-- An OPEN timed entry whose age has reached the command timeout (R37). -/
def State.reaches (s : State) (i : SlotId) (x : TagEntry) : Bool :=
  !s.bypassed i && !x.late && x.issuePhase.isTimed && s.profile.commandTimeout * 1000 ≤ s.elapsed x.issueTime

theorem State.timeoutDue_eq (s : State) (i : SlotId) (e : EntryId) : s.timeoutDue i e = ((s.lane i).entry e).any (s.reaches i) := by
  unfold State.timeoutDue
  cases (s.lane i).entry e <;> rfl

/-- An entry made LATE (R37). -/
def TagEntry.lated (x : TagEntry) : TagEntry := { x with late := true }

/-- An entry after its timeout where it is reached (R37). -/
def State.expired (s : State) (i : SlotId) (x : TagEntry) : TagEntry := if s.reaches i x then x.lated else x

/-- A counter raised one by one, saturating (R26). -/
def raisedBy (n k : Nat) : Nat := if k = 0 then n else min (n + k) 65535

theorem raisedBy_succ (n k : Nat) : inc16 (raisedBy n k) = raisedBy n (k + 1) := by
  show min (raisedBy n k + 1) 65535 = raisedBy n (k + 1)
  unfold raisedBy
  split <;> simp <;> omega

/-- A slot record with timeouts counted, and bad sectors of SHIP (R37). -/
def SlotRecord.timedOutBy (r : SlotRecord) (timeouts bad : Nat) : SlotRecord :=
  { r with
    counters := { r.counters with timeouts := raisedBy r.counters.timeouts timeouts }
    ship := { r.ship with bad := raisedBy r.ship.bad bad } }

theorem SlotRecord.timedOut_timedOutBy (r : SlotRecord) (n m : Nat) (issue : PhaseName) :
    (r.timedOutBy n m).timedOut issue =
      r.timedOutBy (n + if issue != .ship then 1 else 0) (m + if issue == .ship then 1 else 0) := by
  unfold SlotRecord.timedOut
  by_cases h : issue = .ship
  · rw [if_pos h, h]
    simp only [SlotRecord.shipBad, SlotRecord.timedOutBy, raisedBy_succ]
    rfl
  · rw [if_neg h, beq_false_of_ne h, bne, beq_false_of_ne h]
    simp only [SlotRecord.count, SlotRecord.timedOutBy, raisedBy_succ]
    rfl

/-! ## The entries of one slot -/

/-- The number of reached entries of a list that meet a test. -/
def State.numberReached (s : State) (i : SlotId) (test : TagEntry → Bool) (E : List EntryId) : Nat :=
  E.countP (fun e => ((s.lane i).entry e).any (fun x => s.reaches i x && test x))

/-- The TIMEOUT event of an entry, where it is reached. -/
def State.timeoutOf (s : State) (i : SlotId) (e : EntryId) : Option CaptureEvent :=
  (((s.lane i).entry e).filter (s.reaches i)).map (fun x => x.timeoutEvent i e s.timebase)

/-- The TIMEOUT events of the reached entries of a list, in a phase that counts (R26, R37). -/
def State.timeoutsOf (s : State) (i : SlotId) (E : List EntryId) : List CaptureEvent :=
  if (s.slot i).phase.counts then E.filterMap (s.timeoutOf i) else []

/-- The entries of a list of one slot after their timeouts: LATE where reached, counted and captured in a phase that counts, and nothing
else (R26, R37). -/
structure State.SlotExpired (s t : State) (i : SlotId) (E : List EntryId) : Prop where
  entry : ∀ e, (t.lane i).entry e = if e ∈ E then ((s.lane i).entry e).map (s.expired i) else (s.lane i).entry e
  lane : t.lane i = { s.lane i with tags := (t.lane i).tags }
  record : t.slot i = if (s.slot i).phase.counts then (s.slot i).timedOutBy
    (s.numberReached i (·.issuePhase != .ship) E) (s.numberReached i (·.issuePhase == .ship) E) else s.slot i
  captured : (t.capture, t.alerts) = (s.timeoutsOf i E).foldl delivered (s.capture, s.alerts)
  others : ∀ j, j ≠ i → t.slot j = s.slot j ∧ t.lane j = s.lane j
  apart : t = { s with lanes := t.lanes, slots := t.slots, capture := t.capture, alerts := t.alerts }

theorem State.SlotExpired.nil (s : State) (i : SlotId) : s.SlotExpired s i [] where
  entry := fun e => (if_neg (List.not_mem_nil)).symm
  lane := rfl
  record := by split <;> rfl
  captured := by unfold State.timeoutsOf; split <;> rfl
  others := fun _ _ => ⟨rfl, rfl⟩
  apart := rfl

/-- What the timeout of an entry leaves (R26, R37). -/
theorem State.expireEntry_leaves {t : State} {i : SlotId} {e : EntryId} {x : TagEntry} (h : (t.lane i).entry e = some x) :
    (t.expireEntry i e).lane i = (t.lane i).setEntry e (some x.lated) ∧
      (t.expireEntry i e).slot i = (if (t.slot i).phase.counts then (t.slot i).timedOut x.issuePhase else t.slot i) ∧
      ((t.expireEntry i e).capture, (t.expireEntry i e).alerts) =
        (if (t.slot i).phase.counts then [x.timeoutEvent i e t.timebase] else []).foldl delivered (t.capture, t.alerts) ∧
      (∀ j, j ≠ i → (t.expireEntry i e).slot j = t.slot j ∧ (t.expireEntry i e).lane j = t.lane j) ∧
      t.expireEntry i e = { t with
        lanes := (t.expireEntry i e).lanes, slots := (t.expireEntry i e).slots
        capture := (t.expireEntry i e).capture, alerts := (t.expireEntry i e).alerts } := by
  rw [State.expireEntry_eq h]
  split
  · exact ⟨t.lane_withLink i ((t.slot i).timedOut x.issuePhase) ((t.lane i).setEntry e (some x.lated)),
      t.slot_withLink i ((t.slot i).timedOut x.issuePhase) ((t.lane i).setEntry e (some x.lated)), rfl,
      t.withLink_others i ((t.slot i).timedOut x.issuePhase) ((t.lane i).setEntry e (some x.lated)), rfl⟩
  · exact ⟨t.lane_modLane_self i _, rfl, rfl, fun j hj => ⟨rfl, t.lane_modLane_ne hj.symm _⟩, rfl⟩

/-- The timeout of one more entry, where it is due. -/
def State.expireWhereDue (i : SlotId) (s : State) (e : EntryId) : State := if s.timeoutDue i e then s.expireEntry i e else s

theorem State.SlotExpired.reaches {s t : State} {i : SlotId} {E : List EntryId} (h : s.SlotExpired t i E) : t.reaches i = s.reaches i := by
  rw [h.apart]; rfl

theorem State.numberReached_concat (s : State) (i : SlotId) (test : TagEntry → Bool) (E : List EntryId) (e : EntryId) :
    s.numberReached i test (E ++ [e]) = s.numberReached i test E +
      if ((s.lane i).entry e).any (fun x => s.reaches i x && test x) then 1 else 0 := by
  rw [State.numberReached, List.countP_append, List.countP_singleton]
  rfl

theorem State.timeoutsOf_concat (s : State) (i : SlotId) (E : List EntryId) (e : EntryId) :
    s.timeoutsOf i (E ++ [e]) = s.timeoutsOf i E ++ if (s.slot i).phase.counts then (s.timeoutOf i e).toList else [] := by
  unfold State.timeoutsOf
  split
  · rw [List.filterMap_append]
    cases h : s.timeoutOf i e <;> simp [h]
  · rfl

/-- An entry that is not due stays as it was. -/
theorem State.SlotExpired.skip {s t : State} {i : SlotId} {E : List EntryId} {e : EntryId} (h : s.SlotExpired t i E)
    (hnot : ((s.lane i).entry e).any (s.reaches i) = false) : s.SlotExpired t i (E ++ [e]) := by
  have hnumber (test : TagEntry → Bool) : s.numberReached i test (E ++ [e]) = s.numberReached i test E := by
    rw [State.numberReached_concat, if_neg, Nat.add_zero]
    cases hx : (s.lane i).entry e <;> simp_all
  have hevents : s.timeoutsOf i (E ++ [e]) = s.timeoutsOf i E := by
    have hnone : s.timeoutOf i e = none := by
      unfold State.timeoutOf
      cases hx : (s.lane i).entry e <;> simp_all
    rw [State.timeoutsOf_concat, hnone]
    simp
  have hsame : ((s.lane i).entry e).map (s.expired i) = (s.lane i).entry e := by
    cases hx : (s.lane i).entry e <;> simp_all [State.expired]
  refine ⟨fun d => ?_, h.lane, by rw [hnumber, hnumber]; exact h.record, by rw [hevents]; exact h.captured, h.others, h.apart⟩
  rw [h.entry d]
  by_cases hd : d = e
  · subst hd
    rw [hsame, ite_self, ite_self]
  · simp [hd]

/-- An entry that is due becomes LATE with its count and its event. -/
theorem State.SlotExpired.expire {s t : State} {i : SlotId} {E : List EntryId} {e : EntryId} {x : TagEntry} (h : s.SlotExpired t i E)
    (hnew : e ∉ E) (hx : (s.lane i).entry e = some x) (hdue : s.reaches i x = true) :
    s.SlotExpired (t.expireEntry i e) i (E ++ [e]) := by
  have hentry : (t.lane i).entry e = some x := by rw [h.entry, if_neg hnew, hx]
  have hcounts : (t.slot i).phase.counts = (s.slot i).phase.counts := by rw [h.record]; split <;> rfl
  have htime : t.timebase = s.timebase := by rw [h.apart]
  obtain ⟨hlane, hslot, hcaptured, hothers, hapart⟩ := State.expireEntry_leaves hentry
  rw [hcounts] at hslot hcaptured
  have hlate : s.expired i x = x.lated := if_pos hdue
  have hnumber (test : TagEntry → Bool) :
      s.numberReached i test (E ++ [e]) = s.numberReached i test E + if test x then 1 else 0 := by
    rw [State.numberReached_concat, hx, Option.any_some, hdue, Bool.true_and]
  have hevent : s.timeoutOf i e = some (x.timeoutEvent i e s.timebase) := by
    rw [State.timeoutOf, hx, Option.filter_some, if_pos hdue]; rfl
  refine ⟨fun d => ?_, ?_, ?_, ?_, fun j hj => ?_, ?_⟩
  · rw [hlane, Lane.entry_setEntry]
    by_cases hd : e = d
    · subst hd
      rw [if_pos rfl, if_pos (by simp), hx, Option.map_some, hlate]
    · rw [if_neg hd, h.entry]
      simp [Ne.symm hd]
  · rw [hlane, Lane.setEntry, h.lane]
  · rw [hslot, h.record]
    split
    · rw [hnumber, hnumber, SlotRecord.timedOut_timedOutBy]
    · rfl
  · rw [hcaptured, h.captured, htime, State.timeoutsOf_concat, hevent, List.foldl_append]
    rfl
  · exact ⟨(hothers j hj).1.trans (h.others j hj).1, (hothers j hj).2.trans (h.others j hj).2⟩
  · rw [hapart, h.apart]

theorem State.expireEntries (i : SlotId) (s : State) (E : List EntryId) :
    E.Nodup → s.SlotExpired (E.foldl (State.expireWhereDue i) s) i E := by
  induction E using List.reverseRecOn with
  | nil => exact fun _ => .nil s i
  | append_singleton E e ih =>
    intro hE
    have hparts := List.nodup_append.mp hE
    have hnew : e ∉ E := fun hmem => hparts.2.2 e hmem e (List.mem_singleton_self e) rfl
    have h := ih hparts.1
    rw [List.foldl_append, List.foldl_cons, List.foldl_nil]
    generalize E.foldl (State.expireWhereDue i) s = t at h ⊢
    unfold State.expireWhereDue
    rw [State.timeoutDue_eq, h.reaches, h.entry, if_neg hnew]
    cases hx : (s.lane i).entry e with
    | none => exact h.skip (by rw [hx]; rfl)
    | some x =>
      cases hdue : s.reaches i x with
      | false =>
        rw [if_neg (by rw [Option.any_some, hdue]; exact nofun)]
        exact h.skip (by rw [hx]; exact hdue)
      | true =>
        rw [if_pos (by rw [Option.any_some, hdue])]
        exact h.expire hnew hx hdue

/-! ## The entries of all slots -/

/-- A slot's record and lane after its timeouts (R26, R37). -/
structure State.LinkExpired (s t : State) (i : SlotId) : Prop where
  entry : ∀ e, (t.lane i).entry e = ((s.lane i).entry e).map (s.expired i)
  lane : t.lane i = { s.lane i with tags := (t.lane i).tags }
  record : t.slot i = if (s.slot i).phase.counts then (s.slot i).timedOutBy
    (s.numberReached i (·.issuePhase != .ship) allEntries) (s.numberReached i (·.issuePhase == .ship) allEntries) else s.slot i

/-- The entries of a list of slots after their timeouts, in slot and entry order (R37). -/
structure State.SlotsExpired (s t : State) (S : List SlotId) : Prop where
  links : ∀ i ∈ S, s.LinkExpired t i
  others : ∀ i, i ∉ S → t.slot i = s.slot i ∧ t.lane i = s.lane i
  captured : (t.capture, t.alerts) = (S.flatMap (fun i => s.timeoutsOf i allEntries)).foldl delivered (s.capture, s.alerts)
  apart : t = { s with lanes := t.lanes, slots := t.slots, capture := t.capture, alerts := t.alerts }

theorem mem_allEntries (e : EntryId) : e ∈ allEntries := by revert e; decide

theorem State.LinkExpired.congr {s t u : State} {i : SlotId} (h : s.LinkExpired t i) (hslot : u.slot i = t.slot i)
    (hlane : u.lane i = t.lane i) : s.LinkExpired u i :=
  ⟨fun e => by rw [hlane]; exact h.entry e, by rw [hlane]; exact h.lane, by rw [hslot]; exact h.record⟩

/-- The timeouts of a slot, seen from a state with the same link. -/
theorem State.SlotExpired.link {s u t : State} {i : SlotId} (h : u.SlotExpired t i allEntries) (hslot : u.slot i = s.slot i)
    (hlane : u.lane i = s.lane i) (hreaches : u.reaches i = s.reaches i) : s.LinkExpired t i := by
  have hexpired : u.expired i = s.expired i := by unfold State.expired; rw [hreaches]
  have hnumber (test : TagEntry → Bool) : u.numberReached i test allEntries = s.numberReached i test allEntries := by
    unfold State.numberReached; rw [hlane, hreaches]
  refine ⟨fun e => ?_, ?_, ?_⟩
  · rw [h.entry, if_pos (mem_allEntries e), hlane, hexpired]
  · rw [h.lane, hlane]
  · rw [h.record, hslot, hnumber, hnumber]

theorem State.timeoutsOf_congr {s u : State} {i : SlotId} (hslot : u.slot i = s.slot i) (hlane : u.lane i = s.lane i)
    (hreaches : u.reaches i = s.reaches i) (htime : u.timebase = s.timebase) (E : List EntryId) :
    u.timeoutsOf i E = s.timeoutsOf i E := by
  have hof : u.timeoutOf i = s.timeoutOf i := by
    funext e
    unfold State.timeoutOf
    rw [hlane, hreaches, htime]
  unfold State.timeoutsOf
  rw [hslot, hof]

theorem State.expireSlots (s : State) (S : List SlotId) : S.Nodup → s.SlotsExpired (S.foldl State.expireSlot s) S := by
  induction S using List.reverseRecOn with
  | nil => exact fun _ => ⟨nofun, fun _ _ => ⟨rfl, rfl⟩, rfl, rfl⟩
  | append_singleton S i ih =>
    intro hS
    have hparts := List.nodup_append.mp hS
    have hnew : i ∉ S := fun hmem => hparts.2.2 i hmem i (List.mem_singleton_self i) rfl
    have h := ih hparts.1
    rw [List.foldl_append, List.foldl_cons, List.foldl_nil]
    generalize S.foldl State.expireSlot s = u at h ⊢
    obtain ⟨hlinks, houtside, hcaptured, hapart⟩ := h
    obtain ⟨hslot, hlane⟩ := houtside i hnew
    have hreaches : u.reaches i = s.reaches i := by rw [hapart]; rfl
    have htime : u.timebase = s.timebase := by rw [hapart]
    have hone : u.SlotExpired (u.expireSlot i) i allEntries := State.expireEntries i u allEntries (by decide)
    refine ⟨fun j hj => ?_, fun j hj => ?_, ?_, ?_⟩
    · by_cases hji : j = i
      · rw [hji]; exact hone.link hslot hlane hreaches
      · have hmem : j ∈ S := by simpa [hji] using hj
        exact (hlinks j hmem).congr (hone.others j hji).1 (hone.others j hji).2
    · obtain ⟨hout, hji⟩ : j ∉ S ∧ j ≠ i := by simpa using hj
      exact ⟨(hone.others j hji).1.trans (houtside j hout).1, (hone.others j hji).2.trans (houtside j hout).2⟩
    · rw [hone.captured, hcaptured, State.timeoutsOf_congr hslot hlane hreaches htime, List.flatMap_append, List.foldl_append,
        List.flatMap_singleton]
    · rw [hone.apart, hapart]

/-! ## PROFILE_SET of the items that act at once (R168) -/

/-- A PROFILE_SET of a numeric item: stored with its clamp, what it causes at once, and the answer (R168). -/
theorem execProfileSet_item {s : State} (hs : s.ready) {code v : Nat} {p : Profile} (hcode : code < 65536) (hv : v < 4294967296)
    (h : s.setProfile code v =
      .ok (State.itemTakesEffect { s with profile := p } code s.profile.commandTimeout) (le 4 (p.number code))) :
    exec (.profileSet (le 2 code ++ le 4 v)) s =
      .next ((State.itemTakesEffect { s with profile := p } code s.profile.commandTimeout).answer .ok (le 4 (p.number code))) := by
  have hcodeBytes : fromLe (le 2 code) = code := by rw [fromLe_le]; omega
  have hvalueBytes : fromLe (le 4 v) = v := by rw [fromLe_le]; omega
  have hset : s.setProfile (fromLe (le 2 code)) (fromLe (le 4 v)) =
      .ok (State.itemTakesEffect { s with profile := p } code s.profile.commandTimeout) (le 4 (p.number code)) := by
    rw [hcodeBytes, hvalueBytes, h]
  exact congrArg Host.Outcome.next (State.command_ok hs hset)

theorem Phase.counts_name (p : Phase) : p.counts = true ↔ ¬(p.name = .empty ∨ p.name = .idle) := by
  cases p <;> simp [Phase.counts, Phase.name]

theorem PhaseName.isTimed_eq (p : PhaseName) : p.isTimed = (p == .burn || p == .scan || p == .ship) := by
  cases p <;> rfl

theorem State.staleDue_iff {s : State} (h : s.inReset = false) : s.staleDue = true ↔
    ∃ began, s.chamber.staleTimer = some began ∧ s.profile.staleTimeout * 1000000 ≤ s.elapsed began := by
  unfold State.staleDue
  cases s.chamber.staleTimer <;> simp [h]

theorem State.offerDue_iff {s : State} (h : s.inReset = false) : s.offerDue = true ↔
    ∃ began, s.sort.handshake = .offer began ∧ s.profile.offerTimeout * 1000000 ≤ s.elapsed began := by
  unfold State.offerDue
  cases s.sort.handshake <;> simp [h]

/-- A state with another command timeout in its profile. -/
def State.withTimeout (s : State) (timeout : Nat) : State := { s with profile := { s.profile with commandTimeout := timeout } }

/-- Settles O11: the timeouts slot by slot and entry by entry, the other items by their effect. -/
theorem profileSetActsAtOnce : Obligations.ProfileSetActsAtOnce := by
  intro s v hs hv timeout reached number raised counts event events
  refine ⟨fun hlowered => ?_, fun hkept => ?_, ?_, ?_, ?_⟩
  · have hrun : exec (.profileSet (le 2 0x0003 ++ le 4 v)) s =
        .next (((s.withTimeout timeout).timeoutsLowered s.profile.commandTimeout).answer .ok (le 4 timeout)) :=
      execProfileSet_item hs (p := (s.withTimeout timeout).profile) (by decide) hv rfl
    rw [State.timeoutsLowered, if_pos (show (s.withTimeout timeout).profile.commandTimeout < _ from hlowered)] at hrun
    obtain ⟨hlinks, -, hcaptured, hapart⟩ := (s.withTimeout timeout).expireSlots allSlots (by decide)
    have hreached (i : SlotId) (x : TagEntry) : (s.withTimeout timeout).reaches i x = reached i x := by
      unfold State.reaches reached
      rw [PhaseName.isTimed_eq]
      rfl
    have hfun (i : SlotId) := funext (hreached i)
    have hevents : allSlots.flatMap (fun i => (s.withTimeout timeout).timeoutsOf i allEntries) = events := by
      refine List.flatMap_congr fun i _ => ?_
      unfold State.timeoutsOf State.timeoutOf
      rw [hfun]
      by_cases hc : ((s.withTimeout timeout).slot i).phase.counts = true
      · exact (if_pos hc).trans (if_neg (show ¬((s.slot i).phase.name = _ ∨ _) from (Phase.counts_name _).mp hc)).symm
      · exact (if_neg hc).trans
          (if_pos (show (s.slot i).phase.name = _ ∨ _ from not_not.mp (mt (Phase.counts_name _).mpr hc))).symm
    rw [hevents] at hcaptured
    unfold State.forSlots at hrun
    generalize allSlots.foldl State.expireSlot _ = t at hrun hlinks hcaptured hapart
    have hreaches (i : SlotId) : t.reaches i = reached i := by rw [hapart, ← hfun]; rfl
    have hexpired (i : SlotId) : (s.withTimeout timeout).expired i =
        fun x => if reached i x then { x with late := true } else x := by
      funext x
      unfold State.expired
      rw [hreached]
      rfl
    have hentry (i : SlotId) (e : EntryId) : (t.lane i).entry e =
        ((s.lane i).entry e).map (fun x => if reached i x then { x with late := true } else x) := by
      rw [(hlinks i (mem_allSlots i)).entry e, hexpired]
      rfl
    refine ⟨_, hrun, rfl, fun i e => ⟨?_, hentry i e⟩, fun i => (hlinks i (mem_allSlots i)).lane, fun i hc => ?_, fun i hc => ?_,
      hcaptured, ?_⟩
    · show t.timeoutDue i e = false
      rw [State.timeoutDue_eq, hentry, hreaches]
      cases (s.lane i).entry e with
      | none => rfl
      | some x =>
        rw [Option.map_some, Option.any_some]
        split
        · simp [reached]
        · rename_i hnot; exact Bool.eq_false_iff.mpr hnot
    · have hrecord := (hlinks i (mem_allSlots i)).record
      rw [if_pos (show ((s.withTimeout timeout).slot i).phase.counts = true from (Phase.counts_iff _).mpr hc)] at hrecord
      unfold State.numberReached at hrecord
      rw [hfun] at hrecord
      exact hrecord
    · have hrecord := (hlinks i (mem_allSlots i)).record
      rw [if_neg (show ¬((s.withTimeout timeout).slot i).phase.counts = true from mt (Phase.counts_iff _).mp hc)] at hrecord
      exact hrecord
    · rw [hapart]; rfl
  · have hrun : exec (.profileSet (le 2 0x0003 ++ le 4 v)) s =
        .next (((s.withTimeout timeout).timeoutsLowered s.profile.commandTimeout).answer .ok (le 4 timeout)) :=
      execProfileSet_item hs (p := (s.withTimeout timeout).profile) (by decide) hv rfl
    rwa [State.timeoutsLowered,
      if_neg (show ¬(s.withTimeout timeout).profile.commandTimeout < _ from Nat.not_lt_of_le hkept)] at hrun
  · have hrun := execProfileSet_item hs (code := 0x0009) (p := { s.profile with divisor := clampTo 0 4095 v }) (by decide) hv rfl
    refine ⟨_, hrun, rfl, ?_⟩
    have hdivisor : clampTo 0 4095 v = min v 4095 := Nat.zero_max _
    rw [hdivisor]
    show ({ s with
      profile := { s.profile with divisor := min v 4095 }, reply := _
      chamber := { s.chamber with frame := none, receiver := s.chamber.receiver.discarded } } : State) = _
    cases s.chamber.receiver <;> rfl
  · have hrun := execProfileSet_item hs (code := 0x000A) (p := { s.profile with staleTimeout := clampTo 1 60 v }) (by decide) hv rfl
    have hdue := State.staleDue_iff (s := { s with profile := { s.profile with staleTimeout := clampTo 1 60 v } }) hs.1
    by_cases hstale : State.staleDue { s with profile := { s.profile with staleTimeout := clampTo 1 60 v } } = true
    · rw [show State.itemTakesEffect { s with profile := { s.profile with staleTimeout := clampTo 1 60 v } } 0x000A
        s.profile.commandTimeout = _ from if_pos hstale] at hrun
      obtain ⟨began, hbegan, hage⟩ := hdue.mp hstale
      exact ⟨_, hrun, rfl, rfl, fun _ => rfl, fun hyoung => absurd hage (Nat.not_le_of_lt (hyoung began hbegan))⟩
    · rw [show State.itemTakesEffect { s with profile := { s.profile with staleTimeout := clampTo 1 60 v } } 0x000A
        s.profile.commandTimeout = _ from if_neg hstale] at hrun
      exact ⟨_, hrun, rfl, rfl, fun hreached => absurd (hdue.mpr hreached) hstale, fun _ => rfl⟩
  · have hrun := execProfileSet_item hs (code := 0x000D) (p := { s.profile with offerTimeout := clampTo 1 255 v }) (by decide) hv rfl
    have hdue := State.offerDue_iff (s := { s with profile := { s.profile with offerTimeout := clampTo 1 255 v } }) hs.1
    by_cases hoffer : State.offerDue { s with profile := { s.profile with offerTimeout := clampTo 1 255 v } } = true
    · rw [show State.itemTakesEffect { s with profile := { s.profile with offerTimeout := clampTo 1 255 v } } 0x000D
        s.profile.commandTimeout = _ from if_pos hoffer] at hrun
      obtain ⟨began, hbegan, hage⟩ := hdue.mp hoffer
      exact ⟨_, hrun, rfl, rfl, fun _ => rfl, fun hyoung => absurd hage (Nat.not_le_of_lt (hyoung began hbegan))⟩
    · rw [show State.itemTakesEffect { s with profile := { s.profile with offerTimeout := clampTo 1 255 v } } 0x000D
        s.profile.commandTimeout = _ from if_neg hoffer] at hrun
      exact ⟨_, hrun, rfl, rfl, fun hreached => absurd (hdue.mpr hreached) hoffer, fun _ => rfl⟩

end Sys2Proof.Machine
end

section
/-!
The settings of the part: the profile, the pattern table and the H1 in effect. Every operation but a reset, a load, PROFILE_SET and
TABLE_WRITE leaves them, and a completed chamber frame brings the profile's H1 into effect (R112).
-/
namespace Sys2Proof.Machine

/-! ## The shared operations -/

/-- The profile, the pattern table and the H1 in effect. -/
def State.settings (s : State) : Profile × List Host.Cell × Nat := (s.profile, s.patternTable, s.chamber.h1InEffect)

@[simp] theorem State.modSlot_settings (s : State) (i : SlotId) (f : SlotRecord → SlotRecord) :
    (s.modSlot i f).settings = s.settings := rfl
@[simp] theorem State.modLane_settings (s : State) (i : SlotId) (f : Lane → Lane) : (s.modLane i f).settings = s.settings := rfl
@[simp] theorem State.setPhase_settings (s : State) (i : SlotId) (p : Phase) : (s.setPhase i p).settings = s.settings := rfl
@[simp] theorem State.setPresence_settings (s : State) (i : SlotId) (p : Presence) :
    (s.setPresence i p).settings = s.settings := rfl
@[simp] theorem State.answer_settings (s : State) (st : Status) (payload : List Byte) :
    (s.answer st payload).settings = s.settings := rfl
@[simp] theorem State.raise_settings (s : State) (a : AlertFlag) : (s.raise a).settings = s.settings := rfl
@[simp] theorem State.putSort_settings (s : State) (p : SortPort) : (s.putSort p).settings = s.settings := rfl
@[simp] theorem State.postNotice_settings (s : State) (i : SlotId) : (s.postNotice i).settings = s.settings := rfl
@[simp] theorem State.stallOffer_settings (s : State) : s.stallOffer.settings = s.settings := rfl
@[simp] theorem State.expireStale_settings (s : State) : s.expireStale.settings = s.settings := rfl
@[simp] theorem State.restartReceiver_settings (s : State) : s.restartReceiver.settings = s.settings := rfl

@[simp] theorem State.putCapture_settings (s : State) (u : CaptureUnit × Option AlertFlag) :
    (s.putCapture u).settings = s.settings := by simp [State.settings]

@[simp] theorem State.report_settings (s : State) (i : SlotId) (f : SlotRecord → SlotRecord) :
    (s.report i f).settings = s.settings := by
  obtain ⟨-, h⟩ | ⟨-, h⟩ := s.report_cases i f <;> simp [h]

@[simp] theorem State.capturing_settings (s : State) (e : CaptureEvent) : (s.capturing e).settings = s.settings := by
  obtain ⟨-, h⟩ | ⟨-, h⟩ := s.capturing_cases e <;> simp [h]

@[simp] theorem State.insertDefect_settings (s : State) (i : SlotId) (lba : Nat) (c : Cause) (pass : Nat) :
    (s.insertDefect i lba c pass).settings = s.settings := by
  obtain ⟨-, d, free, -, h⟩ | ⟨-, h⟩ := s.insertDefect_cases i lba c pass <;> rw [h]
  rfl

@[simp] theorem State.modEntry_settings (s : State) (i : SlotId) (e : EntryId) (f : TagEntry → TagEntry) :
    (s.modEntry i e f).settings = s.settings := by
  obtain ⟨-, h⟩ | ⟨t, -, h⟩ := s.modEntry_cases i e f <;> simp [h]

@[simp] theorem State.markUntracked_settings (s : State) (i : SlotId) (e : EntryId) :
    (s.markUntracked i e).settings = s.settings := by
  obtain h | ⟨t, -, -, h⟩ := s.markUntracked_cases i e <;> simp [h]

@[simp] theorem State.noteOverrun_settings (s : State) (i : SlotId) (e : EntryId) (t : TagEntry) :
    (s.noteOverrun i e t).settings = s.settings := by
  obtain ⟨-, h⟩ | ⟨-, h⟩ := s.noteOverrun_cases i e t <;> simp [h]

@[simp] theorem State.expireEntry_settings (s : State) (i : SlotId) (e : EntryId) : (s.expireEntry i e).settings = s.settings := by
  obtain h | ⟨t, f, d, -, h⟩ := s.expireEntry_cases i e <;> simp [h]

/-- What every operation of a fold leaves, the fold leaves. -/
theorem State.foldl_settings {α : Type} {f : State → α → State} (h : ∀ u x, (f u x).settings = u.settings) (l : List α) (s : State) :
    (l.foldl f s).settings = s.settings :=
  List.foldlRecOn l f (motive := fun u => u.settings = s.settings) rfl fun u hu x _ => (h u x).trans hu

theorem State.forSlots_settings {f : State → SlotId → State} (h : ∀ u i, (f u i).settings = u.settings) (s : State) :
    (s.forSlots f).settings = s.settings := State.foldl_settings h allSlots s

@[simp] theorem State.expireSlot_settings (s : State) (i : SlotId) : (s.expireSlot i).settings = s.settings :=
  State.foldl_settings (fun u e => by split <;> simp) allEntries s

@[simp] theorem State.orphan_settings (s : State) (i : SlotId) : (s.orphan i).settings = s.settings := by rw [s.orphan_eq]; rfl
@[simp] theorem State.slotClear_settings (s : State) (i : SlotId) : (s.slotClear i).settings = s.settings := by
  rw [s.slotClear_eq]; rfl
@[simp] theorem State.depart_settings (s : State) (i : SlotId) : (s.depart i).settings = s.settings := by rw [s.depart_eq]; rfl

@[simp] theorem State.removed_settings (s : State) (i : SlotId) : (s.removed i).settings = s.settings := by
  unfold State.removed
  split
  case h_3 => split <;> simp
  all_goals simp [State.removedIdle]

/-! ## The events of a drive link -/

@[simp] theorem State.finishSector_settings (s : State) (i : SlotId) (e : EntryId) (t : TagEntry) (x : SectorInProgress) :
    (s.finishSector i e t x).settings = s.settings := by
  unfold State.finishSector
  split
  · rfl
  · split
    · unfold State.countSubstituted
      split <;> simp
    · have hentry (c : CheckResult) : (if c = .isMatch then s
          else s.modEntry i e (fun u => { u with errorSectors := inc16 u.errorSectors })).settings = s.settings := by split <;> simp
      have htest (u : State) (lba pass : Nat) (c : CheckResult) : (u.testResult i e lba pass c).settings = u.settings := by
        cases c <;> simp [State.testResult]
      unfold State.applyResult
      dsimp only
      split <;> simp [htest, hentry]

@[simp] theorem State.passOne_settings (s : State) (i : SlotId) (good : Bool) (b : Byte) :
    (s.passOne i good b).1.settings = s.settings := by
  obtain h | ⟨p, t, -, -, h⟩ := s.passOne_cases i good b
  · rw [h]
  · obtain ⟨-, h⟩ | ⟨-, -, h⟩ | ⟨-, -, -, h⟩ | ⟨-, -, -, h⟩ | ⟨-, -, -, -, h⟩ := h <;> rw [h]
    · simp
    · rfl
    · unfold State.passByte
      dsimp only
      split
      · dsimp only
        split <;> simp
      · rfl
    · rfl
    · simp

@[simp] theorem State.passBytes_settings (s : State) (i : SlotId) (good : Bool) (bs : List Byte) :
    (s.passBytes i good bs).1.settings = s.settings :=
  State.passBytes_induct (P := fun u => u.settings = s.settings) i good (fun u b hu => (u.passOne_settings i good b).trans hu) bs s rfl

theorem execCommandFrame_settings {i : SlotId} {f : CommandFrame} {s t : State} (h : execCommandFrame i f s = .next t) :
    t.settings = s.settings := by
  have hcollide : (s.collide i (commandEntry f.kind)).settings = s.settings := by unfold State.collide; split <;> simp
  unfold execCommandFrame at h
  split at h <;> cases h
  · rfl
  · split <;> simp [State.withhold, State.openEntry, hcollide]

theorem execDataSetupNotice_settings {i : SlotId} {n : SetupNotice} {s t : State} (h : execDataSetupNotice i n s = .next t) :
    t.settings = s.settings := by
  unfold execDataSetupNotice at h
  dsimp only at h
  split at h
  · cases h; rfl
  · split at h
    · cases h; rfl
    · split at h <;> cases h <;> simp

theorem execDataFrame_settings {i : SlotId} {f : DataFrame} {s t : State} (h : execDataFrame i f s = .next t) :
    t.settings = s.settings := by
  unfold execDataFrame at h
  split at h
  · cases h; rfl
  · split at h
    · cases h; rfl
    · split at h
      · cases h; rfl
      · split at h <;> cases h <;> simp [State.wrongData]

@[simp] theorem State.closeSuccess_settings (s : State) (i : SlotId) (e : EntryId) : (s.closeSuccess i e).settings = s.settings := by
  have hsample (t : TagEntry) : (s.sampleEntry i t).settings = s.settings := by unfold State.sampleEntry; split <;> simp
  have hcompare (u : State) (sn : Snoop) : (u.compareIdentity i sn).settings = u.settings := by
    unfold State.compareIdentity; dsimp only; split <;> simp
  have hoffer (u : State) (t : TagEntry) : (u.offerSnoop i t).settings = u.settings := by
    unfold State.offerSnoop
    split
    · split
      case h_1 => rfl
      case h_2 => split <;> simp
      all_goals exact hcompare u _
    · rfl
  unfold State.closeSuccess
  split
  · rfl
  · split <;> simp [hoffer, hsample]

theorem execSuccessStatus_settings {i : SlotId} {st : Success} {s t : State} (h : execSuccessStatus i st s = .next t) :
    t.settings = s.settings := by
  unfold execSuccessStatus at h
  dsimp only at h
  split at h
  · cases h; rfl
  · cases st with
    | nonQueued => cases h; simp
    | queued tags => cases h; exact State.foldl_settings (fun u x => by split <;> simp) allTags _

theorem execErrorStatus_settings {i : SlotId} {r : ErrorReport} {s t : State} (h : execErrorStatus i r s = .next t) :
    t.settings = s.settings := by
  have hmedia (u : State) (e : EntryId) (x : TagEntry) (lba : Option (BitVec 48)) : (u.mediaError i e x lba).settings = u.settings := by
    unfold State.mediaError
    split
    case h_1 | h_2 => cases lba <;> simp
    all_goals simp
  have hclose (u : State) : (u.closeError i r).settings = u.settings := by
    unfold State.closeError
    dsimp only
    split
    · rfl
    · split <;> simp [hmedia]
  unfold execErrorStatus at h
  dsimp only at h
  split at h
  · cases h; rfl
  · split at h <;> rw [← Host.Outcome.next.inj h]
    · exact hclose _
    · refine (State.foldl_settings (fun u x => ?_) allTags _).trans (hclose _)
      unfold State.abortSibling
      split <;> simp

theorem execCommandTimeout_settings {i : SlotId} {e : EntryId} {s t : State} (h : execCommandTimeout i e s = .next t) :
    t.settings = s.settings := by
  cases h
  split <;> simp

theorem execDriveLinkReset_settings {i : SlotId} {s t : State} (h : execDriveLinkReset i s = .next t) : t.settings = s.settings := by
  unfold execDriveLinkReset at h
  split at h <;> cases h <;> simp

/-! ## Management commands -/

/-- A management command changes the settings at most by its effects. -/
theorem State.command_settings {s : State} {rule : State → Answer} (h : ∀ t p, rule s = .ok t p → t.settings = s.settings) :
    (s.command rule).settings = s.settings := by
  obtain ⟨-, hc⟩ | ⟨-, -, hc⟩ | ⟨-, -, t, p, hr, hc⟩ | ⟨-, -, st, -, hc⟩ := s.command_cases rule <;> rw [hc]
  · rfl
  · exact h t p hr
  · rfl

theorem State.slotCommand_settings {s : State} {args : List Byte} {rule : State → SlotId → Answer}
    (h : ∀ i t p, rule s i = .ok t p → t.settings = s.settings) :
    (s.command fun s => slotCommand args (rule s)).settings = s.settings :=
  State.command_settings fun t p hr => by
    obtain ⟨i, -, hi⟩ := slotCommand_ok hr
    exact h i t p hi

theorem State.plainCommand_settings {s : State} {args : List Byte} {answer : State → Answer}
    (h : ∀ t p, answer s = .ok t p → t.settings = s.settings) :
    (s.command fun s => plainCommand args (answer s)).settings = s.settings :=
  State.command_settings fun t p hr => h t p (plainCommand_ok hr).2

theorem State.phaseChange_settings (s : State) (args : List Byte) (f : Phase → Option Phase) :
    (s.command fun s => slotCommand args fun i => s.phaseChange i (f (s.slot i).phase)).settings = s.settings :=
  State.slotCommand_settings fun i t p h => by
    unfold State.phaseChange at h
    split at h <;> cases h
    rfl

theorem State.slotQuery_settings (s : State) (args : List Byte) (payload : State → SlotId → List Byte) :
    (s.command fun s => slotCommand args fun i => .ok s (payload s i)).settings = s.settings :=
  State.slotCommand_settings fun i t p h => by cases h; rfl

theorem execStart_settings {args : List Byte} {s t : State} (h : execStart args s = .next t) : t.settings = s.settings := by
  cases h
  refine State.command_settings fun t p h => ?_
  split at h
  · split at h
    · unfold State.startRun at h
      dsimp only at h
      split at h
      · split at h <;> cases h
        rfl
      · cases h
    · cases h
  · cases h

theorem execAdvancePass_settings {args : List Byte} {s t : State} (h : execAdvancePass args s = .next t) :
    t.settings = s.settings := by
  cases h
  refine State.slotCommand_settings fun i t p h => ?_
  split at h
  · split at h <;> cases h
    rfl
  · cases h

theorem execGrade_settings {args : List Byte} {s t : State} (h : execGrade args s = .next t) : t.settings = s.settings := by
  cases h
  refine State.slotCommand_settings fun i t p h => ?_
  split at h
  · split at h <;> cases h
    rfl
  · cases h

theorem execShip_settings {args : List Byte} {s t : State} (h : execShip args s = .next t) : t.settings = s.settings := by
  cases h
  refine State.slotCommand_settings fun i t p h => ?_
  split at h
  · split at h
    · cases h
    · split at h
      · cases h
      · split at h <;> cases h
        rfl
  · cases h

theorem execSeal_settings {args : List Byte} {s t : State} (h : execSeal args s = .next t) : t.settings = s.settings := by
  cases h
  refine State.slotCommand_settings fun i t p h => ?_
  split at h
  · split at h
    · cases h
    · split at h <;> cases h
      rfl
  · cases h

theorem execRelease_settings {args : List Byte} {s t : State} (h : execRelease args s = .next t) : t.settings = s.settings := by
  cases h
  refine State.slotCommand_settings fun i t p h => ?_
  split at h <;> cases h
  rfl

theorem execCaptureSet_settings {args : List Byte} {s t : State} (h : execCaptureSet args s = .next t) : t.settings = s.settings := by
  cases h
  refine State.command_settings fun t p h => ?_
  split at h
  · split at h
    · split at h <;> cases h
      simp
    · cases h
  · cases h

theorem execCaptureOpen_settings {args : List Byte} {s t : State} (h : execCaptureOpen args s = .next t) :
    t.settings = s.settings := by
  cases h
  refine State.command_settings fun t p h => ?_
  split at h
  · split at h <;> cases h
    simp
  · cases h

theorem execCaptureRead_settings {args : List Byte} {s t : State} (h : execCaptureRead args s = .next t) :
    t.settings = s.settings := by
  cases h
  refine State.plainCommand_settings fun t p h => ?_
  split at h <;> cases h
  rfl

theorem execCaptureClose_settings {args : List Byte} {s t : State} (h : execCaptureClose args s = .next t) :
    t.settings = s.settings := by
  cases h
  exact State.plainCommand_settings fun t p h => by cases h; simp

theorem execAlertAck_settings {args : List Byte} {s t : State} (h : execAlertAck args s = .next t) : t.settings = s.settings := by
  cases h
  refine State.command_settings fun t p h => ?_
  split at h <;> cases h
  rfl

theorem execAlertMask_settings {args : List Byte} {s t : State} (h : execAlertMask args s = .next t) : t.settings = s.settings := by
  cases h
  refine State.command_settings fun t p h => ?_
  split at h <;> cases h
  rfl

theorem execSortResume_settings {args : List Byte} {s t : State} (h : execSortResume args s = .next t) : t.settings = s.settings := by
  cases h
  refine State.plainCommand_settings fun t p h => ?_
  split at h <;> cases h
  rfl

theorem execWindowWrite_settings {args : List Byte} {s t : State} (h : execWindowWrite args s = .next t) :
    t.settings = s.settings := by
  cases h
  refine State.command_settings fun t p h => ?_
  split at h
  · split at h
    · cases h
    · split at h
      · split at h <;> cases h
        exact State.forSlots_settings (fun u i => by split <;> rfl) _
      · cases h
  · cases h

theorem execWindowRead_settings {args : List Byte} {s t : State} (h : execWindowRead args s = .next t) : t.settings = s.settings := by
  cases h
  refine State.command_settings fun t p h => ?_
  split at h
  · split at h <;> cases h
    rfl
  · cases h

theorem execStatus_settings {args : List Byte} {s t : State} (h : execStatus args s = .next t) : t.settings = s.settings := by
  cases h
  split
  · rfl
  · unfold plainCommand
    split <;> rfl

theorem execDefectRead_settings {args : List Byte} {s t : State} (h : execDefectRead args s = .next t) : t.settings = s.settings := by
  cases h
  refine State.command_settings fun t p h => ?_
  split at h
  · split at h
    · split at h <;> cases h
      rfl
    · cases h
  · cases h

theorem execProfileReload_settings {args : List Byte} {s t : State} (h : execProfileReload args s = .next t) :
    t.settings = s.settings := by
  cases h
  refine State.plainCommand_settings fun t p h => ?_
  split at h <;> cases h
  rfl

/-! ## Presence, the soak, grading and the sort port -/

theorem execRawPresenceChange_settings {i : SlotId} {level : Bool} {s t : State} (h : execRawPresenceChange i level s = .next t) :
    t.settings = s.settings := by
  cases h
  split
  · rfl
  · split <;> rfl

theorem execDebounceEnd_settings {i : SlotId} {s t : State} (h : execDebounceEnd i s = .next t) : t.settings = s.settings := by
  cases h
  split
  · unfold State.debounced
    dsimp only
    split <;> simp
  · rfl

theorem execSoakTick_settings {s t : State} (h : execSoakTick s = .next t) : t.settings = s.settings := by
  cases h
  split
  · have hslots : (s.forSlots State.soakSlot).settings = s.settings := State.forSlots_settings (fun u i => by
      unfold State.soakSlot
      split
      case h_2 => dsimp only; split <;> rfl
      all_goals rfl) s
    unfold State.soakAll
    generalize s.forSlots State.soakSlot = u at hslots
    exact hslots
  · rfl

theorem execGradeTake_settings {s t : State} (h : execGradeTake s = .next t) : t.settings = s.settings := by
  unfold execGradeTake at h
  split at h <;> cases h <;> rfl

theorem execGradeCompletion_settings {s t : State} (h : execGradeCompletion s = .next t) : t.settings = s.settings := by
  unfold execGradeCompletion at h
  split at h <;> cases h
  · rfl
  · unfold State.completeGrade
    dsimp only
    split <;> rfl

theorem execTakeAsserted_settings {s t : State} (h : execTakeAsserted s = .next t) : t.settings = s.settings := by
  unfold execTakeAsserted at h
  split at h <;> cases h <;> rfl

theorem execFaultAsserted_settings {s t : State} (h : execFaultAsserted s = .next t) : t.settings = s.settings := by
  cases h
  split <;> rfl

theorem execOfferTimerExpiry_settings {s t : State} (h : execOfferTimerExpiry s = .next t) : t.settings = s.settings := by
  cases h
  split <;> rfl

/-! ## The chamber line (R104 to R112) -/

/-- Profile and pattern table stay, and the H1 in effect stays or becomes the profile's (R112). -/
structure State.KeepsSettings (s t : State) : Prop where
  profile : t.profile = s.profile
  table : t.patternTable = s.patternTable
  h1 : t.chamber.h1InEffect = s.chamber.h1InEffect ∨ t.chamber.h1InEffect = s.profile.h1

theorem State.KeepsSettings.of_settings {s t : State} (h : t.settings = s.settings) : s.KeepsSettings t := by
  simp only [State.settings, Prod.mk.injEq] at h
  obtain ⟨hprofile, htable, hh1⟩ := h
  exact ⟨hprofile, htable, .inl hh1⟩

theorem State.KeepsSettings.refl (s : State) : s.KeepsSettings s := .of_settings rfl

theorem State.KeepsSettings.trans {s t u : State} (h : s.KeepsSettings t) (g : t.KeepsSettings u) : s.KeepsSettings u where
  profile := g.profile.trans h.profile
  table := g.table.trans h.table
  h1 := g.h1.elim (fun he => h.h1.imp he.trans he.trans) (fun he => .inr (he.trans (by rw [h.profile])))

/-- A complete frame brings the profile's H1 into effect (R112); its thermal checks leave the settings. -/
theorem State.frameComplete_keepsSettings (s : State) (f : FrameInProgress) (b : Byte) : s.KeepsSettings (s.frameComplete f b) := by
  have hcompleted : s.KeepsSettings (s.modChamber (·.completed f b s.timebase s.profile.h1)) := ⟨rfl, rfl, .inr rfl⟩
  refine hcompleted.trans (.of_settings (State.forSlots_settings (fun u i => ?_) _))
  unfold State.checkThermal State.applyHold
  split <;> rfl

theorem State.takeError_settings (s : State) : s.takeError.settings = s.settings := by
  unfold State.takeError
  split <;> rfl

theorem State.takeEvent_keepsSettings (s : State) (e : LineEvent) : s.KeepsSettings (s.takeEvent e) := by
  cases e with
  | byte b =>
    show s.KeepsSettings (s.takeByte b)
    unfold State.takeByte
    split
    · split <;> exact .of_settings rfl
    · split
      · exact .of_settings rfl
      · exact s.frameComplete_keepsSettings _ b
  | error => exact .of_settings s.takeError_settings
  | lineBreak => exact .of_settings rfl
  | markAfterBreak => exact .refl s

theorem execChamberByte_keepsSettings {levels : List Bool} {s t : State} (h : execChamberByte levels s = .next t) :
    s.KeepsSettings t := by
  cases h
  exact State.hearLine_induct (P := s.KeepsSettings) (fun _ _ hu => hu.trans (.of_settings rfl))
    (fun u e hu => hu.trans (u.takeEvent_keepsSettings e)) s levels (.refl s)

theorem execChamberCharacterError_settings {s t : State} (h : execChamberCharacterError s = .next t) : t.settings = s.settings := by
  cases h
  split
  · split
    · rfl
    · exact State.takeError_settings _
  · rfl

theorem execChamberBreak_settings {s t : State} (h : execChamberBreak s = .next t) : t.settings = s.settings := by
  cases h
  split <;> rfl

theorem execLineBreakClear_settings {s t : State} (h : execLineBreakClear s = .next t) : t.settings = s.settings := by
  cases h
  split <;> rfl

theorem execStaleTimerExpiry_settings {s t : State} (h : execStaleTimerExpiry s = .next t) : t.settings = s.settings := by
  cases h
  split <;> rfl

/-! ## Every command -/

/-- The commands that set the profile or the pattern table: resets, loads, PROFILE_SET and TABLE_WRITE. -/
def setsSettings : Instr → Prop
  | .chipReset => True
  | .chipResetRelease _ => True
  | .softReset _ => True
  | .profileReady _ => True
  | .profileSet _ => True
  | .tableWrite _ => True
  | _ => False

/-- Every other command or event keeps the settings. -/
theorem exec_keepsSettings {c : Instr} {s t : State} (h : exec c s = .next t) (hc : ¬setsSettings c) : s.KeepsSettings t := by
  cases c with
  | chipReset => exact absurd trivial hc
  | chipResetRelease straps => exact absurd trivial hc
  | softReset args => exact absurd trivial hc
  | profileReady eeprom => exact absurd trivial hc
  | profileSet args => exact absurd trivial hc
  | tableWrite args => exact absurd trivial hc
  | chamberByte levels => exact execChamberByte_keepsSettings h
  | chamberCharacterError => exact .of_settings (execChamberCharacterError_settings h)
  | unknownCommand code args => cases h; exact .of_settings (State.command_settings fun _ _ h => by cases h)
  | status args => exact .of_settings (execStatus_settings h)
  | slotStatus args => cases h; exact .of_settings (s.slotQuery_settings args State.slotStatusPayload)
  | slotCounters args => cases h; exact .of_settings (s.slotQuery_settings args (fun s i => (s.slot i).countersPayload))
  | histogram args => cases h; exact .of_settings (s.slotQuery_settings args State.histogramPayload)
  | defectRead args => exact .of_settings (execDefectRead_settings h)
  | start args => exact .of_settings (execStart_settings h)
  | advancePass args => exact .of_settings (execAdvancePass_settings h)
  | endBurn args => cases h; exact .of_settings (s.phaseChange_settings args Phase.endBurn)
  | pause args => cases h; exact .of_settings (s.phaseChange_settings args Phase.pause)
  | resume args => cases h; exact .of_settings (s.phaseChange_settings args Phase.resume)
  | grade args => exact .of_settings (execGrade_settings h)
  | ship args => exact .of_settings (execShip_settings h)
  | sealSlot args => exact .of_settings (execSeal_settings h)
  | release args => exact .of_settings (execRelease_settings h)
  | clearSlot args =>
    cases h
    exact .of_settings (State.slotCommand_settings fun i t p h => by cases h; exact s.slotClear_settings i)
  | windowWrite args => exact .of_settings (execWindowWrite_settings h)
  | windowRead args => exact .of_settings (execWindowRead_settings h)
  | captureSet args => exact .of_settings (execCaptureSet_settings h)
  | captureOpen args => exact .of_settings (execCaptureOpen_settings h)
  | captureRead args => exact .of_settings (execCaptureRead_settings h)
  | captureClose args => exact .of_settings (execCaptureClose_settings h)
  | alertRead args => cases h; exact .of_settings (State.plainCommand_settings fun _ _ h => by cases h; rfl)
  | alertAck args => exact .of_settings (execAlertAck_settings h)
  | alertMask args => exact .of_settings (execAlertMask_settings h)
  | sortResume args => exact .of_settings (execSortResume_settings h)
  | profileReload args => exact .of_settings (execProfileReload_settings h)
  | rawPresenceChange i level => exact .of_settings (execRawPresenceChange_settings h)
  | debounceEnd i => exact .of_settings (execDebounceEnd_settings h)
  | commandFrame i f => exact .of_settings (execCommandFrame_settings h)
  | pendingStatusSend i => cases h; exact .of_settings rfl
  | dataSetupNotice i n => exact .of_settings (execDataSetupNotice_settings h)
  | dataFrame i f => exact .of_settings (execDataFrame_settings h)
  | successStatus i st => exact .of_settings (execSuccessStatus_settings h)
  | errorStatus i r => exact .of_settings (execErrorStatus_settings h)
  | commandTimeout i e => exact .of_settings (execCommandTimeout_settings h)
  | driveLinkReset i => exact .of_settings (execDriveLinkReset_settings h)
  | soakTick => exact .of_settings (execSoakTick_settings h)
  | chamberBreak => exact .of_settings (execChamberBreak_settings h)
  | lineBreakClear => exact .of_settings (execLineBreakClear_settings h)
  | staleTimerExpiry => exact .of_settings (execStaleTimerExpiry_settings h)
  | gradeTake => exact .of_settings (execGradeTake_settings h)
  | gradeCompletion => exact .of_settings (execGradeCompletion_settings h)
  | takeAsserted => exact .of_settings (execTakeAsserted_settings h)
  | takeDeasserted => cases h; exact .of_settings rfl
  | faultAsserted => exact .of_settings (execFaultAsserted_settings h)
  | faultDeasserted => cases h; exact .of_settings rfl
  | busyAsserted => cases h; exact .of_settings rfl
  | busyDeasserted => cases h; exact .of_settings rfl
  | offerTimerExpiry => exact .of_settings (execOfferTimerExpiry_settings h)

end Sys2Proof.Machine
end

section
/-!
The items of the profile and the words of the pattern table: what a load, PROFILE_SET and TABLE_WRITE leave is in range, in order and in
canonical form (R46, R58, R79, R112, R113, R130, R167, R168, Table 11-3).
-/
namespace Sys2Proof.Machine

/-! ## Words of the pattern table (R46, R58) -/

/-- Words written below word 1024 leave the cells below address 4096. -/
theorem writeTableWords_bound (xs : List Word32) : ∀ {m : List Host.Cell} {w : Nat}, w + xs.length ≤ 1024 → (∀ c ∈ m, c.1 < 4096) →
    ∀ c ∈ writeTableWords m w xs, c.1 < 4096 := by
  induction xs with
  | nil => exact fun _ hm => hm
  | cons x xs ih =>
    intro m w h hm
    rw [List.length_cons] at h
    refine ih (by omega) ?_
    exact Memory.writeByte_bound _ (by omega) (Memory.writeByte_bound _ (by omega)
      (Memory.writeByte_bound _ (by omega) (Memory.writeByte_bound _ (by omega) hm)))

theorem wordsOf_length : ∀ bs : List Byte, (wordsOf bs).length = bs.length / 4
  | b0 :: b1 :: b2 :: b3 :: bs => by
    rw [wordsOf, List.length_cons, wordsOf_length bs]
    simp only [List.length_cons]
    omega
  | [] | [_] | [_, _] | [_, _, _] => by simp [wordsOf]

/-- A pattern table in canonical form, words 0 to 1023 only (R46). -/
def TableSafe (m : List Host.Cell) : Prop := Memory.wf m = true ∧ ∀ c ∈ m, c.1 < 4096

theorem TableSafe.writeTableWords {m : List Host.Cell} (h : TableSafe m) {w : Nat} {xs : List Word32} (hw : w + xs.length ≤ 1024) :
    TableSafe (writeTableWords m w xs) := by
  obtain ⟨hwf, hbound⟩ := h
  exact ⟨wf_writeTableWords xs w hwf, writeTableWords_bound xs hw hbound⟩

/-! ## Ranges of the items (Table 11-3) -/

theorem clampTo_between {lo hi : Nat} (h : lo ≤ hi) (v : Nat) : lo ≤ clampTo lo hi v ∧ clampTo lo hi v ≤ hi := by
  unfold clampTo; omega

theorem clampTo_le (hi v : Nat) : clampTo 0 hi v ≤ hi := (clampTo_between (Nat.zero_le hi) v).2

/-- Rising numbers rise from each to the next (R113). -/
theorem rising_iff (l : List Nat) : rising l = true ↔ ∀ (n : Nat) (h : n + 1 < l.length), l[n] < l[n + 1] := by
  rw [← List.isChain_iff_getElem]
  induction l with
  | nil => simp [rising]
  | cons a l ih =>
    cases l with
    | nil => simp [rising]
    | cons b l => simp [rising, ih]

/-- Every item is in its own range, the ordered ones not yet in order (Table 11-3). -/
structure Profile.ItemsInRange (p : Profile) : Prop where
  commandTimeout : 1 ≤ p.commandTimeout ∧ p.commandTimeout ≤ 60000
  latencyBase : 1 ≤ p.latencyBase ∧ p.latencyBase ≤ 65535
  slowBucket : 1 ≤ p.slowBucket ∧ p.slowBucket ≤ 15
  slipReach : 1 ≤ p.slipReach ∧ p.slipReach ≤ 255
  defectCap : 1 ≤ p.defectCap ∧ p.defectCap ≤ 512
  divisor : p.divisor ≤ 4095
  staleTimeout : 1 ≤ p.staleTimeout ∧ p.staleTimeout ≤ 60
  h1 : p.h1 ≤ 249
  h2 : 1 ≤ p.h2 ∧ p.h2 ≤ 250
  knots : rising p.knots.toList = true ∧ p.knots[8] ≤ 250
  factors : ∀ i : Fin 9, p.factors[i] ≤ 4095
  offerTimeout : 1 ≤ p.offerTimeout ∧ p.offerTimeout ≤ 255
  wDefsec : p.grading.wDefsec ≤ 65535
  wExtent : p.grading.wExtent ≤ 65535
  wStale : p.grading.wStale ≤ 65535
  wSlip : p.grading.wSlip ≤ 65535
  wTimeout : p.grading.wTimeout ≤ 65535
  wSlow : p.grading.wSlow ≤ 65535
  wShort : p.grading.wShort ≤ 65535
  wHot : p.grading.wHot ≤ 65535
  b1 : p.grading.b1 ≤ max32
  b2 : p.grading.b2 ≤ max32
  b3 : p.grading.b3 ≤ max32
  slipLimit : 1 ≤ p.grading.slipLimit ∧ p.grading.slipLimit ≤ 65535

/-- A profile is in range exactly where each item is and H1 and the thresholds are in order (R112, R130). -/
theorem Profile.inRange_iff (p : Profile) : p.inRange ↔
    p.ItemsInRange ∧ p.h1 < p.h2 ∧ p.grading.b1 ≤ p.grading.b2 ∧ p.grading.b2 ≤ p.grading.b3 := by
  constructor
  · rintro ⟨hct, hlb, hsb, hsr, hcap, hdiv, hst, ⟨hh, hh2⟩, hk, hf, hof, ⟨w1, w2, w3, w4⟩, ⟨w5, w6, w7, w8⟩, ⟨hb12, hb23, hb3⟩, hsl⟩
    exact ⟨⟨hct, hlb, hsb, hsr, hcap, hdiv, hst, by omega, ⟨by omega, hh2⟩, hk, hf, hof, w1, w2, w3, w4, w5, w6, w7, w8, by omega,
      by omega, hb3, hsl⟩, hh, hb12, hb23⟩
  · rintro ⟨h, hh, hb12, hb23⟩
    exact ⟨h.commandTimeout, h.latencyBase, h.slowBucket, h.slipReach, h.defectCap, h.divisor, h.staleTimeout, ⟨hh, h.h2.2⟩, h.knots,
      h.factors, h.offerTimeout, ⟨h.wDefsec, h.wExtent, h.wStale, h.wSlip⟩, ⟨h.wTimeout, h.wSlow, h.wShort, h.wHot⟩,
      ⟨hb12, hb23, h.b3⟩, h.slipLimit⟩

theorem Profile.builtIn_inRange : Profile.builtIn.inRange := by
  obtain ⟨-, hprofile, -⟩ := resetMeetsInvariants
  exact hprofile

theorem Profile.inRange.items {p : Profile} (h : p.inRange) : p.ItemsInRange := ((Profile.inRange_iff p).mp h).1

theorem Profile.inRange.h1_le {p : Profile} (h : p.inRange) : p.h1 ≤ 249 := h.items.h1

/-- A numeric item is stored in its range, the other items as they were (Table 11-3). -/
theorem Profile.ItemsInRange.storeNumber {p : Profile} (h : p.ItemsInRange) (code v : Nat) : (p.storeNumber code v).ItemsInRange := by
  unfold Profile.storeNumber
  dsimp only
  split
  case h_1 => exact { h with commandTimeout := clampTo_between (by decide) v }
  case h_2 => exact { h with latencyBase := clampTo_between (by decide) v }
  case h_3 => exact { h with slowBucket := clampTo_between (by decide) v }
  case h_4 => exact { h with slipReach := clampTo_between (by decide) v }
  case h_5 => exact { h with }
  case h_6 => exact { h with divisor := clampTo_le _ v }
  case h_7 => exact { h with staleTimeout := clampTo_between (by decide) v }
  case h_8 => exact { h with offerTimeout := clampTo_between (by decide) v }
  case h_9 => exact { h with wDefsec := clampTo_le _ v }
  case h_10 => exact { h with wExtent := clampTo_le _ v }
  case h_11 => exact { h with wStale := clampTo_le _ v }
  case h_12 => exact { h with wSlip := clampTo_le _ v }
  case h_13 => exact { h with wTimeout := clampTo_le _ v }
  case h_14 => exact { h with wSlow := clampTo_le _ v }
  case h_15 => exact { h with wShort := clampTo_le _ v }
  case h_16 => exact { h with wHot := clampTo_le _ v }
  case h_17 => exact { h with slipLimit := clampTo_between (by decide) v }
  case h_18 => exact { h with }
  case h_19 => exact h

/-- A numeric item leaves the ordered items (R112, R130). -/
theorem Profile.storeNumber_ordered (p : Profile) (code v : Nat) : (p.storeNumber code v).h1 = p.h1 ∧
    (p.storeNumber code v).h2 = p.h2 ∧ (p.storeNumber code v).grading.b1 = p.grading.b1 ∧
    (p.storeNumber code v).grading.b2 = p.grading.b2 ∧ (p.storeNumber code v).grading.b3 = p.grading.b3 := by
  unfold Profile.storeNumber
  dsimp only
  split <;> exact ⟨rfl, rfl, rfl, rfl, rfl⟩

/-! ## PROFILE_SET (R79, R112, R113, R130, R168) -/

theorem nine_getD (v : Vector Nat 9) {k : Nat} (h : k < 9) : v.toList.getD k 0 = v[k] := by simp [h]

/-- A set knot stays above the one before it (R113). -/
theorem Profile.clampKnot_above (p : Profile) {i : Fin 9} {n : Nat} (h : n + 1 = i.val) (v : Nat) :
    p.knots[n] < p.clampKnot i v := by
  have hlow : p.knots.toList.getD (i.val - 1) 0 = p.knots[n] := by rw [← nine_getD p.knots (by omega), ← h]; rfl
  unfold Profile.clampKnot clampTo
  rw [if_neg (by omega), hlow]
  omega

/-- The least value of a knot, given its neighbours, is at most the knot as it stands (R113). -/
theorem Profile.clampKnot_least {p : Profile} (h : rising p.knots.toList = true) (i : Fin 9) :
    (if i.val = 0 then 0 else p.knots.toList.getD (i.val - 1) 0 + 1) ≤ p.knots[i.val] := by
  split
  · exact Nat.zero_le _
  · rename_i hne
    obtain ⟨n, hn⟩ : ∃ n, i.val = n + 1 := ⟨i.val - 1, by omega⟩
    have hlt := (rising_iff _).mp h n (by rw [Vector.length_toList]; omega)
    simp only [Vector.getElem_toList] at hlt
    simp only [hn, Nat.add_sub_cancel, nine_getD p.knots (show n < 9 by omega)]
    omega

/-- A set knot stays below the one after it (R113). -/
theorem Profile.clampKnot_below {p : Profile} (h : rising p.knots.toList = true) {i : Fin 9} (hi : i.val + 1 < 9) (v : Nat) :
    p.clampKnot i v < p.knots[i.val + 1] := by
  have hleast := Profile.clampKnot_least h i
  have hnext := (rising_iff _).mp h i.val (by rw [Vector.length_toList]; omega)
  simp only [Vector.getElem_toList] at hnext
  unfold Profile.clampKnot clampTo
  rw [if_neg (show ¬i.val = 8 by omega), nine_getD p.knots hi]
  omega

/-- A knot clamped between its neighbours leaves the knots rising, none above 250 (R113). -/
theorem Profile.clampKnot_rising {p : Profile} (h : rising p.knots.toList = true ∧ p.knots[8] ≤ 250) (i : Fin 9) (v : Nat) :
    rising (p.knots.set i (p.clampKnot i v)).toList = true ∧ (p.knots.set i (p.clampKnot i v))[8] ≤ 250 := by
  obtain ⟨hrise, hlast⟩ := h
  constructor
  · rw [rising_iff]
    intro n hn
    rw [Vector.length_toList] at hn
    have hstep := (rising_iff _).mp hrise n (by rw [Vector.length_toList]; omega)
    simp only [Vector.getElem_toList, Vector.getElem_set] at hstep ⊢
    split
    · subst_vars
      rw [if_neg (by omega)]
      exact Profile.clampKnot_below hrise hn v
    · split
      · rename_i hi
        exact p.clampKnot_above hi.symm v
      · exact hstep
  · rw [Vector.getElem_set]
    split
    · rename_i hi
      have hleast := Profile.clampKnot_least hrise i
      simp only [hi] at hleast
      unfold Profile.clampKnot clampTo
      rw [if_pos hi, hi]
      omega
    · exact hlast

/-- The profile an item is set in, where there is such an item, is in range. -/
def SetInRange (o : Option Profile) : Prop := ∀ q, o = some q → q.inRange

theorem SetInRange.of_items {p : Profile} (h : p.ItemsInRange) (hh : p.h1 < p.h2) (hb12 : p.grading.b1 ≤ p.grading.b2)
    (hb23 : p.grading.b2 ≤ p.grading.b3) : SetInRange (some p) := by
  rintro q ⟨⟩
  exact (Profile.inRange_iff p).mpr ⟨h, hh, hb12, hb23⟩

/-- An item set by PROFILE_SET is clamped into its range, between its neighbours as they stand (R79, R112, R113, R130, R168). -/
theorem Profile.inRange.setItem {p : Profile} (h : p.inRange) {largest : Nat} (hlargest : largest ≤ 512) (code v : Nat) :
    SetInRange (p.setItem largest code v) := by
  obtain ⟨hitems, hh, hb12, hb23⟩ := (Profile.inRange_iff p).mp h
  have hh2 := hitems.h2
  have hb3 := hitems.b3
  have hcap := clampTo_between (show 1 ≤ 512 by decide) v
  have hset1 := clampTo_le (p.h2 - 1) v
  have hset2 := clampTo_between (show p.h1 + 1 ≤ 250 by omega) v
  have hsetb1 := clampTo_le p.grading.b2 v
  have hsetb2 := clampTo_between (hb12.trans hb23) v
  have hsetb3 := clampTo_between (hb23.trans hb3) v
  unfold Profile.setItem
  refine iteInduction (fun _ => .of_items { hitems with defectCap := ?_ } hh hb12 hb23) fun _ => ?_
  · dsimp only; omega
  refine iteInduction (fun _ => .of_items { hitems with h1 := ?_ } ?_ hb12 hb23) fun _ => ?_
  · dsimp only; omega
  · dsimp only; omega
  refine iteInduction (fun _ => .of_items { hitems with h2 := ?_ } ?_ hb12 hb23) fun _ => ?_
  · dsimp only; omega
  · dsimp only; omega
  refine iteInduction (fun _ => .of_items { hitems with b1 := ?_ } hh hsetb1 hb23) fun _ => ?_
  · dsimp only; omega
  refine iteInduction (fun _ => .of_items { hitems with b2 := ?_ } hh hsetb2.1 hsetb2.2) fun _ => ?_
  · dsimp only; omega
  refine iteInduction (fun _ => .of_items { hitems with b3 := hsetb3.2 } hh hb12 hsetb3.1) fun _ => ?_
  split
  · exact .of_items { hitems with knots := Profile.clampKnot_rising hitems.knots _ v } hh hb12 hb23
  split
  · refine .of_items { hitems with factors := fun i => ?_ } hh hb12 hb23
    simp only [Fin.getElem_fin, Vector.getElem_set]
    split
    · exact clampTo_le _ v
    · exact hitems.factors i
  refine iteInduction (fun _ => ?_) fun _ => nofun
  obtain ⟨e1, e2, e3, e4, e5⟩ := p.storeNumber_ordered code v
  exact .of_items (hitems.storeNumber code v) (by rw [e1, e2]; exact hh) (by rw [e3, e4]; exact hb12) (by rw [e4, e5]; exact hb23)

/-! ## Loads (R113, R167) -/

/-- Nine numbers of a list of nine are the list. -/
theorem nine_toList {l : List Nat} (h : l.length = 9) : (nine l).toList = l := by
  match l, h with
  | [_, _, _, _, _, _, _, _, _], _ => rfl

theorem nine_get (l : List Nat) (i : Fin 9) : (nine l)[i] = l.getD i.val 0 := by fin_cases i <;> rfl

/-- The knot table of an item is stored in range, or the built-in one is (R113). -/
theorem Profile.ItemsInRange.storeKnots {p : Profile} (h : p.ItemsInRange) {data : List Byte} (hd : 9 ≤ data.length) :
    (p.storeKnots data).ItemsInRange := by
  have hlength : (itemKnots data).length = 9 := by simp [itemKnots, hd]
  unfold Profile.storeKnots
  split
  · rename_i hok
    simp only [knotsOk, Bool.and_eq_true, List.all_eq_true, decide_eq_true_eq] at hok
    obtain ⟨hrise, hall⟩ := hok
    refine { h with knots := ⟨by rwa [nine_toList hlength], ?_⟩, factors := fun i => ?_ }
    · have hlast := nine_get (itemKnots data) 8
      simp only [Fin.getElem_fin, Fin.isValue, List.getD_eq_getElem?_getD,
        List.getElem?_eq_getElem (show (8 : Fin 9).val < (itemKnots data).length by rw [hlength]; decide), Option.getD_some] at hlast
      exact hlast.trans_le (hall _ (List.getElem_mem _))
    · rw [nine_get, List.getD_eq_getElem?_getD, List.getElem?_map]
      cases (itemFactors (data.drop 9))[i.val]? <;> simp
  · exact { h with knots := Profile.builtIn_inRange.items.knots, factors := Profile.builtIn_inRange.items.factors }

/-- An item that is stored has the size of its code (R173). -/
theorem ProfileItem.taken_size {x : ProfileItem} (h : x.taken = true) (hc : x.code ≠ 0x0300) : itemSize x.code = some x.data.length := by
  simpa [ProfileItem.taken, hc] using h

/-- What a load has gathered: each item in its own range, the pattern table in canonical form. -/
structure Load.Sound (l : Load) : Prop where
  items : l.profile.ItemsInRange
  table : TableSafe l.table

theorem Load.builtIn_sound : Load.builtIn.Sound := ⟨Profile.builtIn_inRange.items, rfl, nofun⟩

/-- An item of four bytes has a value of 32 bits. -/
theorem ProfileItem.value_le {x : ProfileItem} (h : x.taken = true) {code : Nat} (hc : x.code = code)
    (hcode : itemSize code = some 4) : fromLe x.data ≤ max32 := by
  have hne : x.code ≠ 0x0300 := by rintro hx; rw [← hc, hx] at hcode; cases hcode
  have hsize := ProfileItem.taken_size h hne
  rw [hc, hcode] at hsize
  have hlt := fromLe_lt x.data
  rw [← Option.some.inj hsize] at hlt
  unfold max32
  omega

/-- An item stored keeps a load sound (R46, R113, R167). -/
theorem Load.Sound.store {l : Load} (h : l.Sound) (x : ProfileItem) : (l.store x).Sound := by
  obtain ⟨hitems, htable⟩ := h
  refine iteInduction (motive := Load.Sound) (fun _ => ⟨hitems, htable⟩) fun htaken => ?_
  have htaken : x.taken = true := by simpa using htaken
  refine iteInduction (fun _ => ⟨hitems, htable⟩) fun _ => ?_
  refine iteInduction (fun _ => ⟨hitems, htable⟩) fun _ => ?_
  refine iteInduction (fun _ => ⟨{ hitems with defectCap := clampTo_between (by decide) _ }, htable⟩) fun _ => ?_
  refine iteInduction (fun _ => ⟨{ hitems with h1 := clampTo_le 249 _ }, htable⟩) fun _ => ?_
  refine iteInduction (fun _ => ⟨{ hitems with h2 := clampTo_between (by decide) _ }, htable⟩) fun _ => ?_
  refine iteInduction (fun hc => ⟨{ hitems with b1 := ProfileItem.value_le htaken hc rfl }, htable⟩) fun _ => ?_
  refine iteInduction (fun hc => ⟨{ hitems with b2 := ProfileItem.value_le htaken hc rfl }, htable⟩) fun _ => ?_
  refine iteInduction (fun hc => ⟨{ hitems with b3 := ProfileItem.value_le htaken hc rfl }, htable⟩) fun _ => ?_
  refine iteInduction (fun hc => ?_) fun _ => ?_
  · have hsize := ProfileItem.taken_size htaken (by omega)
    rw [hc] at hsize
    exact ⟨hitems.storeKnots (by rw [← Option.some.inj hsize]; decide), htable⟩
  refine iteInduction (fun hc => ?_) fun _ => ?_
  · simp only [ProfileItem.taken, hc, if_true, tableItemOk, Bool.and_eq_true, decide_eq_true_eq] at htaken
    obtain ⟨⟨⟨-, -⟩, -⟩, hend⟩ := htaken
    exact ⟨hitems, htable.writeTableWords (by rwa [wordsOf_length, List.length_drop])⟩
  refine iteInduction (fun _ => ⟨hitems, htable⟩) fun _ => ?_
  exact iteInduction (fun _ => ⟨hitems, htable⟩) fun _ => ⟨hitems.storeNumber _ _, htable⟩

theorem Load.Sound.foldl (items : List ProfileItem) : (items.foldl Load.store Load.builtIn).Sound :=
  List.foldlRecOn items Load.store Load.builtIn_sound fun _ h x _ => h.store x

/-- The last clamps of a load bring the ordered items into order (R79, R112, R130). -/
theorem Profile.ItemsInRange.settled {p : Profile} (h : p.ItemsInRange) {largest : Nat} (hl : largest ≤ 512) :
    (p.settled largest).inRange := by
  have hcap := h.defectCap
  have hh1 := h.h1
  have hh2 := h.h2
  have hb := And.intro h.b1 (And.intro h.b2 h.b3)
  have horder : (p.settled largest).h1 < (p.settled largest).h2 ∧ (p.settled largest).h1 ≤ 249 := by
    unfold Profile.settled
    dsimp only
    split <;> omega
  rw [Profile.inRange_iff]
  exact ⟨{ h with
    defectCap := by unfold Profile.settled; dsimp only; omega
    h1 := horder.2
    b2 := by unfold Profile.settled; dsimp only; omega
    b3 := by unfold Profile.settled; dsimp only; omega }, horder.1, Nat.le_max_left _ _, Nat.le_max_left _ _⟩

/-! ## The settings of a whole step -/

/-- No slot holds more extents than the cap allows (R79). -/
theorem State.largestCount_le {s : State} {n : Nat} (h : ∀ i, (s.slot i).defects.extents.length ≤ n) : s.largestCount ≤ n :=
  List.foldlRecOn allSlots _ (motive := fun m => m ≤ n) (Nat.zero_le n) fun _ hm i _ => max_le hm (h i)

theorem State.poolSafe.largestCount {s : State} (h : s.poolSafe) : s.largestCount ≤ 512 := by
  obtain ⟨-, -, hcap, hslots⟩ := h
  exact State.largestCount_le fun i => (hslots i).1.trans hcap

/-- The settings of one state, as the invariant speaks of them, from those of another. -/
structure State.SettingsSafe (s t : State) : Prop where
  table : s.tableSafe → t.tableSafe
  profile : s.largestCount ≤ 512 → s.profile.inRange → t.profile.inRange
  h1 : s.largestCount ≤ 512 → s.profile.inRange → s.chamber.h1InEffect ≤ 249 → t.chamber.h1InEffect ≤ 249

theorem State.KeepsSettings.safe {s t : State} (h : s.KeepsSettings t) : s.SettingsSafe t where
  table := fun hs => by unfold State.tableSafe; rw [h.table]; exact hs
  profile := fun _ hs => by rw [h.profile]; exact hs
  h1 := fun _ hp hs => h.h1.elim (fun he => he.trans_le hs) (fun he => he.trans_le hp.h1_le)

theorem State.SettingsSafe.of_settings {s t : State} (h : t.settings = s.settings) : s.SettingsSafe t :=
  (State.KeepsSettings.of_settings h).safe

/-- A reset brings the built-in settings (R2, R59, R112, Table 11-4). -/
theorem State.SettingsSafe.of_reset {s t : State} (hp : t.profile = Profile.builtIn) (ht : t.patternTable = [])
    (hc : t.chamber = Chamber.initial) : s.SettingsSafe t where
  table := fun _ => by unfold State.tableSafe; rw [ht]; exact ⟨rfl, nofun⟩
  profile := fun _ _ => hp ▸ Profile.builtIn_inRange
  h1 := fun _ _ _ => by rw [hc]; decide

/-- The settings safe in the state before a management command are safe after it, if they are where it answers OK. -/
theorem State.command_settingsSafe {s : State} {rule : State → Answer} (h : ∀ t p, rule s = .ok t p → s.SettingsSafe t) :
    s.SettingsSafe (s.command rule) := by
  obtain ⟨-, hc⟩ | ⟨-, -, hc⟩ | ⟨-, -, t, p, hr, hc⟩ | ⟨-, -, st, -, hc⟩ := s.command_cases rule <;> rw [hc]
  · exact .of_settings rfl
  · exact .of_settings (s.answer_settings _ _)
  · obtain ⟨htable, hprofile, hh1⟩ := h t p hr
    exact ⟨htable, hprofile, hh1⟩
  · exact .of_settings (s.answer_settings _ _)

theorem execSoftReset_settingsSafe {args : List Byte} {s t : State} (h : execSoftReset args s = .next t) : s.SettingsSafe t := by
  cases h
  refine State.command_settingsSafe fun t p h => ?_
  obtain ⟨-, h⟩ := plainCommand_ok h
  cases h
  exact .of_reset rfl rfl rfl

theorem execTableWrite_settingsSafe {args : List Byte} {s t : State} (h : execTableWrite args s = .next t) : s.SettingsSafe t := by
  cases h
  refine State.command_settingsSafe fun t p h => ?_
  split at h
  · split at h
    · rename_i hk
      simp only [Bool.and_eq_true, decide_eq_true_eq] at hk
      split at h
      · rename_i hend
        simp only [Bool.and_eq_true, decide_eq_true_eq] at hend
        split at h <;> cases h
        exact ⟨fun hs => TableSafe.writeTableWords hs (by rw [wordsOf_length]; omega), fun _ hp => hp, fun _ _ hh => hh⟩
      · cases h
    · cases h
  · cases h

/-- The effects of an item leave the settings (R168). -/
theorem State.itemTakesEffect_settings (s : State) (code old : Nat) : (s.itemTakesEffect code old).settings = s.settings := by
  unfold State.itemTakesEffect
  split
  · unfold State.timeoutsLowered
    split
    · exact State.forSlots_settings State.expireSlot_settings s
    · rfl
  · split_ifs <;> simp

theorem execProfileSet_settingsSafe {args : List Byte} {s t : State} (h : execProfileSet args s = .next t) : s.SettingsSafe t := by
  cases h
  refine State.command_settingsSafe fun t p h => ?_
  split at h
  · unfold State.setProfile at h
    split at h
    · cases h
    · split at h
      · cases h; exact .of_settings rfl
      · split at h
        · cases h; exact .of_settings (s.putCapture_settings _)
        · split at h
          · rename_i q hq
            rw [← (Answer.ok.inj h).1]
            obtain ⟨hprofile, htable, hh1⟩ := State.KeepsSettings.of_settings
              (State.itemTakesEffect_settings { s with profile := q } _ s.profile.commandTimeout)
            exact ⟨fun hs => by unfold State.tableSafe; rw [htable]; exact hs, fun hl hp => by rw [hprofile]; exact hp.setItem hl _ _ q hq,
              fun hl hp hs => hh1.elim (fun he => he.trans_le hs) (fun he => he.trans_le (hp.setItem hl _ _ q hq).h1_le)⟩
          · cases h
  · cases h

theorem execProfileReady_settingsSafe {eeprom : Option (List Byte)} {s t : State} (h : execProfileReady eeprom s = .next t) :
    s.SettingsSafe t := by
  rw [← Host.Outcome.next.inj h]
  split
  · exact .of_settings rfl
  · rename_i kind _ _
    split
    · exact .of_settings rfl
    · have hsound := Load.Sound.foldl (loadImage s.straps.noload eeprom).2
      have hprofile (hl : s.largestCount ≤ 512) := hsound.items.settled hl
      cases kind with
      | afterReset => exact ⟨fun _ => hsound.table, fun hl _ => hprofile hl, fun hl _ _ => (hprofile hl).h1_le⟩
      | reload => exact ⟨fun _ => hsound.table, fun hl _ => hprofile hl, fun _ _ hs => hs⟩

theorem exec_settingsSafe {c : Instr} {s t : State} (h : exec c s = .next t) : s.SettingsSafe t := by
  cases c with
  | chipReset => cases h; exact .of_reset rfl rfl rfl
  | chipResetRelease straps => cases h; exact .of_reset rfl rfl rfl
  | softReset args => exact execSoftReset_settingsSafe h
  | profileReady eeprom => exact execProfileReady_settingsSafe h
  | profileSet args => exact execProfileSet_settingsSafe h
  | tableWrite args => exact execTableWrite_settingsSafe h
  | _ => exact (exec_keepsSettings h not_false).safe

/-- The queue, the counter of free values and the timebase are beside the settings. -/
theorem step_settingsSafe {s t : State} (h : step s = .next t) : s.SettingsSafe t := by
  unfold step at h
  split at h
  · obtain ⟨htable, hprofile, hh1⟩ := exec_settingsSafe h
    exact ⟨htable, hprofile, hh1⟩
  · split at h
    · rename_i c u ho
      obtain ⟨d, -, hd⟩ := Option.map_eq_some_iff.mp ho
      cases hd
      obtain ⟨htable, hprofile, hh1⟩ := exec_settingsSafe h
      exact ⟨htable, hprofile, hh1⟩
    · cases h
      unfold State.tick
      split <;> exact .of_settings rfl

/-- Settles O52: every command keeps the settings or sets them in range, PROFILE_SET and loads by the clamps of their items. -/
theorem tableAndProfileInvariant : Obligations.TableAndProfileInvariant := by
  intro s t h
  obtain ⟨htable, hprofile, hh1⟩ := step_settingsSafe h
  exact ⟨htable, fun hpool hp => ⟨hprofile hpool.largestCount hp, hh1 hpool.largestCount hp⟩⟩

end Sys2Proof.Machine
end

section
/-!
The window table and the pattern table: the matching window of a sector (R48, R50), TABLE_WRITE (R58), WINDOW_WRITE and WINDOW_READ
(R47, R56, R57, R154).
-/
namespace Sys2Proof.Machine

/-! ## The matching window (R48, R50) -/

/-- The three tests of R50. -/
theorem Window.matchesSector_iff (w : Window) (i : SlotId) (id : Identity) (lba : Nat) : w.matchesSector i id lba = true ↔
    w.enabled = true ∧ w.mask.getLsbD i.val = true ∧ ∃ first last, w.resolve id = some (first, last) ∧ first ≤ lba ∧ lba ≤ last := by
  unfold Window.matchesSector
  cases hc : w.coverage i id with
  | none =>
    refine ⟨nofun, ?_⟩
    rintro ⟨he, hm, first, last, hr, -⟩
    rw [Window.coverage_eq_some.mpr ⟨he, hm, hr⟩] at hc
    cases hc
  | some range =>
    obtain ⟨he, hm, hr⟩ := Window.coverage_eq_some.mp hc
    simp [he, hm, hr, Prod.ext_iff]

theorem Window.resolve_fromStart {w : Window} (h : w.anchor = .fromStart) (id : Identity) :
    w.resolve id = some (w.base, min (w.base + w.length - 1) (2 ^ 48 - 1)) := by
  unfold Window.resolve
  rw [h]
  rfl

/-- Settles O40: the lowest window that meets the tests of R50, and the range of a START window. -/
theorem matchingWindowIsLowest : Obligations.MatchingWindowIsLowest := by
  refine ⟨fun ws i id lba => ?_, fun w id ha hb hl => ⟨Window.resolve_fromStart ha id, by omega⟩⟩
  dsimp only
  simp only [← Window.matchesSector_iff]
  refine ⟨fun k => ?_, ?_⟩
  · simp only [Bool.not_eq_true]
    exact lowestWindow_eq_some
  · simp only [Bool.not_eq_true]
    exact lowestWindow_eq_none

/-! ## TABLE_WRITE (R58) -/

/-- A quiet slot is in no active phase and has no open entry (R56). -/
theorem State.quiet_iff (s : State) (i : SlotId) : s.quiet i = true ↔
    (s.slot i).phase ≠ .burn ∧ (s.slot i).phase ≠ .scan ∧ (s.slot i).phase ≠ .ship ∧ ∀ e, (s.lane i).entry e = none := by
  unfold State.quiet
  rw [Bool.and_eq_true, Bool.not_eq_true', State.hasOpen_eq_false, ← and_assoc, ← and_assoc]
  refine and_congr_left fun _ => ?_
  cases (s.slot i).phase <;> simp [Phase.active]

theorem fromLe_le_of_lt {n v : Nat} (h : v < 256 ^ n) : fromLe (le n v) = v := by rw [fromLe_le, Nat.mod_eq_of_lt h]

/-- The bytes of words, least significant first. -/
def bytesOf (words : List Word32) : List Byte := words.flatMap (fun x => le 4 x.toNat)

theorem bytesOf_length (words : List Word32) : (bytesOf words).length = 4 * words.length := by
  simp only [bytesOf, List.length_flatMap, le_length, List.map_const', List.sum_replicate, smul_eq_mul, Nat.mul_comm]

/-- The words that bytes spell, least significant byte first. -/
theorem wordsOf_flatMap (words : List Word32) : wordsOf (words.flatMap (fun x => le 4 x.toNat)) = words := by
  induction words with
  | nil => rfl
  | cons x words ih =>
    have hword := (wordOf_le x.toNat).trans (by rw [BitVec.ofNat_toNat, BitVec.setWidth_eq])
    exact congrArg₂ List.cons hword ih

/-- Words written stand from their index on, every other word is left alone (R58). -/
theorem readTableWord_writeTableWords (xs : List Word32) : ∀ {m : List Host.Cell} (w v : Nat), Memory.wf m = true →
    readTableWord (writeTableWords m w xs) v =
      if w ≤ v then xs.getD (v - w) (readTableWord m v) else readTableWord m v := by
  induction xs with
  | nil => intro m w v _; simp [writeTableWords]
  | cons x xs ih =>
    intro m w v h
    rw [writeTableWords, ih (w + 1) v (wf_writeTableWord w x h), readTableWord_writeTableWord h]
    rcases Nat.lt_trichotomy v w with hlt | rfl | hgt
    · rw [if_neg (by omega), if_neg (by omega), if_neg (by omega)]
    · simp
    · obtain ⟨k, rfl⟩ : ∃ k, v = w + 1 + k := ⟨v - w - 1, by omega⟩
      rw [if_neg (show ¬w + 1 + k = w by omega), if_pos (show w + 1 ≤ w + 1 + k by omega), if_pos (show w ≤ w + 1 + k by omega),
        Nat.add_sub_cancel_left, show w + 1 + k - w = k + 1 by omega, List.getD_cons_succ]

/-- The words of a range as they were written, and every other word as before (R58). -/
theorem readTableWord_written {m : List Host.Cell} (h : Memory.wf m = true) (index : Nat) (words : List Word32) :
    (∀ (k : Nat) (x : Word32), words[k]? = some x → readTableWord (writeTableWords m index words) (index + k) = x) ∧
      ∀ w, w < index ∨ index + words.length ≤ w → readTableWord (writeTableWords m index words) w = readTableWord m w := by
  refine ⟨fun k x hk => ?_, fun w hw => ?_⟩
  · rw [readTableWord_writeTableWords _ _ _ h, if_pos (Nat.le_add_right _ _), Nat.add_sub_cancel_left, List.getD_eq_getElem?_getD, hk]
    rfl
  · rw [readTableWord_writeTableWords _ _ _ h]
    split
    · rw [List.getD_eq_getElem?_getD, List.getElem?_eq_none (by omega)]
      rfl
    · rfl

/-- The rule of TABLE_WRITE with 1 to 15 words (R58, R172). -/
theorem execTableWrite_words {s : State} (hs : s.ready) {index : Nat} {words : List Word32} (hindex : index < 65536)
    (hlow : 1 ≤ words.length) (hhigh : words.length ≤ 15) :
    execTableWrite (le 2 index ++ le 1 words.length ++ words.flatMap (fun x => le 4 x.toNat)) s =
      .next (if index + words.length ≤ 1024 then
        if allSlots.all s.quiet then ({ s with patternTable := writeTableWords s.patternTable index words } : State).answer .ok []
        else s.answer .busy []
      else s.answer .range []) := by
  have hbytes : (words.flatMap (fun x => le 4 x.toNat)).length = 4 * words.length := bytesOf_length words
  have hcount : (BitVec.ofNat 8 words.length).toNat = words.length := by
    rw [BitVec.toNat_ofNat]; omega
  have hstart : fromLe [BitVec.ofNat 8 index, BitVec.ofNat 8 (index / 256)] = index := fromLe_le_of_lt (n := 2) hindex
  have hargs : le 2 index ++ le 1 words.length ++ words.flatMap (fun x => le 4 x.toNat) = BitVec.ofNat 8 index ::
    BitVec.ofNat 8 (index / 256) :: BitVec.ofNat 8 words.length :: words.flatMap (fun x => le 4 x.toNat) := rfl
  refine congrArg Host.Outcome.next ?_
  rw [s.command_ready _ hs.1 hs.2, hargs]
  dsimp only
  rw [hcount, hstart, wordsOf_flatMap, if_pos (by simp [hlow, hhigh, hbytes])]
  by_cases hend : index + words.length ≤ 1024
  · rw [if_pos (by simp only [Bool.and_eq_true, decide_eq_true_eq]; omega), if_pos hend]
    split <;> rfl
  · rw [if_neg (by simp only [Bool.and_eq_true, decide_eq_true_eq]; omega), if_neg hend]
    rfl

/-- Settles O39: the words of a TABLE_WRITE are those its bytes spell, written one after the other. -/
theorem tableWriteStoresWords : Obligations.TableWriteStoresWords := by
  intro s index words hs hindex hlow hhigh c quiet
  have hc : c = _ := execTableWrite_words hs hindex hlow hhigh
  have hquiet : allSlots.all s.quiet = true ↔ ∀ i, quiet i := by
    simp only [List.all_eq_true, mem_allSlots, true_implies, State.quiet_iff, quiet]
  refine ⟨fun hend => ?_, fun hend hbusy => ?_, fun hend hall hwf => ?_⟩
  · rw [hc, if_neg (by omega)]
    rfl
  · rw [hc, if_pos hend, if_neg (mt hquiet.mp hbusy)]
    rfl
  · rw [if_pos hend, if_pos (hquiet.mpr hall)] at hc
    obtain ⟨hwords, hothers⟩ := readTableWord_written hwf index words
    exact ⟨_, hc, wf_writeTableWords _ _ hwf, hwords, hothers, rfl⟩

/-! ## Window records (R46, R47, Table 12-3) -/

theorem Anchor.ofCode_eq_some {n : Nat} {a : Anchor} : Anchor.ofCode n = some a ↔ a.code = n := by
  unfold Anchor.ofCode
  cases a <;> split <;> simp_all [Anchor.code, eq_comm]

theorem WindowAction.ofCode_eq_some {n : Nat} {a : WindowAction} : WindowAction.ofCode n = some a ↔ a.code = n := by
  unfold WindowAction.ofCode
  cases a <;> split <;> simp_all [WindowAction.code, eq_comm]

theorem PatternKind.ofCode_eq_some {n : Nat} {k : PatternKind} : PatternKind.ofCode n = some k ↔ k.code = n := by
  unfold PatternKind.ofCode
  cases k <;> split <;> simp_all [PatternKind.code, eq_comm]

theorem Anchor.exists_code {n : Nat} : (∃ a : Anchor, a.code = n) ↔ n ≤ 1 := by
  constructor
  · rintro ⟨a, rfl⟩; cases a <;> decide
  · intro h
    interval_cases n
    · exact ⟨.fromStart, rfl⟩
    · exact ⟨.fromEnd, rfl⟩

theorem WindowAction.exists_code {n : Nat} : (∃ a : WindowAction, a.code = n) ↔ n ≤ 3 := by
  constructor
  · rintro ⟨a, rfl⟩; cases a <;> decide
  · intro h
    interval_cases n
    · exact ⟨.test, rfl⟩
    · exact ⟨.verify, rfl⟩
    · exact ⟨.record, rfl⟩
    · exact ⟨.exclude, rfl⟩

theorem PatternKind.exists_code {n : Nat} : (∃ k : PatternKind, k.code = n) ↔ n ≤ 2 := by
  constructor
  · rintro ⟨k, rfl⟩; cases k <;> decide
  · intro h
    interval_cases n
    · exact ⟨.stamp, rfl⟩
    · exact ⟨.fill, rfl⟩
    · exact ⟨.table, rfl⟩

/-- The anchor, action and kind codes of a window record name values (R47). -/
def RawWindow.Named (r : RawWindow) : Prop := r.anchor.toNat ≤ 1 ∧ r.action.toNat ≤ 3 ∧ r.kind.toNat ≤ 2

/-- A window holds a record with the clamping of R47. -/
structure RawWindow.StoredAs (r : RawWindow) (w : Window) : Prop where
  enabled : w.enabled = flagArg r.enabled
  mask : w.mask = r.mask
  anchor : w.anchor.code = r.anchor.toNat
  action : w.action.code = r.action.toNat
  kind : w.kind.code = r.kind.toNat
  fill : w.fill = r.fill
  base : w.base = r.base
  length : w.length = max 1 r.length
  tableStart : w.tableStart = clampTableStart r.tableStart
  tableLength : w.tableLength = clampTableLength (clampTableStart r.tableStart) r.tableLength

/-- A record whose codes name values is stored clamped, another one is not stored (R47). -/
theorem RawWindow.stored_cases (r : RawWindow) :
    (r.Named ∧ ∃ w, r.stored = some w ∧ r.StoredAs w) ∨ (¬r.Named ∧ r.stored = none) := by
  unfold RawWindow.Named RawWindow.stored
  rw [← Anchor.exists_code, ← WindowAction.exists_code, ← PatternKind.exists_code]
  simp only [← Anchor.ofCode_eq_some, ← WindowAction.ofCode_eq_some, ← PatternKind.ofCode_eq_some]
  cases han : Anchor.ofCode r.anchor.toNat with
  | none => exact .inr ⟨fun ⟨⟨_, h⟩, _⟩ => (nomatch h), rfl⟩
  | some an =>
    cases hac : WindowAction.ofCode r.action.toNat with
    | none => exact .inr ⟨fun ⟨_, ⟨_, h⟩, _⟩ => (nomatch h), rfl⟩
    | some ac =>
      cases hki : PatternKind.ofCode r.kind.toNat with
      | none => exact .inr ⟨fun ⟨_, _, _, h⟩ => (nomatch h), rfl⟩
      | some ki =>
        exact .inl ⟨⟨⟨an, rfl⟩, ⟨ac, rfl⟩, ⟨ki, rfl⟩⟩, _, rfl, rfl, rfl, Anchor.ofCode_eq_some.mp han,
          WindowAction.ofCode_eq_some.mp hac, PatternKind.ofCode_eq_some.mp hki, rfl, rfl, rfl, rfl, rfl⟩

/-- The fields of the 22 bytes of a window record (Table 12-3). -/
theorem RawWindow.parse_record (en mask an ac ki fill : Byte) {base len start tlen : Nat} (hb : base < 2 ^ 48) (hl : len < 2 ^ 48)
    (hs : start < 65536) (ht : tlen < 65536) :
    RawWindow.parse ([en, mask, an, ac, ki, fill] ++ le 6 base ++ le 6 len ++ le 2 start ++ le 2 tlen) =
      some { enabled := en, mask := mask, anchor := an, action := ac, kind := ki, fill := fill, base := base, length := len
             tableStart := start, tableLength := tlen } := by
  have hparse : RawWindow.parse ([en, mask, an, ac, ki, fill] ++ le 6 base ++ le 6 len ++ le 2 start ++ le 2 tlen) =
      some { enabled := en, mask := mask, anchor := an, action := ac, kind := ki, fill := fill, base := fromLe (le 6 base)
             length := fromLe (le 6 len), tableStart := fromLe (le 2 start), tableLength := fromLe (le 2 tlen) } := rfl
  rw [hparse, fromLe_le_of_lt hb, fromLe_le_of_lt hl, fromLe_le_of_lt hs, fromLe_le_of_lt ht]

theorem RawWindow.parse_isSome {bytes : List Byte} (h : bytes.length = 22) : (RawWindow.parse bytes).isSome = true := by
  match bytes, h with
  | [_, _, _, _, _, _, _, _, _, _, _, _, _, _, _, _, _, _, _, _, _, _], _ => rfl

theorem le_one_toNat (b : Byte) : le 1 b.toNat = [b] := by simp [le]

/-- The 22 bytes of a stored window: the record's, clamped (R47, Table 12-3). -/
theorem RawWindow.StoredAs.bytes {r : RawWindow} {w : Window} (h : r.StoredAs w) : w.bytes =
    [flagByte (r.enabled != 0#8), r.mask, r.anchor, r.action, r.kind, r.fill] ++
      (le 6 r.base ++ le 6 (max 1 r.length) ++ le 2 (clampTableStart r.tableStart) ++
        le 2 (clampTableLength (clampTableStart r.tableStart) r.tableLength)) := by
  obtain ⟨hen, hmask, han, hac, hki, hfill, hbase, hlength, hstart, htlen⟩ := h
  unfold Window.bytes
  rw [hen, hmask, han, hac, hki, hfill, hbase, hlength, hstart, htlen, le_one_toNat, le_one_toNat, le_one_toNat]
  rfl

/-- A record is marked clamped where its length is 0 or a table field is out of range (R47). -/
theorem RawWindow.StoredAs.clamped {r : RawWindow} {w : Window} (h : r.StoredAs w) : r.clamped w =
    (r.length = 0 || clampTableStart r.tableStart != r.tableStart ||
      clampTableLength (clampTableStart r.tableStart) r.tableLength != r.tableLength) := by
  have hlength : (max 1 r.length != r.length) = decide (r.length = 0) := by
    rw [Bool.eq_iff_iff]
    simp only [bne_iff_ne, ne_eq, decide_eq_true_eq]
    omega
  unfold RawWindow.clamped
  rw [h.length, h.tableStart, h.tableLength, hlength]

/-! ## WINDOW_WRITE (R47, R56, R154) -/

/-- A held ship that a window edit reaches starts again with an empty ship state (R154). -/
theorem SlotRecord.shipRestarted_held {r : SlotRecord} {m th : Bool} (h : r.phase = .hold .ship m th) (fill : Byte) :
    r.shipRestarted fill = { r with ship := ShipState.emptied fill } := by
  unfold SlotRecord.shipRestarted; rw [h]

theorem SlotRecord.shipRestarted_other {r : SlotRecord} (h : ∀ m th, r.phase ≠ .hold .ship m th) (fill : Byte) :
    r.shipRestarted fill = r := by
  unfold SlotRecord.shipRestarted
  split
  case h_1 m th hp => exact absurd hp (h m th)
  all_goals rfl

/-- A window replaced changes the window table and slot records alone (R56). -/
theorem State.replaceWindow_apart (s : State) (n : Fin 16) (w : Window) :
    s.replaceWindow n w = { s with windows := s.windows.set n w, slots := (s.replaceWindow n w).slots } := by
  refine State.forSlots_induct (P := fun u => u = { s with windows := s.windows.set n w, slots := u.slots }) (fun u i hu => ?_) _ rfl
  split
  · rw [hu]; rfl
  · exact hu

/-- A window replaced restarts the held ships of its old and its new mask (R154). -/
theorem State.slot_replaceWindow (s : State) (n : Fin 16) (w : Window) (i : SlotId) : (s.replaceWindow n w).slot i =
    if (s.windows[n].mask ||| w.mask).getLsbD i.val then (s.slot i).shipRestarted s.profile.shipFill else s.slot i := by
  have hattended := State.forSlots_attended (s := { s with windows := s.windows.set n w })
    (g := fun i r => (if (s.windows[n].mask ||| w.mask).getLsbD i.val then r.shipRestarted s.profile.shipFill else r, false))
    (f := fun u i => if (s.windows[n].mask ||| w.mask).getLsbD i.val then u.modSlot i (·.shipRestarted u.profile.shipFill) else u)
    (fun u i hu => by
      split
      · rw [hu.profile]; rfl
      · exact (u.attend_kept i).symm)
  exact hattended.slot_all i

theorem State.allQuiet_iff (s : State) (mask : BitVec 8) :
    s.allQuiet mask = true ↔ ∀ i : SlotId, mask.getLsbD i.val = true → s.quiet i = true := by
  simp only [State.allQuiet, List.all_eq_true, mem_allSlots, true_implies, Bool.or_eq_true, Bool.not_eq_true', ← Bool.not_eq_true]
  exact forall_congr' fun i => imp_iff_not_or.symm

/-- The rule of WINDOW_WRITE on a record (R47, R56). -/
theorem execWindowWrite_record {s : State} (hs : s.ready) {n : Fin 16} {bytes : List Byte} {raw : RawWindow}
    (hraw : RawWindow.parse bytes = some raw) : execWindowWrite (sixteenByte n :: bytes) s =
      .next (match raw.stored with
        | none => s.answer .range []
        | some w =>
          if s.allQuiet (s.windows[n].mask ||| w.mask) then
            (s.replaceWindow n w).answer .ok (w.bytes ++ [flagByte (raw.clamped w)])
          else s.answer .busy []) := by
  refine congrArg Host.Outcome.next ?_
  rw [s.command_ready _ hs.1 hs.2]
  simp only [hraw, sixteenByte, sixteenArg_ofNat]
  cases raw.stored with
  | none => rfl
  | some w => dsimp only; split <;> rfl

/-! ## WINDOW_READ (R57, Table 12-3) -/

theorem hasField_of_append {p a b c : List Byte} {off : Nat} (h : p = a ++ (b ++ c)) (ha : a.length = off) : hasField p off b := by
  subst h ha
  unfold hasField
  rw [List.drop_left, List.take_left]

@[simp] theorem Window.bytes_length (w : Window) : w.bytes.length = 22 := by simp [Window.bytes]

/-- The rule of WINDOW_READ (R57). -/
theorem execWindowRead_named {s : State} (hs : s.ready) (n : Fin 16) (i : SlotId) :
    execWindowRead [sixteenByte n, slotByte i] s = .next (s.answer .ok (s.windowPayload n i)) := by
  refine congrArg Host.Outcome.next (State.command_ok hs ?_)
  simp only [sixteenByte, slotByte, sixteenArg_ofNat, slotArg_ofNat]

/-- The flags byte and the resolved range of a WINDOW_READ payload, after the 22 bytes of the window (Table 12-3). -/
theorem State.windowPayload_eq (s : State) (n : Fin 16) (i : SlotId) : s.windowPayload n i = s.windows[n].bytes ++
    (le 1 (bit (s.windows[n].resolve (s.slot i).identity).isSome +
        2 * bit (recordWindow s.windows i (s.slot i).identity == some n)) ++
      (le 6 ((s.windows[n].resolve (s.slot i).identity).getD (0, 0)).1 ++
        le 6 ((s.windows[n].resolve (s.slot i).identity).getD (0, 0)).2)) := by
  simp only [State.windowPayload, List.append_assoc]
  rfl

/-- An END window resolves within a valid capacity that its base does not pass, and to nothing elsewhere (R48). -/
theorem Window.resolve_fromEnd {w : Window} (h : w.anchor = .fromEnd) (id : Identity) :
    w.resolve id = if id.valid = true ∧ 1 ≤ w.base ∧ w.base ≤ id.capacity then
      some (id.capacity - w.base, min (id.capacity - w.base + w.length - 1) (id.capacity - 1)) else none := by
  unfold Window.resolve
  rw [h]
  simp only [Bool.and_eq_true, decide_eq_true_eq, and_assoc]

/-- The resolved range of a window that matches something, in a WINDOW_READ payload (R57). -/
theorem State.windowPayload_resolved {s : State} {n : Fin 16} {i : SlotId} {first last : Nat}
    (h : s.windows[n].resolve (s.slot i).identity = some (first, last)) :
    hasField (s.windowPayload n i) 23 (le 6 first ++ le 6 last) := by
  refine hasField_of_append
    (a := s.windows[n].bytes ++ le 1 (bit true + 2 * bit (recordWindow s.windows i (s.slot i).identity == some n))) (c := []) ?_ (by simp)
  rw [s.windowPayload_eq n i, h]
  simp only [List.append_assoc]
  rfl

/-- Settles O38: WINDOW_WRITE by the record's clamping and the restart of held ships, WINDOW_READ by the layout of its payload. -/
theorem windowWriteAndRead : Obligations.WindowWriteAndRead := by
  refine ⟨?_, ?_, ?_, ?_⟩
  · intro s n en mask an ac ki fill base len start tlen hs hb hl hst ht record c start' tlen' quiet reached valid
    have hparse := RawWindow.parse_record en mask an ac ki fill hb hl hst ht
    have hc : c = _ := execWindowWrite_record (n := n) hs hparse
    have hquiet (w : Window) (hw : w.mask = mask) :
        s.allQuiet (s.windows[n].mask ||| w.mask) = true ↔ ∀ i, reached i → quiet i := by
      rw [State.allQuiet_iff, hw]
      simp only [BitVec.getLsbD_or, Bool.or_eq_true, State.quiet_iff]
      rfl
    obtain ⟨hvalid, w, hw, hstored⟩ | ⟨hinvalid, hnone⟩ := RawWindow.stored_cases
      { enabled := en, mask := mask, anchor := an, action := ac, kind := ki, fill := fill, base := base, length := len
        tableStart := start, tableLength := tlen }
    · rw [hw] at hc
      refine ⟨fun h => absurd hvalid h, fun _ hbusy => ?_, fun _ hall => ?_⟩
      · exact hc.trans (congrArg Host.Outcome.next (if_neg (mt (hquiet w hstored.mask).mp hbusy)))
      · have hc := hc.trans (congrArg Host.Outcome.next (if_pos ((hquiet w hstored.mask).mpr hall)))
        have hslot := s.slot_replaceWindow n w
        have hreached (i : SlotId) : (s.windows[n].mask ||| w.mask).getLsbD i.val = true ↔ reached i := by
          rw [hstored.mask, BitVec.getLsbD_or, Bool.or_eq_true]
        refine ⟨_, w, hc, ?_, hstored.bytes, ⟨hstored.enabled, hstored.mask, hstored.fill, hstored.base, hstored.length,
          hstored.tableStart, hstored.tableLength⟩, ?_, fun i hi => ?_, fun i hi => ?_, ?_⟩
        · rw [State.answer_windows, s.replaceWindow_apart n w]
        · rw [hstored.clamped]
          rfl
        · obtain ⟨hr, m, th, hp⟩ := hi
          refine (hslot i).trans ((if_pos ((hreached i).mpr hr)).trans ?_)
          exact SlotRecord.shipRestarted_held hp _
        · refine (hslot i).trans ?_
          split
          · rename_i hr
            exact SlotRecord.shipRestarted_other (fun m th hp => hi ⟨(hreached i).mp hr, m, th, hp⟩) _
          · rfl
        · rw [s.replaceWindow_apart n w]
          rfl
    · rw [hnone] at hc
      exact ⟨fun _ => hc, fun h => absurd h hinvalid, fun h => absurd h hinvalid⟩
  · intro s b record hs hb hlen
    refine congrArg Host.Outcome.next (State.command_no hs ?_)
    obtain ⟨raw, hraw⟩ := Option.isSome_iff_exists.mp (RawWindow.parse_isSome hlen)
    simp only [hraw, (sixteenArg_eq_none b).mpr hb]
  · intro s a b hs hab
    refine congrArg Host.Outcome.next (State.command_no hs ?_)
    obtain ha | hb := hab
    · simp only [(sixteenArg_eq_none a).mpr ha]
    · simp only [(slotArg_eq_none b).mpr hb]
      cases sixteenArg a <;> rfl
  · intro s n i hs w
    have hpayload := s.windowPayload_eq n i
    refine ⟨_, execWindowRead_named hs n i, rfl, rfl, hasField_of_append (a := []) hpayload rfl,
      hasField_of_append hpayload w.bytes_length, fun ha => State.windowPayload_resolved (Window.resolve_fromStart ha _),
      fun ha => ⟨fun hno => ?_, fun hv hlow hhigh =>
        State.windowPayload_resolved ((Window.resolve_fromEnd ha _).trans (if_pos ⟨hv, hlow, hhigh⟩))⟩⟩
    rw [show s.windows[n].resolve (s.slot i).identity = none from (Window.resolve_fromEnd ha _).trans (if_neg hno)] at hpayload
    refine hasField_of_append (c := []) (hpayload.trans ?_) w.bytes_length
    simp only [Option.isSome_none, bit, Bool.false_eq_true, if_false, Nat.zero_add, Option.getD_none, List.append_assoc]
    rfl

end Sys2Proof.Machine
end

section
/-!
A whole sector of a followed command issued in SHIP: ship fill and record sectors, written and read (R53 to R55, R65, R66, R73, R74,
R147 to R151), and the layout of the ship record (Table 12-8).
-/
namespace Sys2Proof.Machine

/-! ## The bytes of words -/

theorem SectorSize.bytes_eq (z : SectorSize) : z.bytes = 4 * z.words := by cases z <;> rfl

theorem le_wordOf (b3 b2 b1 b0 : Byte) : le 4 (b3 ++ b2 ++ b1 ++ b0).toNat = [b0, b1, b2, b3] := by
  have hnat : (b3 ++ b2 ++ b1 ++ b0).toNat = ((b3.toNat * 256 + b2.toNat) * 256 + b1.toNat) * 256 + b0.toNat := by
    rw [toNat_append_byte, toNat_append_byte, toNat_append_byte]
  have hbyte (b : Byte) (n : Nat) : BitVec.ofNat 8 (n * 256 + b.toNat) = b :=
    BitVec.eq_of_toNat_eq (by rw [BitVec.toNat_ofNat]; omega)
  have hrest (b : Byte) (n : Nat) : (n * 256 + b.toNat) / 256 = n := by omega
  rw [hnat]
  simp only [le, hbyte, hrest, BitVec.ofNat_toNat, BitVec.setWidth_eq]

/-- Whole words of bytes spell them. -/
theorem bytesOf_wordsOf : ∀ {bs : List Byte}, 4 ∣ bs.length → bytesOf (wordsOf bs) = bs
  | b0 :: b1 :: b2 :: b3 :: bs, h => by
    have hrest : 4 ∣ bs.length := by simp only [List.length_cons] at h; omega
    rw [wordsOf, bytesOf, List.flatMap_cons, le_wordOf]
    exact congrArg _ (bytesOf_wordsOf hrest)
  | [], _ => rfl
  | [_], h | [_, _], h | [_, _, _], h => by simp at h

theorem wordsOf_inj {a b : List Byte} (ha : 4 ∣ a.length) (hb : 4 ∣ b.length) : wordsOf a = wordsOf b ↔ a = b :=
  ⟨fun h => by rw [← bytesOf_wordsOf ha, h, bytesOf_wordsOf hb], congrArg wordsOf⟩

theorem le_four_getD (x : Word32) {k : Nat} (h : k < 4) : (le 4 x.toNat).getD k 0#8 = x.extractLsb' (8 * k) 8 := by
  have hbyte (n : Nat) : x.extractLsb' n 8 = BitVec.ofNat 8 (x.toNat / 2 ^ n) :=
    BitVec.eq_of_toNat_eq (by simp [Nat.shiftRight_eq_div_pow])
  rw [hbyte]
  interval_cases k <;> simp [le, Nat.div_div_eq_div_mul]

/-- Byte `n` of words is in word n / 4. -/
theorem bytesOf_getD (words : List Word32) : ∀ n : Nat,
    (bytesOf words).getD n 0#8 = (words.getD (n / 4) 0#32).extractLsb' (8 * (n % 4)) 8 := by
  induction words with
  | nil => intro n; simp [bytesOf]
  | cons x words ih =>
    intro n
    rw [bytesOf, List.flatMap_cons]
    by_cases h : n < 4
    · rw [List.getD_append _ _ _ _ (by rw [le_length]; exact h), le_four_getD x h, Nat.div_eq_of_lt h, Nat.mod_eq_of_lt h]
      rfl
    · obtain ⟨m, rfl⟩ : ∃ m, n = m + 4 := ⟨n - 4, by omega⟩
      rw [List.getD_append_right _ _ _ _ (by rw [le_length]; omega), le_length, Nat.add_sub_cancel, Nat.add_mod_right,
        Nat.add_div_right _ (by decide), List.getD_cons_succ]
      exact ih m

/-- An image that spells bytes is sent as those bytes (R65). -/
theorem Image.map_byteAt {img : Image} {table : List Host.Cell} {z : SectorSize} {content : List Byte}
    (h : img.words table z.words = wordsOf content) (hl : content.length = z.bytes) (k : Nat) (hk : k = 0) :
    (List.range z.bytes).map (fun n => img.byteAt table z.words (k + n)) = content := by
  subst hk
  have hwhole : 4 ∣ content.length := by rw [hl, z.bytes_eq]; exact Nat.dvd_mul_right 4 _
  refine List.ext_getElem (by simp [hl]) fun n hn hc => ?_
  rw [List.getElem_map, List.getElem_range, Nat.zero_add, Image.byteAt, h, ← bytesOf_getD, bytesOf_wordsOf hwhole,
    List.getD_eq_getElem _ _ hc]

/-! ## The images of SHIP (R53 to R55, R148, R149) -/

theorem wordsOf_replicate (b : Byte) : ∀ n : Nat, wordsOf (List.replicate (4 * n) b) = List.replicate n (repeatedByte b)
  | 0 => rfl
  | n + 1 => congrArg (repeatedByte b :: ·) (wordsOf_replicate b n)

theorem shipFill_words (table : List Host.Cell) (z : SectorSize) (fill : Byte) :
    (Image.shipFill fill).words table z.words = wordsOf (List.replicate z.bytes fill) := by
  rw [z.bytes_eq, wordsOf_replicate]
  rfl

/-- A record sector: the bytes of the ship record from mS on, and the pad byte after its end (R149). -/
theorem recordSector_eq (z : SectorSize) (r : SlotRecord) (m : Nat) : recordSector z r m =
    (List.range z.bytes).map (fun k => (shipRecord r).getD (m * z.bytes + k) r.ship.padByte) := by
  unfold recordSector padTo
  refine List.ext_getElem (by simp) fun n hn hk => ?_
  have hn : n < z.bytes := by simpa using hk
  rw [List.getElem_take, List.getElem_map, List.getElem_range, List.getD_eq_getElem?_getD, ← List.getElem?_drop]
  by_cases h : n < ((shipRecord r).drop (m * z.bytes)).length
  · rw [List.getElem_append_left h, List.getElem?_eq_getElem h]
    rfl
  · rw [List.getElem_append_right (by omega), List.getElem_replicate, List.getElem?_eq_none (by omega)]
    rfl

theorem recordSector_length (z : SectorSize) (r : SlotRecord) (m : Nat) : (recordSector z r m).length = z.bytes := by
  rw [recordSector_eq]; simp

/-- The number of record sectors as R148 gives it. -/
theorem recordSectorCount_eq (z : SectorSize) (e : Nat) :
    recordSectorCount z e = (64 + 16 * e + 4 + (z.bytes - 1)) / z.bytes := by
  unfold recordSectorCount shipRecordLength
  cases z <;> rfl

/-- The record region of a slot is the resolved range of its record window (R53). -/
theorem recordRegion_of_own {ws : Vector Window 16} {i : SlotId} {id : Identity} {k : Fin 16} {range : Nat × Nat}
    (hk : recordWindow ws i id = some k) (hr : ws[k].resolve id = some range) :
    ws[k].action = .record ∧ recordRegion ws i id = some range := by
  obtain ⟨htest, -⟩ := lowestWindow_eq_some.mp hk
  obtain ⟨first, last, he, hm, ha, -⟩ := (Window.recordTest_iff _ i id).mp htest
  refine ⟨ha, ?_⟩
  rw [recordRegion, hk]
  exact Window.coverage_eq_some.mpr ⟨he, hm, hr⟩

/-- Outside the record window, and in no EXCLUDE window, a sector of SHIP is ship fill (R54, Table 3-4). -/
theorem shipAction_outside {ws : Vector Window 16} {i : SlotId} {r : SlotRecord} {lba : Nat}
    (h : matchingWindow ws i r.identity lba = none ∨ ∃ k, matchingWindow ws i r.identity lba = some k ∧
      recordWindow ws i r.identity ≠ some k ∧ ws[k].action ≠ .exclude) (z : SectorSize) (fill : Byte) (writes : Bool) :
    shipAction ws z i r fill writes lba = actionOn writes (.shipFill fill) := by
  unfold shipAction
  obtain h | ⟨k, h, hown, haction⟩ := h <;> rw [h]
  dsimp only
  split
  case h_3 ha => exact absurd ha haction
  case h_4 => exact if_neg hown
  all_goals rfl

/-- In the record window a sector of SHIP is the one at its offset in the record region (R53, R54). -/
theorem shipAction_inside {ws : Vector Window 16} {i : SlotId} {r : SlotRecord} {lba first last m : Nat} {k : Fin 16}
    (hmatch : matchingWindow ws i r.identity lba = some k) (hown : recordWindow ws i r.identity = some k)
    (hr : ws[k].resolve r.identity = some (first, last)) (hm : lba = first + m) (z : SectorSize) (fill : Byte) (writes : Bool) :
    shipAction ws z i r fill writes lba = actionOn writes (recordImage z r fill m) := by
  obtain ⟨haction, hregion⟩ := recordRegion_of_own hown hr
  unfold shipAction
  rw [hmatch]
  dsimp only
  rw [haction]
  dsimp only
  rw [if_pos hown, hregion, hm, Option.getD_some, Nat.add_sub_cancel_left]

/-! ## A whole sector of a command issued in SHIP -/

/-- A frame that carries exactly the next whole sector of a followed command issued in SHIP (R24, R29). -/
structure State.ShipFrame (s : State) (i : SlotId) (f : DataFrame) (e : EntryId) (x : TagEntry) : Prop where
  followed : s.bypassed i = false
  length : f.bytes.length = s.sectorSize.bytes
  position : (s.lane i).position = some { entry := e, offset := x.done * s.sectorSize.bytes }
  entry : (s.lane i).entry e = some x
  tracked : x.untracked = false
  within : x.done < x.count
  issue : x.issuePhase = .ship
  lba : x.lba + x.done < 2 ^ 48

/-- The sector is done, with the entry's error sectors and the slot's ship state given; nothing else changes (R30). -/
def State.ShipSectorDone (s t : State) (i : SlotId) (e : EntryId) (x : TagEntry) (errors : Nat) (ship : ShipState) : Prop :=
  (t.lane i).entry e = some { x with done := x.done + 1, errorSectors := errors } ∧
    (∀ d, d ≠ e → (t.lane i).entry d = (s.lane i).entry d) ∧ (t.lane i).upstream = (s.lane i).upstream ∧
    (t.lane i).position = some { entry := e, offset := (x.done + 1) * s.sectorSize.bytes } ∧ (t.lane i).sector = none ∧
    (∀ j, j ≠ i → t.slot j = s.slot j ∧ t.lane j = s.lane j) ∧ t.slot i = { s.slot i with ship := ship } ∧
    t = { s with slots := t.slots, lanes := t.lanes }

/-- The image of the sector, and the bytes it spells (R51, Table 3-4). -/
structure State.ShipImage (s : State) (i : SlotId) (x : TagEntry) (img : Image) (content : List Byte) : Prop where
  action : shipAction s.windows s.sectorSize i (s.slot i) s.profile.shipFill x.cls.writes (x.lba + x.done) =
    actionOn x.cls.writes img
  words : img.words s.patternTable s.sectorSize.words = wordsOf content
  length : content.length = s.sectorSize.bytes

theorem State.ShipFrame.begun {s : State} {i : SlotId} {f : DataFrame} {e : EntryId} {x : TagEntry} (h : s.ShipFrame i f e x)
    {img : Image} {content : List Byte} (him : s.ShipImage i x img content) :
    s.begun i e x (x.done * s.sectorSize.bytes) = some (.fresh e x.done (x.lba + x.done) x.cls.writes img) := by
  rw [State.begun_first s i e h.lba]
  unfold sectorAction
  simp only [h.issue, sectorLba_of_lt h.lba, him.action, actionOn]
  cases x.cls.writes <;> rfl

/-- A sector of SHIP written: the image's bytes go to the drive, and count with a correct check (R65, R73). -/
theorem State.ShipFrame.written {s : State} {i : SlotId} {f : DataFrame} {e : EntryId} {x : TagEntry} (h : s.ShipFrame i f e x)
    {img : Image} {content : List Byte} (him : s.ShipImage i x img content) (hd : f.direction = .toDrive)
    (hc : x.cls = .qwrite ∨ x.cls = .write) : ∃ t, exec (.dataFrame i f) s = .next t ∧
      (t.lane i).toDrive = [.data content (if f.checkGood then .computed else .inverted)] ∧ (t.lane i).toServer = [] ∧
      (f.checkGood = true ∧ (s.slot i).phase ≠ .empty ∧ (s.slot i).phase ≠ .idle →
        s.ShipSectorDone t i e x x.errorSectors ((s.slot i).ship.sent img)) ∧
      (¬(f.checkGood = true ∧ (s.slot i).phase ≠ .empty ∧ (s.slot i).phase ≠ .idle) →
        s.ShipSectorDone t i e x x.errorSectors (s.slot i).ship) := by
  have hbegun := h.begun him
  rw [CommandClass.writes_of_write hc] at hbegun
  have hgrown := congrArg (Option.map (·.takeAll f.checkGood f.bytes)) hbegun
  have hstart : x.done * s.sectorSize.bytes % s.sectorSize.bytes + f.bytes.length = s.sectorSize.bytes := by
    rw [Nat.mul_mod_left, h.length, Nat.zero_add]
  obtain ⟨t, sent, hrun, hframe, -, himage, hposition, hupstream, hentries, hothers, -, hend⟩ :=
    sectorInProgressFollowed s i f e x (x.done * s.sectorSize.bytes) h.followed (DataFrame_wf_of_sector h.length) h.position h.entry
      h.tracked (.inl ⟨hd, hc⟩) (by rw [Nat.mul_div_cancel _ s.sectorSize.bytes_pos]; exact h.within) (Nat.le_of_eq hstart)
  obtain ⟨hsector, hwrong, hcounted, -⟩ := hend hstart
  obtain ⟨hsent, hserver⟩ := hframe.1 hd
  have hsent : (t.lane i).toDrive = [.data sent (if (s.begun i e x (x.done * s.sectorSize.bytes)).any (·.substitutes) then
      (if f.checkGood then .computed else .inverted) else .original f.checkGood)] := hsent
  have hcontent : sent = content := by
    rw [himage _ hbegun rfl, h.length]
    exact Image.map_byteAt him.words him.length _ rfl
  rw [h.length, ← Nat.succ_mul] at hposition
  refine ⟨t, hrun, by rw [hsent, hbegun, hcontent]; rfl, hserver, fun ⟨hgood, hcounts⟩ => ?_, fun hnot => ?_⟩
  · obtain ⟨hentry, -, hship, -, ht⟩ := hcounted _ hgrown hgood rfl
    exact ⟨hentry, hentries, hupstream, hposition, hsector, hothers, hship hcounts h.issue, ht⟩
  · have hkept : (t.lane i).entry e = some { x with done := x.done + 1 } ∧ t.slot i = s.slot i ∧
        t = { s with slots := t.slots, lanes := t.lanes } := by
      cases hgood : f.checkGood with
      | false =>
        obtain ⟨hentry, ht⟩ := hwrong (.inr ⟨_, hgrown, hgood⟩)
        exact ⟨hentry, by rw [ht]; rfl, by rw [ht]⟩
      | true =>
        obtain ⟨hentry, -, -, hnone, ht⟩ := hcounted _ hgrown hgood rfl
        exact ⟨hentry, hnone (.inl fun hcounts => hnot ⟨hgood, hcounts⟩), ht⟩
    obtain ⟨hentry, hslot, ht⟩ := hkept
    exact ⟨hentry, hentries, hupstream, hposition, hsector, hothers, hslot, ht⟩

/-- A sector matches exactly where its words are the image's (R66). -/
theorem classify_isMatch_iff (table : List Host.Cell) (w reach : Nat) (img : Image) (received : List Word32) :
    classify table w reach img received = .isMatch ↔ received = img.words table w := by
  unfold classify
  split
  · rename_i h
    exact ⟨fun _ => h, fun _ => rfl⟩
  · rename_i h
    refine ⟨fun hm => ?_, fun hm => absurd hm h⟩
    split at hm
    case h_1 =>
      unfold classifyStamp at hm
      dsimp only at hm
      split_ifs at hm
      cases hm
    all_goals cases hm

/-- A sector of SHIP read with a correct check: it goes on unaltered, and counts by its comparison with the image (R66, R74). -/
theorem State.ShipFrame.read {s : State} {i : SlotId} {f : DataFrame} {e : EntryId} {x : TagEntry} (h : s.ShipFrame i f e x)
    {img : Image} {content : List Byte} (him : s.ShipImage i x img content) (hd : f.direction = .toServer) (hgood : f.checkGood = true)
    (hc : x.cls = .qread ∨ x.cls = .read) : ∃ t, exec (.dataFrame i f) s = .next t ∧
      (t.lane i).toServer = [.data f.bytes (.original true)] ∧ (t.lane i).toDrive = [] ∧
      (f.bytes = content → s.ShipSectorDone t i e x x.errorSectors
        (if (s.slot i).phase.name = .empty ∨ (s.slot i).phase.name = .idle then (s.slot i).ship else (s.slot i).ship.checked img true)) ∧
      (f.bytes ≠ content → s.ShipSectorDone t i e x (min (x.errorSectors + 1) 65535)
        (if (s.slot i).phase.name = .empty ∨ (s.slot i).phase.name = .idle then (s.slot i).ship
          else (s.slot i).ship.checked img false)) := by
  have hbegun := h.begun him
  rw [CommandClass.writes_of_read hc] at hbegun
  have hgrown : (s.begun i e x (x.done * s.sectorSize.bytes)).map (·.takeAll f.checkGood f.bytes) =
      some ((SectorInProgress.fresh e x.done (x.lba + x.done) false img).takeAll f.checkGood f.bytes) := by rw [hbegun]; rfl
  have hstart : x.done * s.sectorSize.bytes % s.sectorSize.bytes + f.bytes.length = s.sectorSize.bytes := by
    rw [Nat.mul_mod_left, h.length, Nat.zero_add]
  obtain ⟨t, sent, hrun, hframe, hunaltered, -, hposition, hupstream, hentries, hothers, -, hend⟩ :=
    sectorInProgressFollowed s i f e x (x.done * s.sectorSize.bytes) h.followed (DataFrame_wf_of_sector h.length) h.position h.entry
      h.tracked (.inr ⟨hd, hc⟩) (by rw [Nat.mul_div_cancel _ s.sectorSize.bytes_pos]; exact h.within) (Nat.le_of_eq hstart)
  obtain ⟨hsector, -, -, hchecked⟩ := hend hstart
  obtain ⟨hentry, -, hship, -⟩ := hchecked _ hgrown hgood rfl
  obtain ⟨hslot, ht⟩ := hship h.issue
  have hunsubstituted : (s.begun i e x (x.done * s.sectorSize.bytes)).any (·.substitutes) = false := by rw [hbegun]; rfl
  obtain ⟨hserver, hdrive⟩ := hframe.2 hd
  have hserver : (t.lane i).toServer = [.data sent (if (s.begun i e x (x.done * s.sectorSize.bytes)).any (·.substitutes) then
      (if f.checkGood then .computed else .inverted) else .original f.checkGood)] := hserver
  rw [h.length, ← Nat.succ_mul] at hposition
  have hdvd : 4 ∣ s.sectorSize.bytes := by rw [SectorSize.bytes_eq]; exact Nat.dvd_mul_right 4 _
  generalize hy : (SectorInProgress.fresh e x.done (x.lba + x.done) false img).takeAll f.checkGood f.bytes = y at *
  have himg : y.image = img := by rw [← hy]; rfl
  have hmatch : s.resultOf y = .isMatch ↔ f.bytes = content := by
    rw [← hy]
    refine (classify_isMatch_iff ..).trans ?_
    show wordsOf f.bytes = img.words _ _ ↔ _
    rw [him.words, wordsOf_inj (by rwa [h.length]) (by rwa [him.length])]
  have hname : (s.slot i).phase.name = .empty ∨ (s.slot i).phase.name = .idle ↔
      (s.slot i).phase = .empty ∨ (s.slot i).phase = .idle := by
    cases (s.slot i).phase <;> simp [Phase.name]
  have hcounted (q : ShipState) : (if (s.slot i).phase = .empty ∨ (s.slot i).phase = .idle then s.slot i
      else { s.slot i with ship := q }) = { s.slot i with
        ship := if (s.slot i).phase.name = .empty ∨ (s.slot i).phase.name = .idle then (s.slot i).ship else q } := by
    by_cases hn : (s.slot i).phase.name = .empty ∨ (s.slot i).phase.name = .idle
    · rw [if_pos hn, if_pos (hname.mp hn)]
    · rw [if_neg hn, if_neg (mt hname.mpr hn)]
  refine ⟨t, hrun, by rw [hserver, hunsubstituted, hunaltered hunsubstituted, hgood]; rfl, hdrive, fun heq => ?_, fun hne => ?_⟩
  · have hresult : classify s.patternTable s.sectorSize.words s.profile.slipReach y.image (wordsOf y.received) = .isMatch :=
      hmatch.mpr heq
    rw [hresult, if_pos rfl] at hentry
    rw [hresult, himg] at hslot
    exact ⟨hentry, hentries, hupstream, hposition, hsector, hothers, hslot.trans (hcounted _), ht⟩
  · have hresult : classify s.patternTable s.sectorSize.words s.profile.slipReach y.image (wordsOf y.received) ≠ .isMatch :=
      mt hmatch.mp hne
    rw [if_neg hresult] at hentry
    rw [beq_false_of_ne hresult, himg] at hslot
    exact ⟨hentry, hentries, hupstream, hposition, hsector, hothers, hslot.trans (hcounted _), ht⟩

/-! ## The ship record (R147, R150, Table 12-8) -/

/-- The first fields of the ship record: signature, length and identity (Table 12-8). -/
def SlotRecord.shipIdentity (r : SlotRecord) : List Byte :=
  [0x5A#8, 0x57#8, 0x52#8, 0x31#8] ++ le 4 (shipRecordLength r.defects.extents.length) ++ r.identity.serial.toList ++
    le 6 r.identity.capacity

/-- The grade fields of the ship record (Table 12-8). -/
def SlotRecord.shipGrade (r : SlotRecord) : List Byte :=
  le 1 (binCode (r.grade.map (·.bin))) ++ le 1 ((r.grade.map (fun g => g.reason.code)).getD 0) ++
    le 4 ((r.grade.map (·.score)).getD 0)

/-- The soak and defect fields of the ship record (Table 12-8). -/
def SlotRecord.shipSoak (r : SlotRecord) : List Byte :=
  le 4 r.soak.a ++ le 2 r.soak.target ++ le 2 r.pass ++ le 4 r.defects.sectors ++ le 2 r.defects.extents.length ++
    le 2 r.defects.unrecorded

/-- The counter fields of the ship record (Table 12-8). -/
def SlotRecord.shipCounters (r : SlotRecord) : List Byte :=
  le 2 r.counters.stale ++ le 2 r.counters.slip ++ le 2 r.counters.timeouts ++ le 2 r.latency.slowCount

theorem shipHeader_eq (r : SlotRecord) : shipHeader r = r.shipIdentity ++ (r.shipGrade ++ (r.shipSoak ++ r.shipCounters)) := by
  have hflat : shipHeader r = r.shipIdentity ++ le 1 (binCode (r.grade.map (·.bin))) ++
    le 1 ((r.grade.map (fun g => g.reason.code)).getD 0) ++ le 4 ((r.grade.map (·.score)).getD 0) ++
    le 4 r.soak.a ++ le 2 r.soak.target ++ le 2 r.pass ++ le 4 r.defects.sectors ++ le 2 r.defects.extents.length ++
    le 2 r.defects.unrecorded ++ le 2 r.counters.stale ++ le 2 r.counters.slip ++ le 2 r.counters.timeouts ++
    le 2 r.latency.slowCount := rfl
  rw [hflat]
  simp only [SlotRecord.shipGrade, SlotRecord.shipSoak, SlotRecord.shipCounters, List.append_assoc]

theorem SlotRecord.shipIdentity_length (r : SlotRecord) : r.shipIdentity.length = 34 := by simp [SlotRecord.shipIdentity]

theorem SlotRecord.shipGrade_length (r : SlotRecord) : r.shipGrade.length = 6 := by simp [SlotRecord.shipGrade]

theorem SlotRecord.shipSoak_length (r : SlotRecord) : r.shipSoak.length = 16 := by simp [SlotRecord.shipSoak]

theorem SlotRecord.shipCounters_length (r : SlotRecord) : r.shipCounters.length = 8 := by simp [SlotRecord.shipCounters]

theorem shipHeader_length (r : SlotRecord) : (shipHeader r).length = 64 := by
  simp only [shipHeader_eq, List.length_append, SlotRecord.shipIdentity_length, SlotRecord.shipGrade_length,
    SlotRecord.shipSoak_length, SlotRecord.shipCounters_length]

theorem Extent.bytes_length (y : Extent) : y.bytes.length = 16 := by simp [Extent.bytes]

theorem extents_length (es : List Extent) : (es.flatMap Extent.bytes).length = 16 * es.length := by
  simp only [List.length_flatMap, Extent.bytes_length, List.map_const', List.sum_replicate, smul_eq_mul, Nat.mul_comm]

theorem shipBody_length (r : SlotRecord) : (shipBody r).length = 64 + 16 * r.defects.extents.length := by
  rw [shipBody, List.length_append, shipHeader_length, extents_length]

theorem shipRecord_length (r : SlotRecord) : (shipRecord r).length = shipRecordLength r.defects.extents.length := by
  rw [shipRecord, List.length_append, shipBody_length, le_length]
  rfl

/-- The ship record in groups of fields, its extent entries and its CRC-32 (Table 12-8). -/
theorem shipRecord_eq (r : SlotRecord) : shipRecord r = r.shipIdentity ++ (r.shipGrade ++ (r.shipSoak ++ (r.shipCounters ++
    (r.defects.extents.flatMap Extent.bytes ++ le 4 (crc32 (shipBody r)).toNat)))) := by
  simp only [shipRecord, shipBody, shipHeader_eq, List.append_assoc]

theorem shipRecord_grade (r : SlotRecord) : hasField (shipRecord r) 34 r.shipGrade :=
  hasField_of_append (shipRecord_eq r) r.shipIdentity_length

theorem shipRecord_soak (r : SlotRecord) : hasField (shipRecord r) 40 r.shipSoak :=
  hasField_of_append (a := r.shipIdentity ++ r.shipGrade) ((shipRecord_eq r).trans (List.append_assoc ..).symm)
    (by rw [List.length_append, r.shipIdentity_length, r.shipGrade_length])

theorem shipRecord_counters (r : SlotRecord) : hasField (shipRecord r) 56 r.shipCounters :=
  hasField_of_append (a := r.shipIdentity ++ (r.shipGrade ++ r.shipSoak))
    (c := r.defects.extents.flatMap Extent.bytes ++ le 4 (crc32 (shipBody r)).toNat)
    (by rw [shipRecord_eq]; simp only [List.append_assoc])
    (by simp only [List.length_append, r.shipIdentity_length, r.shipGrade_length, r.shipSoak_length])

/-- Extent entry `k` of the ship record (Table 12-7, Table 12-8). -/
theorem shipRecord_extent {r : SlotRecord} {k : Nat} {y : Extent} (h : r.defects.extents[k]? = some y) :
    hasField (shipRecord r) (64 + 16 * k) y.bytes := by
  obtain ⟨hk, rfl⟩ := List.getElem?_eq_some_iff.mp h
  have hsplit : r.defects.extents.flatMap Extent.bytes = (r.defects.extents.take k).flatMap Extent.bytes ++
      (r.defects.extents[k].bytes ++ (r.defects.extents.drop (k + 1)).flatMap Extent.bytes) := by
    conv_lhs => rw [← List.take_append_drop k r.defects.extents, List.drop_eq_getElem_cons hk]
    rw [List.flatMap_append, List.flatMap_cons]
  refine hasField_of_append (a := shipHeader r ++ (r.defects.extents.take k).flatMap Extent.bytes)
    (c := (r.defects.extents.drop (k + 1)).flatMap Extent.bytes ++ le 4 (crc32 (shipBody r)).toNat) ?_ ?_
  · rw [shipRecord, shipBody, hsplit]
    simp only [List.append_assoc]
  · rw [List.length_append, shipHeader_length, extents_length, List.length_take, Nat.min_eq_left hk.le]

/-- The CRC-32 of all before it ends the ship record (R150). -/
theorem shipRecord_crc (r : SlotRecord) : hasField (shipRecord r) (64 + 16 * r.defects.extents.length)
    (le 4 (crc32 ((shipRecord r).take (64 + 16 * r.defects.extents.length))).toNat) := by
  rw [← shipBody_length, show (shipRecord r).take (shipBody r).length = shipBody r from List.take_left]
  exact hasField_of_append (c := []) (by rw [List.append_nil]; rfl) rfl

/-! ## The settled statement -/

/-- Settles O31: the image of a sector of SHIP by its window, written and read by the rule of the sector in progress, and the ship
record by its groups of fields. -/
theorem shipSectorsAndRecord : Obligations.ShipSectorsAndRecord := by
  constructor
  · intro s i f e x hb hlen hp he htracked hdone hissue hlba r size lba n win own inRegion isFill isRecord fill record counts effect
      wrote read filled worse
    have hframe : s.ShipFrame i f e x := ⟨hb, hlen, hp, he, htracked, hdone, hissue, hlba⟩
    have hcount : recordSectorCount s.sectorSize r.defects.extents.length = n := recordSectorCount_eq _ _
    have hfill (h : isFill) : s.ShipImage i x (.shipFill s.profile.shipFill) fill := by
      refine ⟨?_, shipFill_words _ _ _, List.length_replicate⟩
      obtain h | h | ⟨m, ⟨k, first, last, hk, hown, hr, hm⟩, hn⟩ := h
      · exact shipAction_outside (.inl h) _ _ _
      · exact shipAction_outside (.inr h) _ _ _
      · refine (shipAction_inside hk hown hr hm _ _ _).trans (congrArg _ ?_)
        exact if_neg (by rw [hcount]; omega)
    have hrecord {m : Nat} (h : isRecord m) : s.ShipImage i x (.record m (recordSector s.sectorSize r m)) (record m) := by
      have hcontent : recordSector s.sectorSize r m = record m := recordSector_eq _ _ _
      refine ⟨?_, congrArg wordsOf hcontent, by rw [← hcontent]; exact recordSector_length _ r m⟩
      obtain ⟨⟨k, first, last, hk, hown, hr, hm⟩, hn⟩ := h
      refine (shipAction_inside hk hown hr hm _ _ _).trans (congrArg _ ?_)
      exact if_pos (by rw [hcount]; exact hn)
    exact ⟨fun hd hc => ⟨fun h => hframe.written (hfill h) hd hc, fun m h => hframe.written (hrecord h) hd hc⟩,
      fun hd hgood hc => ⟨fun h => hframe.read (hfill h) hd hgood hc, fun m h => hframe.read (hrecord h) hd hgood hc⟩⟩
  · intro r p count
    have hlength : p.length = shipRecordLength count := shipRecord_length r
    have hgrade : hasField p 34 r.shipGrade := shipRecord_grade r
    refine ⟨hlength, ?_, fun hg => ?_, fun g hg => ?_, shipRecord_soak r, shipRecord_counters r, fun k y hy => shipRecord_extent hy,
      shipRecord_crc r⟩
    · rw [hlength]
      exact hasField_of_append (a := []) (shipRecord_eq r) rfl
    · rw [SlotRecord.shipGrade, hg] at hgrade
      exact hgrade
    · rw [SlotRecord.shipGrade, hg] at hgrade
      exact hgrade

end Sys2Proof.Machine
end

section
/-!
The profile image (R166, R173): what the loader reads of an image as it was written, and what it makes of an EEPROM that holds none.
-/
namespace Sys2Proof.Machine

/-! ## Items (R173) -/

/-- An item whose code and length fit the fields of an image. -/
def ProfileItem.Encodable (x : ProfileItem) : Prop := x.code < 65536 ∧ x.data.length < 256

theorem parseItems_cons (fuel : Nat) (c0 c1 d : Byte) (rest : List Byte) : parseItems (fuel + 1) (c0 :: c1 :: d :: rest) =
    if d.toNat ≤ rest.length then
      (parseItems fuel (rest.drop d.toNat)).map ({ code := fromLe [c0, c1], data := rest.take d.toNat } :: ·)
    else none := rfl

/-- An item as it was written, and then the items after it. -/
theorem parseItems_encodeItem {x : ProfileItem} (h : x.Encodable) (fuel : Nat) (rest : List Byte) :
    parseItems (fuel + 1) (encodeItem x ++ rest) = (parseItems fuel rest).map (x :: ·) := by
  obtain ⟨hcode, hdata⟩ := h
  have hlength : (BitVec.ofNat 8 x.data.length).toNat = x.data.length := Nat.mod_eq_of_lt hdata
  have hvalue : fromLe [BitVec.ofNat 8 x.code, BitVec.ofNat 8 (x.code / 256)] = x.code := fromLe_le_of_lt (n := 2) hcode
  have hbytes : encodeItem x ++ rest = BitVec.ofNat 8 x.code :: BitVec.ofNat 8 (x.code / 256) :: BitVec.ofNat 8 x.data.length ::
      (x.data ++ rest) := rfl
  rw [hbytes, parseItems_cons, hlength, hvalue, List.drop_left, List.take_left, if_pos (by simp)]

/-- The items of the bytes they were written to. -/
theorem parseItems_encodeItems {items : List ProfileItem} (h : ∀ x ∈ items, x.Encodable) : ∀ {fuel : Nat}, items.length ≤ fuel →
    parseItems fuel (encodeItems items) = some items := by
  induction items with
  | nil => intro fuel _; unfold parseItems; rfl
  | cons x items ih =>
    intro fuel hfuel
    obtain ⟨hx, hitems⟩ := List.forall_mem_cons.mp h
    match fuel with
    | fuel + 1 =>
      rw [show encodeItems (x :: items) = encodeItem x ++ encodeItems items from List.flatMap_cons, parseItems_encodeItem hx,
        ih hitems (Nat.le_of_succ_le_succ hfuel), Option.map_some]

/-- Bytes that items exactly fill are those items written. -/
theorem encodeItems_parseItems (fuel : Nat) (bs : List Byte) : ∀ items, parseItems fuel bs = some items →
    encodeItems items = bs ∧ ∀ x ∈ items, x.Encodable := by
  fun_induction parseItems fuel bs with
  | case1 => rintro _ ⟨⟩; exact ⟨rfl, nofun⟩
  | case2 fuel c0 c1 d rest hd ih =>
    intro items h
    obtain ⟨tail, htail, rfl⟩ := Option.map_eq_some_iff.mp h
    obtain ⟨hbytes, hitems⟩ := ih tail htail
    have hlength : (rest.take d.toNat).length = d.toNat := List.length_take_of_le hd
    refine ⟨?_, List.forall_mem_cons.mpr ⟨⟨(fromLe_lt [c0, c1]).trans_eq (by norm_num), by rw [hlength]; exact d.isLt⟩, hitems⟩⟩
    have hcode : le 2 (fromLe [c0, c1]) = [c0, c1] := by
      simp only [le, fromLe, List.cons.injEq, and_true]
      constructor <;> bv_omega
    rw [encodeItems, List.flatMap_cons, ← encodeItems, hbytes, encodeItem, hcode, hlength, le_one_toNat, List.append_assoc,
      List.take_append_drop]
    rfl
  | case3 => rintro _ ⟨⟩
  | case4 => rintro _ ⟨⟩

theorem encodeItem_length (x : ProfileItem) : (encodeItem x).length = 3 + x.data.length := by simp [encodeItem, ← Nat.add_assoc]

/-- An item has at least 3 bytes, and at most 258. -/
theorem encodeItems_length {items : List ProfileItem} (h : ∀ x ∈ items, x.Encodable) :
    items.length ≤ (encodeItems items).length ∧ (encodeItems items).length ≤ 258 * items.length := by
  induction items with
  | nil => exact ⟨Nat.le_refl 0, Nat.le_refl 0⟩
  | cons x items ih =>
    obtain ⟨⟨-, hx⟩, hitems⟩ := List.forall_mem_cons.mp h
    obtain ⟨hlow, hhigh⟩ := ih hitems
    rw [encodeItems, List.flatMap_cons, ← encodeItems, List.length_append, encodeItem_length, List.length_cons]
    omega

/-! ## The tests of R166 -/

/-- The image length field. -/
def imageLength (bytes : List Byte) : Nat := fromLe ((bytes.drop 4).take 2)

/-- An EEPROM that holds an image of a length in range, its CRC and its items apart. -/
structure WholeImage (bytes : List Byte) : Prop where
  header : 6 ≤ bytes.length
  signature : bytes.take 4 = [0x5A#8, 0x57#8, 0x50#8, 0x31#8]
  low : 8 ≤ imageLength bytes
  high : imageLength bytes ≤ 8192
  present : imageLength bytes ≤ bytes.length

/-- The CRC that ends the image is the CRC-16 of the bytes before it. -/
def crcGood (bytes : List Byte) : Prop :=
  fromLe ((bytes.drop (imageLength bytes - 2)).take 2) = (crc16 (bytes.take (imageLength bytes - 2))).toNat

/-- The bytes between the header of the image and its CRC. -/
def itemBytes (bytes : List Byte) : List Byte := (bytes.take (imageLength bytes - 2)).drop 6

theorem loadImage_absent : loadImage false none = (.absent, []) := rfl

theorem loadImage_badSignature {bytes : List Byte} (h6 : 6 ≤ bytes.length) (hs : bytes.take 4 ≠ [0x5A#8, 0x57#8, 0x50#8, 0x31#8]) :
    loadImage false (some bytes) = (.badSignature, []) := by
  unfold loadImage
  rw [if_neg Bool.false_ne_true]
  dsimp only
  rw [if_neg (by omega), if_pos hs]

theorem loadImage_badLength {bytes : List Byte} (h6 : 6 ≤ bytes.length) (hs : bytes.take 4 = [0x5A#8, 0x57#8, 0x50#8, 0x31#8])
    (hl : imageLength bytes < 8 ∨ 8192 < imageLength bytes) : loadImage false (some bytes) = (.badLength, []) := by
  unfold loadImage
  rw [if_neg Bool.false_ne_true]
  dsimp only
  rw [if_neg (by omega), if_neg (not_not.mpr hs)]
  exact if_pos (by simpa [imageLength] using hl)

/-- A whole image is checked. -/
theorem loadImage_whole {bytes : List Byte} (h : WholeImage bytes) :
    loadImage false (some bytes) = checkImage (bytes.take (imageLength bytes)) := by
  have hlow := h.low
  have hhigh := h.high
  have hpresent := h.present
  have hheader := h.header
  unfold loadImage
  rw [if_neg Bool.false_ne_true]
  dsimp only
  rw [if_neg (by omega), if_neg (not_not.mpr h.signature)]
  rw [← imageLength, if_neg (by simp; omega), if_neg (by omega)]

/-- The check of a whole image: its CRC, then its items. -/
theorem checkImage_whole {bytes : List Byte} (h : WholeImage bytes) :
    (¬crcGood bytes → checkImage (bytes.take (imageLength bytes)) = (.badCrc, [])) ∧
      (crcGood bytes → checkImage (bytes.take (imageLength bytes)) =
        (parseItems (imageLength bytes) (itemBytes bytes)).elim (.badFormat, []) (fun items => (.eeprom, items))) := by
  have hlow := h.low
  have hlength : (bytes.take (imageLength bytes)).length = imageLength bytes := List.length_take_of_le h.present
  have hbody : (bytes.take (imageLength bytes)).take (imageLength bytes - 2) = bytes.take (imageLength bytes - 2) := by
    rw [List.take_take, Nat.min_eq_left (Nat.sub_le _ _)]
  have hcrc : (bytes.take (imageLength bytes)).drop (imageLength bytes - 2) = (bytes.drop (imageLength bytes - 2)).take 2 := by
    rw [List.drop_take, Nat.sub_sub_self (by omega)]
  have hgood : crcGood bytes ↔ crc16 (bytes.take (imageLength bytes - 2)) =
      BitVec.ofNat 16 (fromLe ((bytes.drop (imageLength bytes - 2)).take 2)) := by
    have hlt := (fromLe_lt ((bytes.drop (imageLength bytes - 2)).take 2)).trans_le
      (Nat.pow_le_pow_right (by decide) (List.length_take_le 2 _))
    rw [← BitVec.toNat_inj, BitVec.toNat_ofNat, Nat.mod_eq_of_lt hlt]
    exact eq_comm
  unfold checkImage
  rw [hlength, hbody, hcrc, hgood]
  refine ⟨fun hbad => if_pos hbad, fun hok => (if_neg (not_not.mpr hok)).trans ?_⟩
  rw [itemBytes]
  cases parseItems (imageLength bytes) ((bytes.take (imageLength bytes - 2)).drop 6) <;> rfl

/-- What the loader makes of an EEPROM that gives no valid image (R166). -/
theorem loadImage_of_noImage {noload : Bool} {eeprom : Option (List Byte)} {src : LoadSource} (h : noImage noload eeprom src) :
    loadImage noload eeprom = (src, []) := by
  obtain ⟨rfl, rfl⟩ | ⟨rfl, rfl, rfl⟩ | ⟨bytes, rfl, rfl, hbytes⟩ := h
  · rfl
  · exact loadImage_absent
  obtain ⟨h6, hs, rfl⟩ | ⟨h6, hs, hl, rfl⟩ | ⟨⟨h6, hs, hlow, hhigh, hlen⟩, hcrc, rfl⟩ |
    ⟨⟨h6, hs, hlow, hhigh, hlen⟩, hcrc, rfl, hnone⟩ := hbytes
  · exact loadImage_badSignature h6 hs
  · exact loadImage_badLength h6 hs hl
  · have hwhole : WholeImage bytes := ⟨h6, hs, hlow, hhigh, hlen⟩
    rw [loadImage_whole hwhole, (checkImage_whole hwhole).1 hcrc]
  · have hwhole : WholeImage bytes := ⟨h6, hs, hlow, hhigh, hlen⟩
    rw [loadImage_whole hwhole, (checkImage_whole hwhole).2 hcrc]
    cases hparse : parseItems (imageLength bytes) (itemBytes bytes) with
    | none => rfl
    | some items =>
      obtain ⟨heq, hitems⟩ := encodeItems_parseItems _ _ items hparse
      exact absurd heq (hnone items hitems)

/-! ## An image as it was written -/

theorem imageBody_length (items : List ProfileItem) : (imageBody items).length = 6 + (encodeItems items).length := by
  simp [imageBody]
  omega

theorem encodeImage_length (items : List ProfileItem) : (encodeImage items).length = 8 + (encodeItems items).length := by
  rw [encodeImage, List.length_append, imageBody_length, le_length]
  omega

theorem imageLength_encodeImage {items : List ProfileItem} (h : 8 + (encodeItems items).length ≤ 8192) :
    imageLength (encodeImage items) = 8 + (encodeItems items).length :=
  fromLe_le_of_lt (n := 2) (by omega)

theorem wholeImage_encodeImage {items : List ProfileItem} (h : 8 + (encodeItems items).length ≤ 8192) :
    WholeImage (encodeImage items) where
  header := by rw [encodeImage_length]; omega
  signature := rfl
  low := by rw [imageLength_encodeImage h]; omega
  high := by rw [imageLength_encodeImage h]; exact h
  present := by rw [imageLength_encodeImage h, encodeImage_length]

theorem encodeImage_take {items : List ProfileItem} (h : 8 + (encodeItems items).length ≤ 8192) :
    (encodeImage items).take (imageLength (encodeImage items) - 2) = imageBody items := by
  rw [imageLength_encodeImage h, show 8 + (encodeItems items).length - 2 = (imageBody items).length by rw [imageBody_length]; omega]
  exact List.take_left

theorem crcGood_encodeImage {items : List ProfileItem} (h : 8 + (encodeItems items).length ≤ 8192) : crcGood (encodeImage items) := by
  have hdrop : ((encodeImage items).drop (imageLength (encodeImage items) - 2)).take 2 = le 2 (crc16 (imageBody items)).toNat := by
    rw [imageLength_encodeImage h, show 8 + (encodeItems items).length - 2 = (imageBody items).length by rw [imageBody_length]; omega,
      encodeImage, List.drop_left]
    rfl
  rw [crcGood, hdrop, encodeImage_take h]
  exact fromLe_le_of_lt (n := 2) (crc16 (imageBody items)).isLt

/-- The loader reads the items an image was written with (R166, R173). -/
theorem loadImage_encodeImage {items : List ProfileItem} (hitems : ∀ x ∈ items, x.Encodable)
    (h : 8 + (encodeItems items).length ≤ 8192) : loadImage false (some (encodeImage items)) = (.eeprom, items) := by
  have hbytes : itemBytes (encodeImage items) = encodeItems items := by
    rw [itemBytes, encodeImage_take h]
    rfl
  have hfuel : items.length ≤ imageLength (encodeImage items) := by
    rw [imageLength_encodeImage h]
    exact (encodeItems_length hitems).1.trans (Nat.le_add_left _ _)
  rw [loadImage_whole (wholeImage_encodeImage h), (checkImage_whole (wholeImage_encodeImage h)).2 (crcGood_encodeImage h), hbytes,
    parseItems_encodeItems hitems hfuel]
  rfl

end Sys2Proof.Machine
end

section
/-!
A load (R59, R79, R101, R112, R119, R130, R163, R166, R167): what PROFILE_READY stores of the items an image supplies.
-/
namespace Sys2Proof.Machine

/-! ## PROFILE_READY -/

/-- The records that a load of filters leaves after a reset (R101). -/
def filterRecords (filters : Vector (BitVec 8 × BitVec 6) 16) : Vector CaptureRecord 16 :=
  filters.map fun f => CaptureRecord.filtered f.1 f.2

/-- The part at READY, after a load of a source and its items. -/
def State.afterLoad (s : State) (kind : LoadKind) (source : LoadSource) (items : List ProfileItem) : State :=
  let l := items.foldl Load.store Load.builtIn
  let p := l.profile.settled s.largestCount
  { s with
    profile := p
    sectorSize := l.size.getD (strappedSize s.straps)
    windows := l.windows
    patternTable := l.table
    loader := .ready
    loaderResult := loaderResultOf source items p kind
    alerts := s.alerts ||| AlertFlag.loaderDone.set
    capture := if kind = .afterReset then { s.capture with records := filterRecords l.filters } else s.capture
    alertMask := if kind = .afterReset then l.mask else s.alertMask
    chamber := if kind = .afterReset then { s.chamber with staleTimer := some s.timebase, h1InEffect := p.h1 } else s.chamber
    soakTimer := if kind = .afterReset then some s.timebase else s.soakTimer }

/-- A value set at each index of a list. -/
theorem foldl_set_get {α : Type} {n : Nat} (f : Fin n → α) (k : Fin n) (l : List (Fin n)) : ∀ v : Vector α n,
    (l.foldl (fun v i => v.set i (f i)) v)[k] = if k ∈ l then f k else v[k] := by
  induction l with
  | nil => intro v; simp
  | cons i l ih =>
    intro v
    rw [List.foldl_cons, ih]
    by_cases hk : k ∈ l
    · simp [hk]
    · by_cases hi : i = k
      · simp [hi, hk]
      · have hne : i.val ≠ k.val := fun h => hi (Fin.ext h)
        simp [hk, Ne.symm hi, hne]

/-- Every record takes its filter. -/
theorem foldl_filtered (filters : Vector (BitVec 8 × BitVec 6) 16) (v : Vector CaptureRecord 16) :
    allSixteen.foldl (fun (v : Vector CaptureRecord 16) (n : Fin 16) =>
      v.set n (CaptureRecord.filtered filters[n].1 filters[n].2)) v = filterRecords filters := by
  have hall : ∀ k : Fin 16, k ∈ allSixteen := by decide
  ext1 k hk
  have hget := foldl_set_get (fun n : Fin 16 => CaptureRecord.filtered filters[n].1 filters[n].2) ⟨k, hk⟩ allSixteen v
  rw [if_pos (hall _)] at hget
  rw [filterRecords, Vector.getElem_map]
  exact hget

theorem State.profileLoaded_eq {s : State} {eeprom : Option (List Byte)} {source : LoadSource} {items : List ProfileItem}
    (h : loadImage s.straps.noload eeprom = (source, items)) (kind : LoadKind) :
    s.profileLoaded kind eeprom = s.afterLoad kind source items := by
  unfold State.profileLoaded
  rw [h]
  cases kind with
  | reload => rfl
  | afterReset =>
    unfold State.readyAfterReset
    dsimp only
    rw [foldl_filtered]
    rfl

theorem exec_profileReady {s : State} {kind : LoadKind} {began : Time} (hreset : s.inReset = false)
    (hload : s.loader = .loading kind began) {eeprom : Option (List Byte)} {source : LoadSource} {items : List ProfileItem}
    (h : loadImage s.straps.noload eeprom = (source, items)) :
    exec (.profileReady eeprom) s = .next (s.afterLoad kind source items) := by
  have hexec : exec (.profileReady eeprom) s = .next (s.profileLoaded kind eeprom) := by
    change execProfileReady eeprom s = _
    unfold execProfileReady
    rw [hload, hreset]
    rfl
  rw [hexec, State.profileLoaded_eq h]

/-- PROFILE_READY with the image of a few items. -/
theorem exec_profileReady_image {s : State} {kind : LoadKind} {began : Time} (hreset : s.inReset = false)
    (hload : s.loader = .loading kind began) (hstrap : s.straps.noload = false) {items : List ProfileItem}
    (hitems : ∀ x ∈ items, x.Encodable) (hcount : 8 + 258 * items.length ≤ 8192) :
    exec (.profileReady (some (encodeImage items))) s = .next (s.afterLoad kind .eeprom items) :=
  exec_profileReady hreset hload (by
    rw [hstrap]
    exact loadImage_encodeImage hitems ((Nat.add_le_add_left (encodeItems_length hitems).2 8).trans hcount))

theorem itemSize_le {code : Nat} : ∀ {n : Nat}, itemSize code = some n → code ≤ 0x020F ∧ n ≤ 27 := by
  unfold itemSize
  iterate 13
    refine iteInduction (motive := fun o => ∀ {n : Nat}, o = some n → code ≤ 0x020F ∧ n ≤ 27) (fun _ => ?_) fun _ => ?_
    · rintro _ ⟨⟩
      omega
  exact nofun

/-- An item that is stored fits the fields of an image (R173). -/
theorem ProfileItem.encodable_of_taken {x : ProfileItem} (h : x.taken = true) : x.Encodable := by
  by_cases hc : x.code = 0x0300
  · simp only [ProfileItem.taken, hc, if_true, tableItemOk, Bool.and_eq_true, decide_eq_true_eq] at h
    exact ⟨by omega, by omega⟩
  · obtain ⟨hcode, hsize⟩ := itemSize_le (ProfileItem.taken_size h hc)
    exact ⟨by omega, by omega⟩

/-! ## The numbers of the profile (Table 11-3) -/

/-- The numbers of the profile in the order of their codes. -/
def Profile.numbers (p : Profile) : List Nat :=
  let g := p.grading
  [p.commandTimeout, p.latencyBase, p.slowBucket, p.slipReach, p.shipFill.toNat, p.divisor, p.staleTimeout, p.offerTimeout, g.wDefsec,
    g.wExtent, g.wStale, g.wSlip, g.wTimeout, g.wSlow, g.wShort, g.wHot, g.slipLimit, p.defectCap, p.h1, p.h2, g.b1, g.b2, g.b3,
    if g.strictSoak then 1 else 0] ++ (List.range 9).map (p.knots.toList.getD · 0) ++ (List.range 9).map (p.factors.toList.getD · 0)

theorem Profile.numbers_eq (p : Profile) : numberCodes.map p.number = p.numbers := rfl

/-- A ranged number stored replaces the number of its code by the value clamped to the range, and no other number. -/
theorem Profile.numbers_storeNumber (p : Profile) {code lo hi : Nat} (h : (code, lo, hi) ∈ rangeItems) (v : Nat) :
    (p.storeNumber code v).numbers = p.numbers.set (numberCodes.idxOf code) (clampTo lo hi v) := by
  have hbyte : (BitVec.ofNat 8 (clampTo 0 255 v)).toNat = clampTo 0 255 v := by
    have := clampTo_le 255 v
    rw [BitVec.toNat_ofNat]
    omega
  simp only [rangeItems, List.mem_cons, List.not_mem_nil, or_false, Prod.mk.injEq] at h
  rcases h with ⟨rfl, rfl, rfl⟩ | ⟨rfl, rfl, rfl⟩ | ⟨rfl, rfl, rfl⟩ | ⟨rfl, rfl, rfl⟩ | ⟨rfl, rfl, rfl⟩ | ⟨rfl, rfl, rfl⟩ | ⟨rfl, rfl, rfl⟩ |
    ⟨rfl, rfl, rfl⟩ | ⟨rfl, rfl, rfl⟩ | ⟨rfl, rfl, rfl⟩ | ⟨rfl, rfl, rfl⟩ | ⟨rfl, rfl, rfl⟩ | ⟨rfl, rfl, rfl⟩ |
    ⟨rfl, rfl, rfl⟩ | ⟨rfl, rfl, rfl⟩ | ⟨rfl, rfl, rfl⟩ | ⟨rfl, rfl, rfl⟩
  case inr.inr.inr.inr.inl => exact congrArg (p.numbers.set 4) hbyte
  all_goals rfl

/-- The number of a code by its place. -/
theorem Profile.number_eq_numbers (p : Profile) {code : Nat} (h : code ∈ numberCodes) :
    p.numbers[numberCodes.idxOf code]? = some (p.number code) := by
  rw [← p.numbers_eq, List.getElem?_map, List.getElem?_idxOf h]
  rfl

theorem rangeItems_numberCodes {code lo hi : Nat} (h : (code, lo, hi) ∈ rangeItems) : code ∈ numberCodes :=
  List.mem_append_left _ (List.mem_append_left _ (List.mem_append_left _ (List.mem_map_of_mem (f := (·.1)) h)))

theorem Profile.number_storeNumber (p : Profile) {code lo hi : Nat} (h : (code, lo, hi) ∈ rangeItems) (v : Nat) :
    (p.storeNumber code v).number code = clampTo lo hi v := by
  have hcode := rangeItems_numberCodes h
  have hget := (p.storeNumber code v).number_eq_numbers hcode
  have hlength : numberCodes.idxOf code < p.numbers.length := List.idxOf_lt_length_of_mem hcode
  rw [p.numbers_storeNumber h, List.getElem?_set_self hlength] at hget
  exact (Option.some.inj hget).symm

theorem Profile.number_storeNumber_other (p : Profile) {code lo hi : Nat} (h : (code, lo, hi) ∈ rangeItems) (v : Nat) {other : Nat}
    (hother : other ∈ numberCodes) (hne : other ≠ code) : (p.storeNumber code v).number other = p.number other := by
  have hget := (p.storeNumber code v).number_eq_numbers hother
  rw [p.numbers_storeNumber h, List.getElem?_set_ne (fun he => hne ((List.idxOf_inj hother).mp he.symm)), p.number_eq_numbers hother] at hget
  exact (Option.some.inj hget).symm

/-- The last clamps leave a profile that is in order and has room for the extents (R79, R112, R130). -/
theorem Profile.settled_eq_self {p : Profile} {largest : Nat} (hcap : largest ≤ p.defectCap) (hh : p.h1 < p.h2)
    (hb12 : p.grading.b1 ≤ p.grading.b2) (hb23 : p.grading.b2 ≤ p.grading.b3) : p.settled largest = p := by
  unfold Profile.settled
  rw [Nat.max_eq_left hcap, if_pos hh, Nat.max_eq_right hb12, Nat.max_eq_right hb23]

/-! ## One item of a load -/

section
variable {x : ProfileItem} (l : Load) (ht : x.taken = true)
include ht

theorem Load.store_size (hc : x.code = 0x0001) : l.store x = { l with size := sizeOf (fromLe x.data) } := by
  simp [Load.store, ht, hc]

theorem Load.store_mask (hc : x.code = 0x0002) : l.store x = { l with mask := BitVec.ofNat 17 (fromLe x.data) } := by
  simp [Load.store, ht, hc]

theorem Load.store_cap (hc : x.code = 0x0008) :
    l.store x = { l with profile := { l.profile with defectCap := clampTo 1 512 (fromLe x.data) } } := by
  simp [Load.store, ht, hc]

theorem Load.store_h1 (hc : x.code = 0x000B) :
    l.store x = { l with profile := { l.profile with h1 := clampTo 0 249 (fromLe x.data) } } := by
  simp [Load.store, ht, hc]

theorem Load.store_h2 (hc : x.code = 0x000C) :
    l.store x = { l with profile := { l.profile with h2 := clampTo 1 250 (fromLe x.data) } } := by
  simp [Load.store, ht, hc]

theorem Load.store_b1 (hc : x.code = 0x0018) :
    l.store x = { l with profile := { l.profile with grading := { l.profile.grading with b1 := fromLe x.data } } } := by
  simp [Load.store, ht, hc]

theorem Load.store_b2 (hc : x.code = 0x0019) :
    l.store x = { l with profile := { l.profile with grading := { l.profile.grading with b2 := fromLe x.data } } } := by
  simp [Load.store, ht, hc]

theorem Load.store_b3 (hc : x.code = 0x001A) :
    l.store x = { l with profile := { l.profile with grading := { l.profile.grading with b3 := fromLe x.data } } } := by
  simp [Load.store, ht, hc]

theorem Load.store_knots (hc : x.code = 0x0020) : l.store x = { l with profile := l.profile.storeKnots x.data } := by
  simp [Load.store, ht, hc]

theorem Load.store_words (hc : x.code = 0x0300) :
    l.store x = { l with table := writeTableWords l.table (fromLe (x.data.take 2)) (wordsOf (x.data.drop 2)) } := by
  simp [Load.store, ht, hc]

theorem Load.store_filter (hlow : 0x0200 ≤ x.code) (hhigh : x.code < 0x0300) : l.store x = { l with
    filters := l.filters.setIfInBounds (x.code - 0x0200) (BitVec.ofNat 8 (fromLe x.data), BitVec.ofNat 6 (fromLe x.data / 256)) } := by
  have hne (n : Nat) (h : n < 0x0200 ∨ n = 0x0300) : x.code ≠ n := by omega
  simp [Load.store, ht, hne, hlow]

theorem Load.store_window (hlow : 0x0100 ≤ x.code) (hhigh : x.code < 0x0200) :
    l.store x = { l with windows := l.windows.setIfInBounds (x.code - 0x0100) (itemWindow x.data) } := by
  have hne (n : Nat) (h : n < 0x0100 ∨ n = 0x0300) : x.code ≠ n := by omega
  simp [Load.store, ht, hne, hlow, Nat.not_le.mpr hhigh]

theorem Load.store_number (hhigh : x.code < 0x0100)
    (hc : x.code ∉ [0x0001, 0x0002, 0x0008, 0x000B, 0x000C, 0x0018, 0x0019, 0x001A, 0x0020]) :
    l.store x = { l with profile := l.profile.storeNumber x.code (fromLe x.data) } := by
  have hwords : x.code ≠ 0x0300 := by omega
  simp only [List.mem_cons, List.not_mem_nil, or_false, not_or] at hc
  simp [Load.store, ht, hc, hwords, Nat.not_le.mpr hhigh, show ¬0x0200 ≤ x.code by omega]

end

/-- A ranged item is clamped where it is out of its range (R167). -/
theorem ProfileItem.clamped_ranged {x : ProfileItem} {lo hi : Nat} (h : (x.code, lo, hi) ∈ rangeItems) {p : Profile}
    (hp : p.number x.code = clampTo lo hi (fromLe x.data)) (kind : LoadKind) :
    x.clamped p kind = true ↔ ¬(lo ≤ fromLe x.data ∧ fromLe x.data ≤ hi) := by
  have happart : ∀ r ∈ rangeItems, r.1 ∉ [0x0001, 0x0002, 0x001C, 0x0020, 0x0300] ∧ ¬0x0200 ≤ r.1 ∧ ¬0x0100 ≤ r.1 ∧ r.2.1 ≤ r.2.2 := by
    decide
  obtain ⟨hlist, h2, h1, hle⟩ := happart _ h
  simp only [List.mem_cons, List.not_mem_nil, or_false, not_or] at hlist
  dsimp only at hle
  simp only [ProfileItem.clamped, hlist, h1, h2, if_false, hp, bne_iff_ne, clampTo]
  omega

/-- What a load gathers of one ranged item (R79, R112, R130, R167). -/
theorem Load.settled_ranged {x : ProfileItem} {lo hi : Nat} (h : (x.code, lo, hi) ∈ rangeItems) (ht : x.taken = true) {largest : Nat}
    (hl : largest ≤ 64) : (Load.builtIn.store x).profile.settled largest = Profile.builtIn.storeNumber x.code (fromLe x.data) := by
  have happart : ∀ r ∈ rangeItems, 0x0008 ≠ r.1 ∧ r.1 < 0x0100 ∧
      r.1 ∉ [0x0001, 0x0002, 0x0008, 0x000B, 0x000C, 0x0018, 0x0019, 0x001A, 0x0020] := by decide
  obtain ⟨hne, hhigh, hlist⟩ := happart _ h
  rw [Load.store_number _ ht hhigh hlist]
  have hcap : (Profile.builtIn.storeNumber x.code (fromLe x.data)).defectCap = 64 :=
    Profile.builtIn.number_storeNumber_other h (fromLe x.data) (other := 0x0008) (by decide) hne
  obtain ⟨e1, e2, e3, e4, e5⟩ := Profile.builtIn.storeNumber_ordered x.code (fromLe x.data)
  refine Profile.settled_eq_self ?_ ?_ ?_ ?_
  · change largest ≤ (Profile.builtIn.storeNumber x.code (fromLe x.data)).defectCap
    omega
  · exact e1.trans_lt ((by decide : Profile.builtIn.h1 < Profile.builtIn.h2).trans_eq e2.symm)
  · exact e3.trans_le ((by decide : Profile.builtIn.grading.b1 ≤ Profile.builtIn.grading.b2).trans_eq e4.symm)
  · exact e4.trans_le ((by decide : Profile.builtIn.grading.b2 ≤ Profile.builtIn.grading.b3).trans_eq e5.symm)

/-- The result of a load of one ranged item (R167). -/
theorem loaderResultOf_ranged {x : ProfileItem} {lo hi : Nat} (h : (x.code, lo, hi) ∈ rangeItems) (ht : x.taken = true)
    (source : LoadSource) (kind : LoadKind) :
    loaderResultOf source [x] (Profile.builtIn.storeNumber x.code (fromLe x.data)) kind =
      { source := source, stored := 1, skipped := 0
        clamped := if lo ≤ fromLe x.data ∧ fromLe x.data ≤ hi then 0 else 1
        firstClamped := if lo ≤ fromLe x.data ∧ fromLe x.data ≤ hi then none else some x.code } := by
  have happart : ∀ r ∈ rangeItems, ∀ c ∈ raisedCodes, c ∈ numberCodes ∧ c ≠ r.1 := by decide
  have hraised : raisedCodes.filter (fun c => !([x].any fun y => y.code == c) &&
      (Profile.builtIn.storeNumber x.code (fromLe x.data)).number c != Profile.builtIn.number c) = [] := by
    refine List.filter_eq_nil_iff.mpr fun c hc => ?_
    obtain ⟨hnumber, hne⟩ := happart _ h c hc
    simp [Profile.builtIn.number_storeNumber_other h (fromLe x.data) hnumber hne]
  have hcodes : clampedCodes [x] (Profile.builtIn.storeNumber x.code (fromLe x.data)) kind =
      if lo ≤ fromLe x.data ∧ fromLe x.data ≤ hi then [] else [x.code] := by
    have hclamped := ProfileItem.clamped_ranged h (Profile.builtIn.number_storeNumber h (fromLe x.data)) kind
    rw [clampedCodes, hraised, List.append_nil, show lastItems [x] = [x] from rfl]
    by_cases hin : lo ≤ fromLe x.data ∧ fromLe x.data ≤ hi
    · simp [mt hclamped.mp (not_not.mpr hin), hin]
    · simp [hclamped.mpr hin, hin]
  rw [loaderResultOf, List.filter_cons_of_pos ht, List.filter_nil, hcodes]
  split <;> rfl

/-! ## The settled statement -/

/-- Settles O6: the load of no items, and of one ranged item. -/
theorem profileReadyStoresProfile : Obligations.ProfileReadyStoresProfile := by
  constructor
  · intro s kind began eeprom src hreset hload hnone
    refine ⟨_, exec_profileReady hreset hload (loadImage_of_noImage hnone), rfl, ⟨rfl, rfl, rfl⟩, rfl, rfl, rfl, rfl, rfl, ?_, ?_, rfl⟩
    · rintro rfl
      refine ⟨rfl, rfl, rfl, filterRecords (Vector.replicate 16 (0#8, 0#6)), fun n => ?_, rfl⟩
      simp [filterRecords, CaptureRecord.filtered, CaptureRecord.initial]
    · rintro rfl
      exact ⟨rfl, rfl, rfl, rfl⟩
  · intro s kind began code lo hi n v hreset hload hstrap hlargest hrange hsize hv
    have hvalue : fromLe (le n v) = v := fromLe_le_of_lt hv
    have hcode : code ≠ 0x0300 := (by decide : ∀ r ∈ rangeItems, r.1 ≠ 0x0300) _ hrange
    have htaken : ProfileItem.taken ⟨code, le n v⟩ = true := by
      simp [ProfileItem.taken, hcode, hsize]
    have hprofile : (s.afterLoad kind .eeprom [⟨code, le n v⟩]).profile = Profile.builtIn.storeNumber code v := by
      exact (Load.settled_ranged hrange htaken hlargest).trans (by rw [hvalue])
    refine ⟨_, exec_profileReady_image hreset hload hstrap (List.forall_mem_singleton.mpr (ProfileItem.encodable_of_taken htaken)) (by simp), rfl, ?_, ?_, ?_, ?_⟩
    · refine (congrArg (loaderResultOf .eeprom _ · kind) (Load.settled_ranged hrange htaken hlargest)).trans ?_
      rw [loaderResultOf_ranged hrange htaken]
      simp only [hvalue]
    · rw [hprofile]
      exact Profile.builtIn.number_storeNumber hrange v
    · intro other hother hne
      rw [hprofile]
      exact Profile.builtIn.number_storeNumber_other hrange v hother hne
    · simp [State.alertSet, State.afterLoad, AlertFlag.set, AlertFlag.bit]

end Sys2Proof.Machine
end

section
/-!
What a load stores of each kind of image item (R47, R59, R79, R101, R112, R113, R130, R163, R167, Table 12-10).
-/
namespace Sys2Proof.Machine

/-! ## A pattern table by its words (R46) -/

theorem Memory.wfFrom_cons {lo : Nat} {c : Host.Cell} {m : List Host.Cell} : Memory.wfFrom lo (c :: m) = true ↔
    lo ≤ c.1 ∧ c.2 ≠ Memory.background ∧ Memory.wfFrom (c.1 + 1) m = true := by simp [Memory.wfFrom, and_assoc]

theorem Memory.readByte_head (c : Host.Cell) (m : List Host.Cell) : Memory.readByte c.1 (c :: m) = c.2 := if_pos rfl

/-- A byte before the first cell is the background. -/
theorem Memory.readByte_before {lo a : Nat} {c : Host.Cell} {m : List Host.Cell} (h : Memory.wfFrom lo (c :: m) = true) (ha : a < c.1) :
    Memory.readByte a (c :: m) = Memory.background := by
  obtain ⟨-, hc, hm⟩ := Memory.wfFrom_cons.mp h
  exact Memory.readByte_below (lo := c.1) (Memory.wfFrom_cons.mpr ⟨Nat.le_refl _, hc, hm⟩) ha

/-- Two canonical lists of cells with the same bytes are one list. -/
theorem Memory.ext_readByte : ∀ {m m' : List Host.Cell} {lo lo' : Nat}, Memory.wfFrom lo m = true → Memory.wfFrom lo' m' = true →
    (∀ a, Memory.readByte a m = Memory.readByte a m') → m = m'
  | [], [], _, _, _, _, _ => rfl
  | [], d :: m', _, _, _, h', hread =>
    absurd ((Memory.readByte_head d m').symm.trans (hread d.1).symm) (Memory.wfFrom_cons.mp h').2.1
  | c :: m, [], _, _, h, _, hread =>
    absurd ((Memory.readByte_head c m).symm.trans (hread c.1)) (Memory.wfFrom_cons.mp h).2.1
  | c :: m, d :: m', _, _, h, h', hread => by
    obtain ⟨-, hc, hm⟩ := Memory.wfFrom_cons.mp h
    obtain ⟨-, hd, hm'⟩ := Memory.wfFrom_cons.mp h'
    have haddr : c.1 = d.1 := by
      rcases Nat.lt_trichotomy c.1 d.1 with hlt | heq | hgt
      · exact absurd ((Memory.readByte_head c m).symm.trans ((hread c.1).trans (Memory.readByte_before h' hlt))) hc
      · exact heq
      · exact absurd ((Memory.readByte_head d m').symm.trans ((hread d.1).symm.trans (Memory.readByte_before h hgt))) hd
    have hbyte : c.2 = d.2 := by
      have hat := hread c.1
      rwa [Memory.readByte_head, haddr, Memory.readByte_head] at hat
    have htail : ∀ a, Memory.readByte a m = Memory.readByte a m' := by
      intro a
      rcases Nat.lt_or_ge c.1 a with hlt | hge
      · have hat := hread a
        rwa [Memory.readByte, if_neg (by omega), Memory.readByte, if_neg (by omega)] at hat
      · rw [Memory.readByte_below hm (by omega), Memory.readByte_below hm' (by omega)]
    rw [Prod.ext haddr hbyte, Memory.ext_readByte hm hm' htail]

/-- Two canonical pattern tables with the same words are one table. -/
theorem Memory.ext_words {m m' : List Host.Cell} (h : Memory.wf m = true) (h' : Memory.wf m' = true)
    (hwords : ∀ w, readTableWord m w = readTableWord m' w) : m = m' := by
  refine Memory.ext_readByte h h' fun a => ?_
  have hword := congrArg BitVec.toNat (hwords (a / 4))
  simp only [readTableWord, toNat_append_byte] at hword
  have hbound (k : Nat) := And.intro (Memory.readByte k m).isLt (Memory.readByte k m').isLt
  have h0 := hbound (4 * (a / 4))
  have h1 := hbound (4 * (a / 4) + 1)
  have h2 := hbound (4 * (a / 4) + 2)
  have h3 := hbound (4 * (a / 4) + 3)
  apply BitVec.eq_of_toNat_eq
  obtain hr | hr | hr | hr : a = 4 * (a / 4) ∨ a = 4 * (a / 4) + 1 ∨ a = 4 * (a / 4) + 2 ∨ a = 4 * (a / 4) + 3 := by omega
  all_goals
    rw [hr]
    omega

theorem readTableWord_nil (w : Nat) : readTableWord [] w = 0#32 := (by decide : (0#8 ++ 0#8 ++ 0#8 ++ 0#8 : Word32) = 0#32)

/-- Of two runs of words written to one range the later stands (R173). -/
theorem writeTableWords_writeTableWords {m : List Host.Cell} (h : Memory.wf m = true) (w : Nat) {xs ys : List Word32}
    (hlength : xs.length = ys.length) : writeTableWords (writeTableWords m w xs) w ys = writeTableWords m w ys := by
  have hx := wf_writeTableWords xs w h
  refine Memory.ext_words (wf_writeTableWords ys w hx) (wf_writeTableWords ys w h) fun v => ?_
  rw [readTableWord_writeTableWords ys w v hx, readTableWord_writeTableWords ys w v h, readTableWord_writeTableWords xs w v h]
  split
  · rcases Nat.lt_or_ge (v - w) ys.length with hlt | hge
    · simp [hlt]
    · simp [hge, hlength]
  · rfl

/-! ## The later of two equal codes (R167) -/

theorem Profile.storeNumber_storeNumber (p : Profile) (code u v : Nat) :
    (p.storeNumber code u).storeNumber code v = p.storeNumber code v := by
  fun_cases Profile.storeNumber p code u <;> rfl

theorem Profile.storeKnots_storeKnots (p : Profile) (data data' : List Byte) :
    (p.storeKnots data).storeKnots data' = p.storeKnots data' := by
  unfold Profile.storeKnots
  split_ifs <;> rfl

/-- The later of two items with one code stands; of two ranges of words, where they are one range. -/
theorem Load.store_store {l : Load} (hl : Memory.wf l.table = true) {x y : ProfileItem} (hc : x.code = y.code) (hx : x.taken = true)
    (hy : y.taken = true) (hrange : x.code = 0x0300 → x.data.take 2 = y.data.take 2 ∧ x.data.length = y.data.length) :
    (l.store x).store y = l.store y := by
  by_cases hlist : x.code ∈ [0x0001, 0x0002, 0x0008, 0x000B, 0x000C, 0x0018, 0x0019, 0x001A, 0x0020]
  · simp only [List.mem_cons, List.not_mem_nil, or_false] at hlist
    obtain h | h | h | h | h | h | h | h | h := hlist
    · rw [l.store_size hx h, Load.store_size _ hy (hc ▸ h), l.store_size hy (hc ▸ h)]
    · rw [l.store_mask hx h, Load.store_mask _ hy (hc ▸ h), l.store_mask hy (hc ▸ h)]
    · rw [l.store_cap hx h, Load.store_cap _ hy (hc ▸ h), l.store_cap hy (hc ▸ h)]
    · rw [l.store_h1 hx h, Load.store_h1 _ hy (hc ▸ h), l.store_h1 hy (hc ▸ h)]
    · rw [l.store_h2 hx h, Load.store_h2 _ hy (hc ▸ h), l.store_h2 hy (hc ▸ h)]
    · rw [l.store_b1 hx h, Load.store_b1 _ hy (hc ▸ h), l.store_b1 hy (hc ▸ h)]
    · rw [l.store_b2 hx h, Load.store_b2 _ hy (hc ▸ h), l.store_b2 hy (hc ▸ h)]
    · rw [l.store_b3 hx h, Load.store_b3 _ hy (hc ▸ h), l.store_b3 hy (hc ▸ h)]
    · rw [l.store_knots hx h, Load.store_knots _ hy (hc ▸ h), l.store_knots hy (hc ▸ h), Profile.storeKnots_storeKnots]
  rcases Nat.lt_or_ge x.code 0x0100 with hnumber | hapart
  · rw [l.store_number hx hnumber hlist, Load.store_number _ hy (hc ▸ hnumber) (hc ▸ hlist),
      l.store_number hy (hc ▸ hnumber) (hc ▸ hlist), hc, Profile.storeNumber_storeNumber]
  rcases Nat.lt_or_ge x.code 0x0200 with hwindow | hapart'
  · rw [l.store_window hx hapart hwindow, Load.store_window _ hy (hc ▸ hapart) (hc ▸ hwindow),
      l.store_window hy (hc ▸ hapart) (hc ▸ hwindow), hc, Vector.setIfInBounds_setIfInBounds]
  by_cases hwords : x.code = 0x0300
  · obtain ⟨hindex, hlength⟩ := hrange hwords
    have hcount : (wordsOf (x.data.drop 2)).length = (wordsOf (y.data.drop 2)).length := by
      rw [wordsOf_length, wordsOf_length, List.length_drop, List.length_drop, hlength]
    rw [l.store_words hx hwords, Load.store_words _ hy (hc ▸ hwords), l.store_words hy (hc ▸ hwords), hindex,
      writeTableWords_writeTableWords hl _ hcount]
  · have hfilter : x.code < 0x0300 := by
      have hsize := (itemSize_le (ProfileItem.taken_size hx hwords)).1
      omega
    rw [l.store_filter hx hapart' hfilter, Load.store_filter _ hy (hc ▸ hapart') (hc ▸ hfilter),
      l.store_filter hy (hc ▸ hapart') (hc ▸ hfilter), hc, Vector.setIfInBounds_setIfInBounds]

/-! ## The knot table (R113) -/

theorem itemFactors_flatMap {l : List Nat} (h : ∀ v ∈ l, v < 65536) : itemFactors (l.flatMap (le 2)) = l := by
  induction l with
  | nil => rfl
  | cons v l ih =>
    obtain ⟨hv, hl⟩ := List.forall_mem_cons.mp h
    exact congrArg₂ List.cons (fromLe_le_of_lt (n := 2) hv) (ih hl)

/-- Knots that rise to at most 250 are the ones that are stored. -/
theorem knotsOk_iff (knots : Vector Byte 9) : knotsOk (knots.toList.map BitVec.toNat) = true ↔
    (∀ i : Fin 8, knots[i.castSucc].toNat < knots[i.succ].toNat) ∧ knots[8].toNat ≤ 250 := by
  have hlength : (knots.toList.map BitVec.toNat).length = 9 := by simp
  have hget (n : Nat) (h : n < (knots.toList.map BitVec.toNat).length) : (knots.toList.map BitVec.toNat)[n] =
      (knots[n]'(by simpa using h)).toNat := by simp
  have hrise : rising (knots.toList.map BitVec.toNat) = true ↔ ∀ i : Fin 8, knots[i.castSucc].toNat < knots[i.succ].toNat := by
    rw [rising_iff]
    constructor
    · intro h i
      have hi := h i.val (by omega)
      rwa [hget, hget] at hi
    · intro h n hn
      rw [hget, hget]
      exact h ⟨n, by omega⟩
  rw [knotsOk, Bool.and_eq_true, hrise, List.all_eq_true]
  refine and_congr_right fun h => ⟨fun hall => ?_, fun hlast v hv => ?_⟩
  · exact of_decide_eq_true (hall _ (List.mem_map_of_mem (Vector.mem_toList_iff.mpr (Vector.getElem_mem _))))
  · have hmono := (Fin.strictMono_iff_lt_succ (f := fun i : Fin 9 => knots[i].toNat)).mpr h
    obtain ⟨n, hn, rfl⟩ := List.getElem_of_mem hv
    rw [hget]
    exact decide_eq_true ((hmono.monotone (Fin.le_last ⟨n, by simpa using hn⟩)).trans hlast)

/-- What a knot table item stores. -/
theorem Profile.storeKnots_table (p : Profile) (knots : Vector Byte 9) {factors : Vector Nat 9} (h : ∀ i : Fin 9, factors[i] < 65536) :
    p.storeKnots (knots.toList ++ factors.toList.flatMap (le 2)) =
      if knotsOk (knots.toList.map BitVec.toNat) then
        { p with knots := nine (knots.toList.map BitVec.toNat), factors := nine (factors.toList.map (min · 4095)) }
      else { p with knots := builtInKnots, factors := builtInFactors } := by
  have hfactors : itemFactors (factors.toList.flatMap (le 2)) = factors.toList := by
    refine itemFactors_flatMap fun v hv => ?_
    obtain ⟨n, hn, rfl⟩ := List.getElem_of_mem hv
    exact h ⟨n, by simpa using hn⟩
  rw [Profile.storeKnots, itemKnots, List.take_left' knots.length_toList, List.drop_left' knots.length_toList, hfactors]

/-! ## Items of an image -/

theorem ProfileItem.taken_of_size {x : ProfileItem} (hc : x.code ≠ 0x0300) (h : itemSize x.code = some x.data.length) : x.taken = true := by
  simp [ProfileItem.taken, hc, h]

theorem wordsItem_taken {index : Nat} {words : List Word32} (hlow : 1 ≤ words.length) (hhigh : words.length ≤ 63)
    (hend : index + words.length ≤ 1024) :
    ProfileItem.taken ⟨0x0300, le 2 index ++ words.flatMap (fun x => le 4 x.toNat)⟩ = true := by
  have hindex : fromLe (le 2 index) = index := fromLe_le_of_lt (by omega)
  have hbytes : (words.flatMap (fun x => le 4 x.toNat)).length = 4 * words.length := bytesOf_length words
  simp [ProfileItem.taken, tableItemOk, hbytes, hindex, hlow, hhigh, hend]

theorem itemSize_window (n : Fin 16) : itemSize (0x0100 + n.val) = some 22 := by revert n; decide

theorem itemSize_filter (n : Fin 16) : itemSize (0x0200 + n.val) = some 2 := by revert n; decide

theorem windowItem_taken (n : Fin 16) {data : List Byte} (h : data.length = 22) : ProfileItem.taken ⟨0x0100 + n.val, data⟩ = true :=
  ProfileItem.taken_of_size (by dsimp only; omega) ((itemSize_window n).trans (congrArg some h.symm))

theorem filterItem_taken (n : Fin 16) (a b : Byte) : ProfileItem.taken ⟨0x0200 + n.val, [a, b]⟩ = true :=
  ProfileItem.taken_of_size (by dsimp only; omega) (itemSize_filter n)

theorem knotsItem_taken (knots : Vector Byte 9) (factors : Vector Nat 9) :
    ProfileItem.taken ⟨0x0020, knots.toList ++ factors.toList.flatMap (le 2)⟩ = true :=
  ProfileItem.taken_of_size (show 0x0020 ≠ 0x0300 by decide) (by simp [List.length_flatMap]; rfl)

theorem Load.store_window_of (l : Load) (n : Fin 16) {data : List Byte} (h : data.length = 22) :
    l.store ⟨0x0100 + n.val, data⟩ = { l with windows := l.windows.set n (itemWindow data) } := by
  rw [l.store_window (windowItem_taken n h) (Nat.le_add_right _ _) (by dsimp only; omega)]
  congr 1
  ext1 k hk
  simp [Vector.getElem_setIfInBounds, Vector.getElem_set]

/-- The pattern table that a load of one range of words leaves (R59). -/
theorem Load.store_words_of {index : Nat} {words : List Word32} (hlow : 1 ≤ words.length) (hhigh : words.length ≤ 63)
    (hend : index + words.length ≤ 1024) :
    (Load.builtIn.store ⟨0x0300, le 2 index ++ words.flatMap (fun x => le 4 x.toNat)⟩).table = writeTableWords [] index words := by
  have hindex : fromLe (le 2 index) = index := fromLe_le_of_lt (by omega)
  rw [Load.builtIn.store_words (wordsItem_taken hlow hhigh hend) rfl, List.take_left' (le_length 2 index),
    List.drop_left' (le_length 2 index), hindex, wordsOf_flatMap]
  rfl

/-- The window of a record: as R47 stores it, or the built-in one. -/
theorem itemWindow_cases {data : List Byte} {raw : RawWindow} (h : RawWindow.parse data = some raw) :
    (raw.Named → raw.StoredAs (itemWindow data)) ∧ (¬raw.Named → itemWindow data = Window.builtIn) := by
  rw [itemWindow, h, Option.bind_some]
  obtain ⟨hnamed, w, hw, hstored⟩ | ⟨hnamed, hw⟩ := raw.stored_cases
  · rw [hw]
    exact ⟨fun _ => hstored, fun hn => absurd hnamed hn⟩
  · rw [hw]
    exact ⟨fun hn => absurd hn hnamed, fun _ => rfl⟩

/-- The capture records of one filter item (R101). -/
theorem filterRecords_store (n : Fin 16) (slots kinds : Byte) :
    filterRecords (Load.builtIn.store ⟨0x0200 + n.val, [slots, kinds]⟩).filters =
      (Vector.replicate 16 CaptureRecord.initial).set n (CaptureRecord.filtered slots (kinds.setWidth 6)) := by
  have hslots : BitVec.ofNat 8 (fromLe [slots, kinds]) = slots := by
    unfold fromLe
    bv_omega
  have hkinds : BitVec.ofNat 6 (fromLe [slots, kinds] / 256) = kinds.setWidth 6 := by
    unfold fromLe fromLe
    bv_omega
  rw [Load.builtIn.store_filter (filterItem_taken n slots kinds) (Nat.le_add_right _ _) (by dsimp only; omega)]
  dsimp only
  rw [hslots, hkinds, Nat.add_sub_cancel_left, filterRecords, Vector.map_setIfInBounds]
  ext1 k hk
  simp [Load.builtIn, Vector.getElem_setIfInBounds, Vector.getElem_set, CaptureRecord.filtered, CaptureRecord.initial]

theorem State.afterLoad_congr {items items' : List ProfileItem}
    (h : items.foldl Load.store Load.builtIn = items'.foldl Load.store Load.builtIn) (s : State) (kind : LoadKind) (source : LoadSource) :
    s.afterLoad kind source items =
      { s.afterLoad kind source items' with loaderResult := (s.afterLoad kind source items).loaderResult } := by
  unfold State.afterLoad
  rw [h]

/-! ## The settled statement -/

/-- Settles O7: each kind of item by the equation of its store, and the later of two equal codes. -/
theorem profileImageItemsStored : Obligations.ProfileImageItemsStored := by
  intro s kind began hreset hload hstrap loads
  have hmany {items : List ProfileItem} {holds : State → Prop} (ht : ∀ x ∈ items, x.taken = true)
      (hcount : 8 + 258 * items.length ≤ 8192) (h : holds (s.afterLoad kind .eeprom items)) : loads items holds :=
    ⟨_, exec_profileReady_image hreset hload hstrap (fun x hx => x.encodable_of_taken (ht x hx)) hcount, rfl, rfl, h⟩
  have hone {x : ProfileItem} {holds : State → Prop} (ht : x.taken = true) (h : holds (s.afterLoad kind .eeprom [x])) : loads [x] holds :=
    hmany (List.forall_mem_singleton.mpr ht) (show 8 + 258 * 1 ≤ 8192 by decide) h
  refine ⟨fun v hv => hone rfl ?_, fun n en mask an ac ki fill base len start tlen hb hl hs ht => hone (windowItem_taken n (by simp)) ?_,
    fun index words hlow hhigh hend => hone (wordsItem_taken hlow hhigh hend) ?_,
    fun n slots kinds => hone (filterItem_taken n slots kinds) ⟨?_, ?_⟩, fun v hv => hone rfl ⟨?_, ?_⟩,
    fun knots factors hfactors => hone (knotsItem_taken knots factors) ?_, fun a b => ?_, fun b1 b2 b3 h1 h2 h3 => ?_,
    fun v hv => hone rfl ?_, fun x y hc hx hy hrange => ?_⟩
  · change (sizeOf (fromLe (le 2 v))).getD (strappedSize s.straps) = _
    rw [fromLe_le_of_lt hv]
    unfold sizeOf strappedSize
    split_ifs <;> rfl
  · obtain ⟨hnamed, hbuiltIn⟩ := itemWindow_cases (RawWindow.parse_record en mask an ac ki fill hb hl hs ht)
    refine ⟨itemWindow _, congrArg Load.windows (Load.builtIn.store_window_of n (by simp)), hbuiltIn, fun hvalid => ?_⟩
    have hw := hnamed hvalid
    exact ⟨hw.enabled, hw.mask, hw.anchor, hw.action, hw.kind, hw.fill, hw.base, hw.length, hw.tableStart, hw.tableLength⟩
  · change (∀ (k : Nat) (x : Word32), words[k]? = some x → readTableWord (Load.builtIn.store _).table (index + k) = x) ∧
      ∀ w, w < index ∨ index + words.length ≤ w → readTableWord (Load.builtIn.store _).table w = 0#32
    rw [Load.store_words_of hlow hhigh hend]
    obtain ⟨hin, hout⟩ := readTableWord_written (m := []) rfl index words
    exact ⟨hin, fun w hw => (hout w hw).trans (readTableWord_nil w)⟩
  · rintro rfl
    rfl
  · rintro rfl
    exact congrArg (fun r => { s.capture with records := r }) (filterRecords_store n slots kinds)
  · rintro rfl
    rfl
  · rintro rfl
    exact congrArg (BitVec.ofNat 17) (fromLe_le_of_lt (n := 3) hv)
  · intro rise
    have hprofile : (s.afterLoad kind .eeprom [⟨0x0020, knots.toList ++ factors.toList.flatMap (le 2)⟩]).profile =
        ((if knotsOk (knots.toList.map BitVec.toNat) then
          { Profile.builtIn with knots := nine (knots.toList.map BitVec.toNat), factors := nine (factors.toList.map (min · 4095)) }
        else { Profile.builtIn with knots := builtInKnots, factors := builtInFactors } : Profile)).settled s.largestCount := by
      rw [← Profile.storeKnots_table _ _ hfactors]
      exact congrArg (fun l : Load => l.profile.settled s.largestCount) (Load.builtIn.store_knots (knotsItem_taken knots factors) rfl)
    rw [hprofile]
    refine ⟨fun hrise i => ?_, fun hrise => ?_⟩
    · rw [if_pos ((knotsOk_iff knots).mpr hrise)]
      exact ⟨(nine_get _ i).trans (by simp), (nine_get _ i).trans (by simp)⟩
    · rw [if_neg (mt (knotsOk_iff knots).mp hrise)]
      exact ⟨rfl, rfl⟩
  · have hh1 : (s.afterLoad kind .eeprom [⟨0x000B, [a]⟩, ⟨0x000C, [b]⟩]).profile.h1 =
        if clampTo 0 249 a.toNat < clampTo 1 250 b.toNat then clampTo 0 249 a.toNat else clampTo 1 250 b.toNat - 1 := rfl
    have hh2 : (s.afterLoad kind .eeprom [⟨0x000B, [a]⟩, ⟨0x000C, [b]⟩]).profile.h2 = clampTo 1 250 b.toNat := rfl
    refine hmany (List.forall_mem_cons.mpr ⟨rfl, List.forall_mem_singleton.mpr rfl⟩) (show 8 + 258 * 2 ≤ 8192 by decide) ⟨hh2, ?_, ?_⟩
    · rw [hh1, hh2]
      unfold clampTo
      split <;> omega
    · cases kind <;> rfl
  · refine hmany (List.forall_mem_cons.mpr ⟨rfl, List.forall_mem_cons.mpr ⟨rfl, List.forall_mem_singleton.mpr rfl⟩⟩)
      (show 8 + 258 * 3 ≤ 8192 by decide) ?_
    change ({ GradingItems.builtIn with
      b1 := fromLe (le 4 b1), b2 := max (fromLe (le 4 b1)) (fromLe (le 4 b2))
      b3 := max (max (fromLe (le 4 b1)) (fromLe (le 4 b2))) (fromLe (le 4 b3)) } : GradingItems) = _
    rw [fromLe_le_of_lt (n := 4) h1, fromLe_le_of_lt (n := 4) h2, fromLe_le_of_lt (n := 4) h3]
  · change max (clampTo 1 512 (fromLe (le 2 v))) s.largestCount = _
    rw [fromLe_le_of_lt hv]
    rfl
  · have hsame : [x, y].foldl Load.store Load.builtIn = [y].foldl Load.store Load.builtIn := Load.store_store rfl hc hx hy hrange
    exact hmany (List.forall_mem_cons.mpr ⟨hx, List.forall_mem_singleton.mpr hy⟩) (by simp)
      ⟨_, exec_profileReady_image hreset hload hstrap (List.forall_mem_singleton.mpr (y.encodable_of_taken hy)) (by simp),
        State.afterLoad_congr hsame s kind .eeprom⟩

end Sys2Proof.Machine
end

section
/-!
The widths of the counts (00_scope.md, Table 3): what each change of a slot record, of the capture unit, of the chamber receiver and of a
lane leaves within them (R70, R88, R105, R107, R108).
-/
namespace Sys2Proof.Machine

/-! ## Saturating counts -/

theorem satAdd_le (limit a b : Nat) : satAdd limit a b ≤ limit := Nat.min_le_right _ _

theorem inc8_le (n : Nat) : inc8 n ≤ 255 := satAdd_le _ _ _

theorem inc16_le (n : Nat) : inc16 n ≤ max16 := satAdd_le _ _ _

theorem inc32_le (n : Nat) : inc32 n ≤ max32 := satAdd_le _ _ _

/-- A time since another one is 32 bits wide. -/
theorem State.elapsed_le (s : State) (since : Time) : s.elapsed since ≤ max32 := by
  have hlt := (s.timebase - since).isLt
  unfold State.elapsed max32
  omega

/-! ## Test counters (R26, R70) -/

/-- The test counters are in their widths, and the results that are no match together within checked_sectors (R70). -/
structure TestCounters.InRange (c : TestCounters) : Prop where
  writtenSectors : c.writtenSectors ≤ max32
  checkedSectors : c.checkedSectors ≤ max32
  stale : c.stale ≤ max16
  slip : c.slip ≤ max16
  corrupt : c.corrupt ≤ max16
  media : c.media ≤ max16
  timeouts : c.timeouts ≤ max16
  late : c.late ≤ max16
  aborted : c.aborted ≤ max16
  abandoned : c.abandoned ≤ max16
  withheld : c.withheld ≤ max16
  anomalies : c.anomalies ≤ max16
  results : c.stale + c.slip + c.corrupt ≤ c.checkedSectors

theorem TestCounters.InRange.zero : TestCounters.zero.InRange := by constructor <;> exact Nat.zero_le _

theorem TestCounters.InRange.anomaly {c : TestCounters} (h : c.InRange) : c.anomaly.InRange :=
  { h with anomalies := inc16_le _ }

theorem TestCounters.InRange.abandon {c : TestCounters} (h : c.InRange) : c.abandon.InRange :=
  { h with abandoned := inc16_le _ }

theorem TestCounters.InRange.abandonMany {c : TestCounters} (h : c.InRange) (n : Nat) : (c.abandonMany n).InRange :=
  { h with abandoned := satAdd_le _ _ _ }

/-- One result more and one checked sector more. At the limit of checked_sectors the results, 16 bits wide each, are still below it. -/
theorem results_le_checked {a b n : Nat} (ha : a ≤ max16) (hb : b ≤ 2 * max16) (h : a + b ≤ n) : inc16 a + b ≤ inc32 n := by
  unfold inc16 inc32 satAdd max16 max32 at *
  omega

theorem TestCounters.InRange.checkedWith {c : TestCounters} (h : c.InRange) (res : CheckResult) : (c.checkedWith res).InRange := by
  have hstale := h.stale
  have hslip := h.slip
  have hcorrupt := h.corrupt
  have hresults := h.results
  cases res with
  | isMatch =>
    have hchecked : c.stale + c.slip + c.corrupt ≤ inc32 c.checkedSectors := by
      unfold inc32 satAdd max16 max32 at *
      omega
    exact { h with checkedSectors := inc32_le _, results := hchecked }
  | stale p =>
    have hsum := results_le_checked (b := c.slip + c.corrupt) (n := c.checkedSectors) hstale (by omega) (by omega)
    exact { h with checkedSectors := inc32_le _, stale := inc16_le _, results := (Nat.add_assoc _ _ _).trans_le hsum }
  | slip offset =>
    have hsum := results_le_checked (b := c.stale + c.corrupt) (n := c.checkedSectors) hslip (by omega) (by omega)
    exact { h with
      checkedSectors := inc32_le _
      slip := inc16_le _
      results := by show c.stale + inc16 c.slip + c.corrupt ≤ inc32 c.checkedSectors; omega }
  | corrupt first expected actual n =>
    have hsum := results_le_checked (b := c.stale + c.slip) (n := c.checkedSectors) hcorrupt (by omega) (by omega)
    exact { h with checkedSectors := inc32_le _, corrupt := inc16_le _, results := (Nat.add_comm _ _).trans_le hsum }

/-! ## Latency statistics (R38, R39) -/

/-- The latency statistics are in their widths. -/
structure Latency.InRange (x : Latency) : Prop where
  slowCount : x.slowCount ≤ max16
  maxLatency : x.maxLatency ≤ max32
  histogram : ∀ b : Fin 16, x.histogram[b] ≤ max16

theorem Latency.InRange.zero : Latency.zero.InRange :=
  ⟨Nat.zero_le _, Nat.zero_le _, fun b => by simp [Latency.zero]⟩

theorem Latency.InRange.sample {x : Latency} (h : x.InRange) (bucket : Fin 16) (slow : Bool) {latency : Nat}
    (hl : latency ≤ max32) : (x.sample bucket slow latency).InRange where
  slowCount := by
    unfold Latency.sample
    dsimp only
    split
    · exact inc16_le _
    · exact h.slowCount
  maxLatency := Nat.max_le.mpr ⟨h.maxLatency, hl⟩
  histogram b := by
    simp only [Latency.sample, Fin.getElem_fin, Vector.getElem_set]
    split
    · exact inc16_le _
    · exact h.histogram b

/-! ## Soak block (R116) -/

/-- The soak block is in its widths, max_h a reading's. -/
structure SoakBlock.InRange (k : SoakBlock) : Prop where
  a : k.a ≤ max32
  burnSeconds : k.burnSeconds ≤ max32
  staleSeconds : k.staleSeconds ≤ max32
  chamberOffSeconds : k.chamberOffSeconds ≤ max32
  coldSeconds : k.coldSeconds ≤ max32
  excursionSeconds : k.excursionSeconds ≤ max32
  heldSeconds : k.heldSeconds ≤ max32
  target : k.target ≤ max16
  maxH : k.maxH ≤ 250

theorem SoakBlock.InRange.withTarget {g : Nat} (h : g ≤ max16) : (SoakBlock.withTarget g).InRange := by
  constructor
  case target => exact h
  all_goals exact Nat.zero_le _

theorem SoakBlock.InRange.credit {k : SoakBlock} (hk : k.InRange) (p : Profile) (h1 : Nat) {h : Nat} (hh : h ≤ 250) :
    (k.credit p h1 h).InRange := by
  have hcold : (k.credit p h1 h).coldSeconds ≤ max32 := by
    unfold SoakBlock.credit
    dsimp only
    split
    · exact inc32_le _
    · exact hk.coldSeconds
  have hexcursion : (k.credit p h1 h).excursionSeconds ≤ max32 := by
    rw [SoakBlock.credit_excursionSeconds]
    split
    · exact inc32_le _
    · exact hk.excursionSeconds
  exact { hk with
    a := satAdd_le _ _ _
    coldSeconds := hcold
    excursionSeconds := hexcursion
    maxH := Nat.max_le.mpr ⟨hk.maxH, hh⟩ }

/-- A second in BURN keeps the block in its widths where the readings are in theirs (R109, R116). -/
theorem SoakBlock.InRange.second {k : SoakBlock} (hk : k.InRange) (p : Profile) {c : Chamber} (hc : c.countsInRange) (i : SlotId) :
    (k.second p c i).1.InRange := by
  obtain ⟨-, hreadings⟩ := hc
  have hburn : SoakBlock.InRange { k with burnSeconds := inc32 k.burnSeconds } := { hk with burnSeconds := inc32_le _ }
  unfold SoakBlock.second
  dsimp only
  split
  case h_4 h he =>
    split
    · exact { hburn with chamberOffSeconds := inc32_le _ }
    · refine hburn.credit p _ (hreadings i h ?_)
      unfold Chamber.effective at he
      split at he
      · exact Option.some.inj he
      · cases he
  all_goals exact { hburn with staleSeconds := inc32_le _ }

/-! ## Defect summary (R77 to R84) -/

/-- Every extent's hits are 8 bits wide. -/
def HitsInRange (es : List Extent) : Prop := ∀ x ∈ es, x.hits ≤ 255

theorem HitsInRange.nil : HitsInRange [] := nofun

theorem HitsInRange.cons {e : Extent} {es : List Extent} : HitsInRange (e :: es) ↔ e.hits ≤ 255 ∧ HitsInRange es :=
  List.forall_mem_cons

/-- A list rebuilt behind an extent that stays. -/
theorem HitsInRange.map_cons {e : Extent} {o : Option (List Extent)} {es : List Extent} (he : e.hits ≤ 255)
    (h : ∀ fs, o = some fs → HitsInRange fs) (hes : o.map (e :: ·) = some es) : HitsInRange es := by
  obtain ⟨fs, hfs, rfl⟩ := Option.map_eq_some_iff.mp hes
  exact HitsInRange.cons.mpr ⟨he, h fs hfs⟩

theorem HitsInRange.consMerging {e : Extent} {es : List Extent} (he : e.hits ≤ 255) (h : HitsInRange es) :
    HitsInRange (consMerging e es) := by
  unfold Machine.consMerging
  split
  · exact HitsInRange.cons.mpr ⟨he, .nil⟩
  · obtain ⟨-, hrest⟩ := HitsInRange.cons.mp h
    split
    · exact HitsInRange.cons.mpr ⟨satAdd_le _ _ _, hrest⟩
    · exact HitsInRange.cons.mpr ⟨he, h⟩

theorem HitsInRange.absorbInto {l : Nat} {c : Cause} {p : Nat} : ∀ {es fs : List Extent}, HitsInRange es →
    absorbInto l c p es = some fs → HitsInRange fs
  | e :: es, fs, h, hfs => by
    obtain ⟨he, hes⟩ := HitsInRange.cons.mp h
    unfold Machine.absorbInto at hfs
    split at hfs
    · cases hfs
      exact HitsInRange.cons.mpr ⟨inc8_le _, hes⟩
    · exact .map_cons he (fun _ => HitsInRange.absorbInto hes) hfs

theorem HitsInRange.extendUp {l : Nat} {c : Cause} {p : Nat} : ∀ {es fs : List Extent}, HitsInRange es →
    extendUp l c p es = some fs → HitsInRange fs
  | e :: es, fs, h, hfs => by
    obtain ⟨he, hes⟩ := HitsInRange.cons.mp h
    unfold Machine.extendUp at hfs
    split at hfs
    · cases hfs
      exact .consMerging (inc8_le _) hes
    · exact .map_cons he (fun _ => HitsInRange.extendUp hes) hfs

theorem HitsInRange.extendDownAfter {l : Nat} {c : Cause} {p : Nat} : ∀ {es fs : List Extent} {below : Extent}, below.hits ≤ 255 →
    HitsInRange es → extendDownAfter l c p below es = some fs → HitsInRange fs
  | e :: es, fs, below, hb, h, hfs => by
    obtain ⟨he, hes⟩ := HitsInRange.cons.mp h
    unfold Machine.extendDownAfter at hfs
    split at hfs
    · cases hfs
      exact .consMerging hb (HitsInRange.cons.mpr ⟨inc8_le _, hes⟩)
    · exact .map_cons hb (fun _ => HitsInRange.extendDownAfter he hes) hfs

theorem HitsInRange.extendDown {l : Nat} {c : Cause} {p : Nat} {es fs : List Extent} (h : HitsInRange es)
    (hfs : extendDown l c p es = some fs) : HitsInRange fs := by
  unfold Machine.extendDown at hfs
  split at hfs
  · cases hfs
  · obtain ⟨he, hes⟩ := HitsInRange.cons.mp h
    split at hfs
    · cases hfs
      exact HitsInRange.cons.mpr ⟨inc8_le _, hes⟩
    · exact .extendDownAfter he hes hfs

theorem HitsInRange.placeExtent {x : Extent} (hx : x.hits ≤ 255) : ∀ {es : List Extent}, HitsInRange es →
    HitsInRange (placeExtent x es)
  | [], _ => HitsInRange.cons.mpr ⟨hx, .nil⟩
  | e :: es, h => by
    obtain ⟨he, hes⟩ := HitsInRange.cons.mp h
    unfold Machine.placeExtent
    split
    · exact HitsInRange.cons.mpr ⟨hx, h⟩
    · exact HitsInRange.cons.mpr ⟨he, .placeExtent hx hes⟩

/-- The defect summary is in its widths. -/
structure Defects.InRange (d : Defects) : Prop where
  sectors : d.sectors ≤ max32
  unrecorded : d.unrecorded ≤ max16
  hits : HitsInRange d.extents

theorem Defects.InRange.none : Defects.none.InRange := ⟨Nat.zero_le _, Nat.zero_le _, .nil⟩

theorem Defects.InRange.extended {d : Defects} (h : d.InRange) {es : List Extent} (hes : HitsInRange es) : (d.extended es).InRange :=
  { h with sectors := inc32_le _, hits := hes }

theorem Defects.InRange.insertDefect {d : Defects} (h : d.InRange) (cap l : Nat) (c : Cause) (p free : Nat) :
    (Machine.insertDefect cap l c p d free).1.InRange := by
  obtain ⟨es, ha, hi⟩ | ⟨-, es, hext, hi⟩ | ⟨-, -, -, -, -, hi⟩ | ⟨-, -, -, -, hi⟩ := insertDefect_cases cap l c p d free <;> rw [hi]
  · exact { h with hits := h.hits.absorbInto ha }
  · obtain hu | ⟨-, hd⟩ := hext
    · exact h.extended (h.hits.extendUp hu)
    · exact h.extended (h.hits.extendDown hd)
  · exact h.extended (.placeExtent (show 1 ≤ 255 by decide) h.hits)
  · exact { h with unrecorded := inc16_le _ }

/-! ## Ship state (R73, R74) -/

/-- The ship state is in its widths. -/
structure ShipState.InRange (x : ShipState) : Prop where
  filled : x.filled ≤ max32
  verifiedFill : x.verifiedFill ≤ max32
  bad : x.bad ≤ max16

theorem ShipState.InRange.emptied (pad : Byte) : (ShipState.emptied pad).InRange := ⟨Nat.zero_le _, Nat.zero_le _, Nat.zero_le _⟩

theorem ShipState.InRange.sent {x : ShipState} (h : x.InRange) (img : Image) : (x.sent img).InRange := by
  cases img <;> exact { h with filled := inc32_le _ }

theorem ShipState.InRange.checked {x : ShipState} (h : x.InRange) (img : Image) (isMatch : Bool) : (x.checked img isMatch).InRange := by
  unfold ShipState.checked
  split
  · split
    · split <;> exact { h with }
    · exact { h with bad := inc16_le _ }
  all_goals
    split
    · exact { h with verifiedFill := inc32_le _ }
    · exact { h with bad := inc16_le _ }

/-! ## Slot records -/

/-- What `SlotRecord.countsInRange` says, part by part. -/
structure SlotRecord.InRange (r : SlotRecord) : Prop where
  counters : r.counters.InRange
  latency : r.latency.InRange
  soak : r.soak.InRange
  defects : r.defects.InRange
  ship : r.ship.InRange
  shipped : r.shipped ≤ max16
  pass : r.pass ≤ max16

theorem SlotRecord.countsInRange_iff (r : SlotRecord) : r.countsInRange ↔ r.InRange := by
  constructor
  · rintro ⟨⟨hw, hc⟩, ⟨hst, hsl, hco, hme⟩, ⟨hti, hla, hab⟩, ⟨hba, hwi, han⟩, ⟨hslow, hmax, hhist⟩, ⟨ha, hb, hs, hoff⟩, ⟨hcold, hex, hheld⟩,
      ⟨hg, hh⟩, ⟨hds, hdu, hdx⟩, hsum, ⟨hfi, hvf, hbad⟩, hship, hpass⟩
    exact ⟨⟨hw, hc, hst, hsl, hco, hme, hti, hla, hab, hba, hwi, han, hsum⟩, ⟨hslow, hmax, hhist⟩,
      ⟨ha, hb, hs, hoff, hcold, hex, hheld, hg, hh⟩, ⟨hds, hdu, hdx⟩, ⟨hfi, hvf, hbad⟩, hship, hpass⟩
  · rintro ⟨⟨hw, hc, hst, hsl, hco, hme, hti, hla, hab, hba, hwi, han, hsum⟩, ⟨hslow, hmax, hhist⟩,
      ⟨ha, hb, hs, hoff, hcold, hex, hheld, hg, hh⟩, ⟨hds, hdu, hdx⟩, ⟨hfi, hvf, hbad⟩, hship, hpass⟩
    exact ⟨⟨hw, hc⟩, ⟨hst, hsl, hco, hme⟩, ⟨hti, hla, hab⟩, ⟨hba, hwi, han⟩, ⟨hslow, hmax, hhist⟩, ⟨ha, hb, hs, hoff⟩, ⟨hcold, hex, hheld⟩,
      ⟨hg, hh⟩, ⟨hds, hdu, hdx⟩, hsum, ⟨hfi, hvf, hbad⟩, hship, hpass⟩

theorem SlotRecord.InRange.initial {shipped : Nat} (h : shipped ≤ max16) : (SlotRecord.initial shipped).InRange :=
  ⟨.zero, .zero, .withTarget (Nat.zero_le _), .none, .emptied _, h, Nat.zero_le _⟩

theorem SlotRecord.InRange.cleared {r : SlotRecord} (h : r.InRange) (present : Bool) : (r.cleared present).InRange :=
  { SlotRecord.InRange.initial h.shipped with }

theorem SlotRecord.InRange.started {r : SlotRecord} (h : r.InRange) (seed : Word32) {g : Nat} (hg : g ≤ max16) :
    (r.started seed g).InRange := by
  have htarget : (if g = 0 then 1 else g) ≤ max16 := by
    split
    · decide
    · exact hg
  exact { SlotRecord.InRange.initial h.shipped with soak := .withTarget htarget, pass := (by decide : 1 ≤ max16) }

theorem SlotRecord.InRange.count {r : SlotRecord} (h : r.InRange) {f : TestCounters → TestCounters}
    (hf : r.counters.InRange → (f r.counters).InRange) : (r.count f).InRange := { h with counters := hf h.counters }

theorem SlotRecord.InRange.shipBad {r : SlotRecord} (h : r.InRange) : r.shipBad.InRange :=
  { h with ship := { h.ship with bad := inc16_le _ } }

theorem SlotRecord.InRange.orphanedWith {r : SlotRecord} (h : r.InRange) (n : Nat) : (r.orphanedWith n).InRange :=
  { h with counters := h.counters.abandonMany n }

theorem SlotRecord.InRange.shippedOff {r : SlotRecord} (h : r.InRange) : r.shippedOff.InRange := by
  unfold SlotRecord.shippedOff
  split
  · exact h
  · split
    · exact h
    · exact { h with shipped := inc16_le _ }

theorem SlotRecord.InRange.releasedRun {r q : SlotRecord} (h : r.InRange) (hq : r.releasedRun = some q) : q.InRange := by
  unfold SlotRecord.releasedRun at hq
  dsimp only at hq
  split at hq
  case h_1 =>
    split at hq <;> cases hq
    exact { h with }
  case h_2 | h_3 =>
    cases hq
    exact { h with }
  all_goals cases hq

theorem SlotRecord.InRange.shipRestarted {r : SlotRecord} (h : r.InRange) (fill : Byte) : (r.shipRestarted fill).InRange := by
  unfold SlotRecord.shipRestarted
  split
  case h_1 => exact { h with ship := .emptied fill }
  all_goals exact h

theorem SlotRecord.InRange.latencySample {r : SlotRecord} (h : r.InRange) (p : Profile) {latency : Nat} (hl : latency ≤ max32) :
    (latencySample p latency r).InRange := { h with latency := h.latency.sample _ _ hl }

theorem SlotRecord.InRange.lateSample {r : SlotRecord} (h : r.InRange) {latency : Nat} (hl : latency ≤ max32) :
    (lateSample latency r).InRange :=
  { h with latency := h.latency.sample _ _ hl, counters := { h.counters with late := inc16_le _ } }

/-! ## Capture unit (R88, R91 to R99) -/

theorem CaptureUnit.countsInRange.setRecord {u : CaptureUnit} (h : u.countsInRange) (n : Fin 16) {r : CaptureRecord}
    (hr : r.arrivals ≤ max16) : (u.setRecord n r).countsInRange := by
  obtain ⟨hrecords, hcounts⟩ := h
  refine ⟨fun m => ?_, hcounts⟩
  simp only [CaptureUnit.setRecord, Fin.getElem_fin, Vector.getElem_set]
  split
  · exact hr
  · exact hrecords m

theorem CaptureUnit.countsInRange.written {u : CaptureUnit} (h : u.countsInRange) (n : Fin 16) (st : RecordState) :
    (u.setRecord n (u.records[n].written st)).countsInRange := h.setRecord n (inc16_le _)

theorem CaptureUnit.countsInRange.deliver {u : CaptureUnit} (h : u.countsInRange) (e : CaptureEvent) : (u.deliver e).1.countsInRange := by
  obtain ⟨hrecords, hlost, hunmatched⟩ := id h
  obtain ⟨n, -, hd⟩ | ⟨n, -, hd⟩ | ⟨n, -, -, hd⟩ | ⟨n, st, -, -, hd⟩ | ⟨-, hd⟩ := u.deliver_cases e <;> rw [hd]
  · exact h.written n _
  · exact h.written n _
  · exact h
  · exact ⟨hrecords, inc16_le _, hunmatched⟩
  · exact ⟨hrecords, hlost, inc16_le _⟩

theorem CaptureUnit.countsInRange.releaseLock {u : CaptureUnit} (h : u.countsInRange) : u.releaseLock.1.countsInRange := by
  obtain ⟨hrecords, -⟩ := id h
  obtain ⟨-, hl⟩ | ⟨n, st, -, -, -, hl⟩ | ⟨n, -, -, hl⟩ := u.releaseLock_cases <;> rw [hl]
  · exact h
  · exact h.written n _
  · exact h.setRecord n (hrecords n)

theorem CaptureUnit.countsInRange.opened {u : CaptureUnit} (h : u.countsInRange) (n : Fin 16) : (u.opened n).1.countsInRange := by
  have hreleased : (if u.locked = some n then (u, none) else u.releaseLock).1.countsInRange := by
    split
    · exact h
    · exact h.releaseLock
  unfold CaptureUnit.opened
  generalize (if u.locked = some n then (u, none) else u.releaseLock) = v at hreleased
  exact hreleased

theorem CaptureUnit.countsInRange.closed {u : CaptureUnit} (h : u.countsInRange) : u.closed.1.countsInRange := h.releaseLock

theorem CaptureUnit.countsInRange.filterSet {u : CaptureUnit} (h : u.countsInRange) (n : Fin 16) (slotMask : BitVec 8)
    (kindMask : BitVec 6) : (u.filterSet n slotMask kindMask).1.countsInRange := by
  obtain ⟨hrecords, hlost, hunmatched⟩ := h.setRecord n (r := CaptureRecord.filtered slotMask kindMask) (Nat.zero_le _)
  refine ⟨hrecords, ?_, hunmatched⟩
  unfold CaptureUnit.filterSet
  dsimp only
  split
  · exact inc16_le _
  · exact hlost

/-! ## Chamber receiver (R105, R107 to R109) -/

/-- A temperature byte is a reading of R109. -/
theorem Reading.ofByte_valid {b : Byte} {h : Nat} (hb : Reading.ofByte b = .valid h) : h ≤ 250 := by
  unfold Reading.ofByte at hb
  split at hb
  · cases hb; assumption
  · split at hb <;> cases hb

/-- The readings of a frame are those of R109. -/
theorem frameReadings_valid {bs : List Byte} {i : SlotId} {h : Nat} (hr : (frameReadings bs)[i] = .valid h) : h ≤ 250 := by
  have hget : (frameReadings bs)[i] = Reading.ofByte (bs.getD i.val 0xFF#8) := by fin_cases i <;> rfl
  exact Reading.ofByte_valid (hget.symm.trans hr)

theorem Chamber.countsInRange.completed {c : Chamber} (h : c.countsInRange) (f : FrameInProgress) (status : Byte) (now : Time) (h1 : Nat) :
    (c.completed f status now h1).countsInRange := by
  obtain ⟨⟨herrors, hgaps, hbreaks, -⟩, -⟩ := h
  refine ⟨⟨herrors, ?_, hbreaks, inc32_le _⟩, fun i x hx => frameReadings_valid hx⟩
  unfold Chamber.completed
  dsimp only
  split
  · exact inc16_le _
  · exact hgaps

/-! ## Tag entries (R30) -/

/-- The error sectors of every open entry of a lane are 16 bits wide. -/
def Lane.ErrorsInRange (l : Lane) : Prop := ∀ e t, l.entry e = some t → t.errorSectors ≤ max16

theorem Lane.ErrorsInRange.of_tags {l m : Lane} (h : l.ErrorsInRange) (ht : m.tags = l.tags) : m.ErrorsInRange :=
  fun e t he => h e t (by simpa only [Lane.entry, ht] using he)

theorem Lane.ErrorsInRange.of_closed {l : Lane} (h : ∀ e, l.entry e = none) : l.ErrorsInRange :=
  fun e t he => by simp [h e] at he

theorem Lane.ErrorsInRange.setEntry {l : Lane} (h : l.ErrorsInRange) (e : EntryId) {t : TagEntry} (ht : t.errorSectors ≤ max16) :
    (l.setEntry e (some t)).ErrorsInRange := by
  intro d u hu
  rw [Lane.entry_setEntry] at hu
  split at hu
  · cases hu; exact ht
  · exact h d u hu

theorem Lane.ErrorsInRange.free {l : Lane} (h : l.ErrorsInRange) (e : EntryId) : (l.free e).ErrorsInRange := by
  intro d u hu
  rw [Lane.entry_free] at hu
  split at hu
  · cases hu
  · exact h d u hu

end Sys2Proof.Machine
end

section
/-!
The count invariant on the drive links (02_command_tracking_on_the_drive_links.md): every shared operation and every event of a link
keeps the counts of the state in their widths (R26, R30 to R42, R70 to R74).
-/
namespace Sys2Proof.Machine

/-! ## The counts of a state -/

/-- What `State.countsSafe` says, part by part. -/
structure State.InRange (s : State) : Prop where
  slots : ∀ i, (s.slot i).InRange
  capture : s.capture.countsInRange
  chamber : s.chamber.countsInRange
  lanes : ∀ i, (s.lane i).ErrorsInRange

theorem State.countsSafe_iff (s : State) : s.countsSafe ↔ s.InRange := by
  constructor
  · rintro ⟨hslots, hcapture, hchamber, hlanes⟩
    exact ⟨fun i => (SlotRecord.countsInRange_iff _).mp (hslots i), hcapture, hchamber, hlanes⟩
  · rintro ⟨hslots, hcapture, hchamber, hlanes⟩
    exact ⟨fun i => (SlotRecord.countsInRange_iff _).mpr (hslots i), hcapture, hchamber, hlanes⟩

namespace State.InRange

variable {s : State}

/-- Slot records and lanes stay, the capture unit and the chamber receiver are in their widths. -/
theorem units {t : State} (hs : s.InRange) (slots : t.slots = s.slots) (lanes : t.lanes = s.lanes)
    (capture : t.capture.countsInRange) (chamber : t.chamber.countsInRange) : t.InRange where
  slots i := by rw [State.slot, slots]; exact hs.slots i
  capture := capture
  chamber := chamber
  lanes i := by rw [State.lane, lanes]; exact hs.lanes i

/-- What is beside the counts. -/
theorem beside {t : State} (hs : s.InRange) (slots : t.slots = s.slots) (capture : t.capture = s.capture)
    (chamber : t.chamber = s.chamber) (lanes : t.lanes = s.lanes) : t.InRange :=
  hs.units slots lanes (capture ▸ hs.capture) (chamber ▸ hs.chamber)

theorem modSlot (hs : s.InRange) (i : SlotId) {f : SlotRecord → SlotRecord} (hf : (s.slot i).InRange → (f (s.slot i)).InRange) :
    (s.modSlot i f).InRange where
  slots j := by
    rw [State.slot_modSlot]
    split
    · exact hf (hs.slots i)
    · exact hs.slots j
  capture := hs.capture
  chamber := hs.chamber
  lanes := hs.lanes

theorem modLane (hs : s.InRange) (i : SlotId) {f : Lane → Lane} (hf : (s.lane i).ErrorsInRange → (f (s.lane i)).ErrorsInRange) :
    (s.modLane i f).InRange where
  slots := hs.slots
  capture := hs.capture
  chamber := hs.chamber
  lanes j := by
    rw [State.lane_modLane]
    split
    · exact hf (hs.lanes i)
    · exact hs.lanes j

/-- A lane changed outside its entries. -/
theorem modLane_tags (hs : s.InRange) (i : SlotId) {f : Lane → Lane} (hf : ∀ l, (f l).tags = l.tags) : (s.modLane i f).InRange :=
  hs.modLane i (·.of_tags (hf _))

theorem setEntry (hs : s.InRange) (i : SlotId) (e : EntryId) {t : TagEntry} (ht : t.errorSectors ≤ max16) :
    (s.modLane i (·.setEntry e (some t))).InRange := hs.modLane i (·.setEntry e ht)

theorem free (hs : s.InRange) (i : SlotId) (e : EntryId) : (s.modLane i (·.free e)).InRange := hs.modLane i (·.free e)

theorem setPhase (hs : s.InRange) (i : SlotId) (p : Phase) : (s.setPhase i p).InRange := hs.modSlot i fun hr => { hr with }

theorem modChamber (hs : s.InRange) {f : Chamber → Chamber} (hf : s.chamber.countsInRange → (f s.chamber).countsInRange) :
    (s.modChamber f).InRange := { hs with chamber := hf hs.chamber }

theorem raise (hs : s.InRange) (a : AlertFlag) : (s.raise a).InRange := hs.beside rfl rfl rfl rfl

theorem answer (hs : s.InRange) (st : Status) (payload : List Byte) : (s.answer st payload).InRange := hs.beside rfl rfl rfl rfl

theorem putSort (hs : s.InRange) (p : SortPort) : (s.putSort p).InRange := hs.beside rfl rfl rfl rfl

theorem putCapture (hs : s.InRange) {u : CaptureUnit × Option AlertFlag} (hu : u.1.countsInRange) : (s.putCapture u).InRange where
  slots i := by rw [State.putCapture_slot]; exact hs.slots i
  capture := by rw [State.putCapture_capture]; exact hu
  chamber := by rw [State.putCapture_chamber]; exact hs.chamber
  lanes i := by rw [State.putCapture_lane]; exact hs.lanes i

/-- What every step of a fold keeps. -/
theorem forSlots (hs : s.InRange) {f : State → SlotId → State} (hf : ∀ u i, u.InRange → (f u i).InRange) : (s.forSlots f).InRange :=
  State.forSlots_induct hf s hs

/-! ## Reports, captures and defects (R26, R80, R100) -/

theorem report (hs : s.InRange) (i : SlotId) {f : SlotRecord → SlotRecord} (hf : (s.slot i).InRange → (f (s.slot i)).InRange) :
    (s.report i f).InRange := by
  obtain ⟨-, h⟩ | ⟨-, h⟩ := s.report_cases i f <;> rw [h]
  · exact hs.modSlot i hf
  · exact hs

/-- A report into the test counters. -/
theorem count (hs : s.InRange) (i : SlotId) {f : TestCounters → TestCounters}
    (hf : (s.slot i).counters.InRange → (f (s.slot i).counters).InRange) : (s.report i (SlotRecord.count f)).InRange :=
  hs.report i (·.count hf)

theorem anomaly (hs : s.InRange) (i : SlotId) : (s.report i (SlotRecord.count TestCounters.anomaly)).InRange := hs.count i (·.anomaly)

theorem capturing (hs : s.InRange) (e : CaptureEvent) : (s.capturing e).InRange := by
  obtain ⟨-, h⟩ | ⟨-, h⟩ := s.capturing_cases e <;> rw [h]
  · exact hs.putCapture (hs.capture.deliver e)
  · exact hs

theorem insertDefect (hs : s.InRange) (i : SlotId) (lba : Nat) (c : Cause) (pass : Nat) : (s.insertDefect i lba c pass).InRange := by
  obtain ⟨-, d, free, hd, h⟩ | ⟨-, h⟩ := s.insertDefect_cases i lba c pass <;> rw [h]
  · have hdefects : d.InRange := by
      have hinserted := (hs.slots i).defects.insertDefect s.profile.defectCap lba c pass s.freeExtents
      rwa [hd] at hinserted
    have hslot : (s.modSlot i (fun r => { r with defects := d })).InRange := hs.modSlot i fun hr => { hr with defects := hdefects }
    exact hslot.beside rfl rfl rfl rfl
  · exact hs

/-! ## Tag entries -/

/-- The error sectors of an open entry. -/
theorem errorSectors (hs : s.InRange) {i : SlotId} {e : EntryId} {t : TagEntry} (h : (s.lane i).entry e = some t) :
    t.errorSectors ≤ max16 := hs.lanes i e t h

/-- One error sector more on an entry (R30). -/
theorem countError (hs : s.InRange) (i : SlotId) (e : EntryId) :
    (s.modEntry i e (fun u => { u with errorSectors := inc16 u.errorSectors })).InRange := by
  obtain ⟨-, h⟩ | ⟨t, -, h⟩ := s.modEntry_cases i e (fun u => { u with errorSectors := inc16 u.errorSectors }) <;> rw [h]
  · exact hs
  · exact hs.setEntry i e (inc16_le _)

theorem markUntracked (hs : s.InRange) (i : SlotId) (e : EntryId) : (s.markUntracked i e).InRange := by
  obtain h | ⟨t, he, -, h⟩ := s.markUntracked_cases i e <;> rw [h]
  · exact hs
  · have ht := hs.errorSectors he
    exact (hs.anomaly i).setEntry i e ht

theorem noteOverrun (hs : s.InRange) {i : SlotId} {e : EntryId} {t : TagEntry} (he : (s.lane i).entry e = some t) :
    (s.noteOverrun i e t).InRange := by
  obtain ⟨-, h⟩ | ⟨-, h⟩ := s.noteOverrun_cases i e t <;> rw [h]
  · exact hs
  · have ht := hs.errorSectors he
    exact (hs.anomaly i).setEntry i e ht

/-! ## Command frames (R27, R28, R40) -/

theorem collide (hs : s.InRange) (i : SlotId) (e : EntryId) : (s.collide i e).InRange := by
  unfold State.collide
  split
  · exact (hs.count i fun hc => hc.abandon.anomaly).free i e
  · exact hs

theorem withhold (hs : s.InRange) (i : SlotId) (e : EntryId) : (s.withhold i e).InRange :=
  (hs.count i fun hc => { hc with withheld := inc16_le _ }).modLane i fun hl => (hl.free e).of_tags (by simp)

theorem openEntry (hs : s.InRange) (i : SlotId) (f : CommandFrame) : (s.openEntry i f).InRange := by
  change (s.modLane i (·.opening f (TagEntry.opened f (s.slot i) s.timebase))).InRange
  exact hs.modLane i fun hl => (hl.setEntry _ (Nat.zero_le _)).of_tags (Lane.opening_tags _ f _)

/-! ## Sectors (R65, R66, R70 to R74) -/

theorem countSubstituted (hs : s.InRange) (i : SlotId) (issue : PhaseName) (img : Image) : (s.countSubstituted i issue img).InRange := by
  unfold State.countSubstituted
  split
  case h_1 | h_2 => exact hs.count i fun hc => { hc with writtenSectors := inc32_le _ }
  case h_3 => exact hs.report i fun hr => { hr with ship := hr.ship.sent img }
  all_goals exact hs

theorem testResult (hs : s.InRange) (i : SlotId) (e : EntryId) (lba pass : Nat) (res : CheckResult) :
    (s.testResult i e lba pass res).InRange := by
  have hcount : (s.report i (SlotRecord.count (·.checkedWith res))).InRange := hs.count i (·.checkedWith res)
  cases res with
  | isMatch => exact hcount
  | stale p => exact hcount.capturing _
  | slip offset => exact hcount.capturing _
  | corrupt first expected actual n => exact (hcount.insertDefect i lba .corrupt pass).capturing _

theorem applyResult (hs : s.InRange) (i : SlotId) (e : EntryId) (t : TagEntry) (x : SectorInProgress) (res : CheckResult) :
    (s.applyResult i e t x res).InRange := by
  have herror : (if res = .isMatch then s
      else s.modEntry i e (fun u => { u with errorSectors := inc16 u.errorSectors })).InRange := by
    split
    · exact hs
    · exact hs.countError i e
  unfold State.applyResult
  dsimp only
  split
  case h_1 | h_2 => exact herror.testResult i e _ _ res
  case h_3 => exact herror.report i fun hr => { hr with ship := hr.ship.checked _ _ }
  all_goals exact herror

theorem finishSector (hs : s.InRange) (i : SlotId) (e : EntryId) (t : TagEntry) (x : SectorInProgress) :
    (s.finishSector i e t x).InRange := by
  unfold State.finishSector
  split
  · exact hs
  · split
    · exact hs.countSubstituted i _ _
    · exact hs.applyResult i e t x _

/-! ## Data frames (R30, R31) -/

theorem advance (hs : s.InRange) (i : SlotId) : (s.modLane i Lane.advance).InRange := hs.modLane_tags i (by simp)

theorem passByte (hs : s.InRange) {i : SlotId} {e : EntryId} {t : TagEntry} (he : (s.lane i).entry e = some t) (offset : Nat)
    (good : Bool) (b : Byte) : (s.passByte i e t offset good b).1.InRange := by
  have ht := hs.errorSectors he
  unfold State.passByte
  dsimp only
  split
  · have hdone : (s.modLane i (fun l =>
        { (l.setEntry e (some { t with done := t.done + 1 })).advance with sector := none })).InRange :=
      hs.modLane i fun hl => (hl.setEntry e (t := { t with done := t.done + 1 }) ht).of_tags rfl
    dsimp only
    split
    · exact hdone
    · exact hdone.finishSector i e _ _
  · exact hs.modLane_tags i (f := fun l => { l.advance with sector := _ }) fun _ => rfl

theorem passIdent (hs : s.InRange) {i : SlotId} {e : EntryId} {t : TagEntry} (he : (s.lane i).entry e = some t) (offset : Nat)
    (good : Bool) (b : Byte) : (s.passIdent i e t offset good b).InRange := by
  have ht := hs.errorSectors he
  exact hs.modLane i fun hl => (hl.setEntry e (t := { t with
    snoop := t.snoop.take offset good b, done := if offset = 511 then 1 else t.done }) ht).of_tags rfl

theorem passOne (hs : s.InRange) (i : SlotId) (good : Bool) (b : Byte) : (s.passOne i good b).1.InRange := by
  obtain h | ⟨p, t, -, he, h⟩ := s.passOne_cases i good b
  · rw [h]; exact hs
  · obtain ⟨-, h⟩ | ⟨-, -, h⟩ | ⟨-, -, -, h⟩ | ⟨-, -, -, h⟩ | ⟨-, -, -, -, h⟩ := h <;> rw [h]
    · exact (hs.noteOverrun he).advance i
    · exact hs.modLane_tags i (f := fun l => { l.advance with sector := _ }) fun _ => rfl
    · exact hs.passByte he _ good b
    · exact hs.passIdent he _ good b
    · exact hs.advance i

theorem passBytes (hs : s.InRange) (i : SlotId) (good : Bool) (bs : List Byte) : (s.passBytes i good bs).1.InRange :=
  State.passBytes_induct (P := State.InRange) i good (fun _ b hu => hu.passOne i good b) bs s hs

theorem relaysData (hs : s.InRange) (i : SlotId) (f : DataFrame) : (s.modLane i (·.relaysData f)).InRange :=
  hs.modLane_tags i (by simp)

theorem wrongData (hs : s.InRange) (i : SlotId) (e : EntryId) : (s.wrongData i e).InRange :=
  (hs.markUntracked i e).modLane_tags i fun _ => rfl

/-! ## Statuses (R33 to R36, R43, R44) -/

theorem sampleEntry (hs : s.InRange) (i : SlotId) (t : TagEntry) : (s.sampleEntry i t).InRange := by
  unfold State.sampleEntry
  split
  · refine hs.report i fun hr => ?_
    split
    · exact hr.lateSample (s.elapsed_le _)
    · exact hr.latencySample s.profile (s.elapsed_le _)
  · exact hs

theorem compareIdentity (hs : s.InRange) (i : SlotId) (sn : Snoop) : (s.compareIdentity i sn).InRange := by
  unfold State.compareIdentity
  dsimp only
  split
  · exact (hs.anomaly i).capturing _
  · exact hs

theorem offerSnoop (hs : s.InRange) (i : SlotId) (t : TagEntry) : (s.offerSnoop i t).InRange := by
  unfold State.offerSnoop
  split
  · split
    case h_1 => exact hs
    case h_2 =>
      split
      · exact hs
      · exact hs.modSlot i fun hr => { hr with }
    all_goals exact hs.compareIdentity i _
  · exact hs

theorem closeSuccess (hs : s.InRange) (i : SlotId) (e : EntryId) : (s.closeSuccess i e).InRange := by
  unfold State.closeSuccess
  split
  · exact hs
  · rename_i t _
    refine free ?_ i e
    split
    · exact (hs.sampleEntry i t).offerSnoop i t
    · exact hs.sampleEntry i t

theorem mediaError (hs : s.InRange) (i : SlotId) (e : EntryId) (t : TagEntry) (lba : Option (BitVec 48)) :
    (s.mediaError i e t lba).InRange := by
  have hcount : (s.report i (SlotRecord.count (fun c => { c with media := inc16 c.media }))).InRange :=
    hs.count i fun hc => { hc with media := inc16_le _ }
  unfold State.mediaError
  split
  case h_1 | h_2 =>
    cases lba with
    | none => exact hcount.capturing _
    | some l => exact (hcount.insertDefect i l.toNat .media t.pass).capturing _
  case h_3 => exact hs.report i (·.shipBad)
  all_goals exact hs

theorem closeError (hs : s.InRange) (i : SlotId) (r : ErrorReport) : (s.closeError i r).InRange := by
  unfold State.closeError
  dsimp only
  split
  · exact hs
  · refine free ?_ i _
    split
    · exact hs.mediaError i _ _ _
    all_goals exact hs

theorem abortSibling (hs : s.InRange) (i : SlotId) (tag : Fin 32) : (State.abortSibling i s tag).InRange := by
  unfold State.abortSibling
  split
  · exact (hs.count i fun hc => { hc with aborted := inc16_le _ }).free i _
  · exact hs

/-! ## Timeouts (R37) -/

theorem expireEntry (hs : s.InRange) (i : SlotId) (e : EntryId) : (s.expireEntry i e).InRange := by
  unfold State.expireEntry
  split
  · exact hs
  · rename_i t he
    have ht := hs.errorSectors he
    have hlate : (s.modLane i (·.setEntry e (some { t with late := true }))).InRange := hs.setEntry i e ht
    refine capturing ?_ _
    split
    · exact hlate.report i (·.shipBad)
    · exact hlate.count i fun hc => { hc with timeouts := inc16_le _ }

theorem expireSlot (hs : s.InRange) (i : SlotId) : (s.expireSlot i).InRange := by
  refine List.foldlRecOn allEntries _ hs fun u hu e _ => ?_
  split
  · exact hu.expireEntry i e
  · exact hu

end State.InRange

/-! ## The events of a drive link -/

theorem execCommandFrame_inRange {i : SlotId} {f : CommandFrame} {s t : State} (hs : s.InRange)
    (h : execCommandFrame i f s = .next t) : t.InRange := by
  have hcollide := hs.collide i (commandEntry f.kind)
  unfold execCommandFrame at h
  split at h <;> cases h
  · exact hs.modLane_tags i (by simp)
  · split
    · exact hcollide.withhold i _
    · exact hcollide.openEntry i f

theorem execDataSetupNotice_inRange {i : SlotId} {n : SetupNotice} {s t : State} (hs : s.InRange)
    (h : execDataSetupNotice i n s = .next t) : t.InRange := by
  have hup : (s.modLane i (·.sendsUp [.setup n])).InRange := hs.modLane_tags i (by simp)
  have hmove {u : State} (hu : u.InRange) (p : Option Position) : (u.modLane i (·.moveTo p)).InRange := hu.modLane_tags i (by simp)
  unfold execDataSetupNotice at h
  dsimp only at h
  split at h
  · cases h; exact hup
  · split at h
    · cases h; exact hmove hup _
    · split at h <;> cases h
      · exact hmove hup _
      · exact hmove (hup.markUntracked i _) _

theorem execDataFrame_inRange {i : SlotId} {f : DataFrame} {s t : State} (hs : s.InRange) (h : execDataFrame i f s = .next t) :
    t.InRange := by
  unfold execDataFrame at h
  split at h
  · cases h; exact hs.relaysData i f
  · split at h
    · cases h; exact hs.relaysData i f
    · split at h
      · cases h; exact hs.relaysData i f
      · split at h <;> cases h
        · exact (hs.passBytes i _ _).modLane_tags i (by simp)
        · exact (hs.wrongData i _).relaysData i f

theorem execSuccessStatus_inRange {i : SlotId} {st : Success} {s t : State} (hs : s.InRange)
    (h : execSuccessStatus i st s = .next t) : t.InRange := by
  have hrelay : (s.modLane i (·.relayStatus (.success st))).InRange := hs.modLane_tags i (by simp)
  unfold execSuccessStatus at h
  dsimp only at h
  split at h
  · cases h; exact hrelay
  · cases st with
    | nonQueued => cases h; exact hrelay.closeSuccess i _
    | queued tags =>
      cases h
      refine List.foldlRecOn allTags _ hrelay fun u hu tag _ => ?_
      split
      · exact hu.closeSuccess i _
      · exact hu

theorem execErrorStatus_inRange {i : SlotId} {r : ErrorReport} {s t : State} (hs : s.InRange)
    (h : execErrorStatus i r s = .next t) : t.InRange := by
  have hrelay : (s.modLane i (·.relayStatus (.error r))).InRange := hs.modLane_tags i (by simp)
  have hclose := hrelay.closeError i r
  unfold execErrorStatus at h
  dsimp only at h
  split at h
  · cases h; exact hrelay
  · split at h <;> rw [← Host.Outcome.next.inj h]
    · exact hclose
    · exact List.foldlRecOn allTags _ hclose fun u hu tag _ => hu.abortSibling i tag

theorem execCommandTimeout_inRange {i : SlotId} {e : EntryId} {s t : State} (hs : s.InRange)
    (h : execCommandTimeout i e s = .next t) : t.InRange := by
  cases h
  split
  · exact hs.expireEntry i e
  · exact hs

theorem execDriveLinkReset_inRange {i : SlotId} {s t : State} (hs : s.InRange) (h : execDriveLinkReset i s = .next t) :
    t.InRange := by
  unfold execDriveLinkReset at h
  split at h <;> cases h
  · exact hs
  · exact (hs.count i (·.abandonMany _)).modLane i fun _ => .of_closed (by simp)

end Sys2Proof.Machine
end

section
/-!
The count invariant over the management commands, presence, the chamber line, the soak, grading, the sort port and the resets; then over
a whole step (00_scope.md, Table 3).
-/
namespace Sys2Proof.Machine

/-! ## Management commands (R158, R159) -/

/-- The effects of an answer, where it has any, keep the counts in their widths. -/
def Answer.InRange : Answer → Prop
  | .ok t _ => t.InRange
  | .no _ => True

namespace State.InRange

variable {s : State}

theorem command (hs : s.InRange) {rule : State → Answer} (h : (rule s).InRange) : (s.command rule).InRange := by
  obtain ⟨-, hc⟩ | ⟨-, -, hc⟩ | ⟨-, -, t, p, hr, hc⟩ | ⟨-, -, st, -, hc⟩ := s.command_cases rule <;> rw [hc]
  · exact hs
  · exact hs.answer _ _
  · rw [hr] at h; exact h.answer _ _
  · exact hs.answer _ _

theorem slotCommand (hs : s.InRange) {args : List Byte} {rule : State → SlotId → Answer} (h : ∀ i, (rule s i).InRange) :
    (s.command fun s => slotCommand args (rule s)).InRange := by
  refine hs.command ?_
  unfold Machine.slotCommand
  split
  · split
    · exact h _
    · trivial
  · trivial

theorem plainCommand (hs : s.InRange) {args : List Byte} {answer : State → Answer} (h : (answer s).InRange) :
    (s.command fun s => plainCommand args (answer s)).InRange := by
  refine hs.command ?_
  unfold Machine.plainCommand
  split
  · exact h
  · trivial

/-- A query changes nothing but the reply. -/
theorem slotQuery (hs : s.InRange) (args : List Byte) (payload : State → SlotId → List Byte) :
    (s.command fun s => Machine.slotCommand args fun i => .ok s (payload s i)).InRange :=
  hs.slotCommand (rule := fun s i => .ok s (payload s i)) fun _ => hs

theorem phaseChange (hs : s.InRange) (args : List Byte) (f : Phase → Option Phase) :
    (s.command fun s => Machine.slotCommand args fun i => s.phaseChange i (f (s.slot i).phase)).InRange :=
  hs.slotCommand fun i => by
    unfold State.phaseChange
    split
    · exact hs.setPhase i _
    · trivial

/-! ## Slot clear, orphaning, removal (R5 to R8) -/

/-- One slot record and its lane replaced, the lane with no entry open. -/
theorem rest {t : State} (hs : s.InRange) (i : SlotId) {r : SlotRecord} (hr : r.InRange) (slots : t.slots = s.slots.set i r)
    (lanes : t.lanes = s.lanes.set i (s.lane i).forgotten) (capture : t.capture = s.capture) (chamber : t.chamber = s.chamber) :
    t.InRange where
  slots j := by
    rw [State.slot_of_set slots]
    split
    · exact hr
    · exact hs.slots j
  capture := capture ▸ hs.capture
  chamber := chamber ▸ hs.chamber
  lanes j := by
    rw [State.lane_of_set lanes]
    split
    · exact .of_closed (by simp)
    · exact hs.lanes j

theorem slotClear (hs : s.InRange) (i : SlotId) : (s.slotClear i).InRange := by
  rw [s.slotClear_eq]
  exact hs.rest i ((hs.slots i).cleared _) rfl rfl rfl rfl

theorem orphan (hs : s.InRange) (i : SlotId) : (s.orphan i).InRange := by
  rw [s.orphan_eq]
  exact hs.rest i ((hs.slots i).orphanedWith _) rfl rfl rfl rfl

theorem depart (hs : s.InRange) (i : SlotId) : (s.depart i).InRange := by
  rw [s.depart_eq]
  exact hs.rest i ((hs.slots i).shippedOff.cleared _) rfl rfl rfl rfl

theorem removed (hs : s.InRange) (i : SlotId) : (s.removed i).InRange := by
  unfold State.removed
  split
  case h_1 => exact hs
  case h_2 => exact (hs.modLane i fun _ => .of_closed (by simp)).modSlot i fun hr => { hr with }
  case h_3 =>
    split
    · exact hs.depart i
    · exact hs.orphan i
  all_goals exact hs.orphan i

theorem debounced (hs : s.InRange) (i : SlotId) : (s.debounced i).InRange := by
  have hset (p : Presence) : (s.setPresence i p).InRange := hs.beside rfl rfl rfl rfl
  unfold State.debounced
  dsimp only
  refine raise ?_ _
  split
  · exact (hset _).setPhase i _
  · exact (hset _).removed i

/-! ## The chamber line and the soak (R105 to R116) -/

theorem applyHold (hs : s.InRange) (i : SlotId) (p : Phase × Bool) : (s.applyHold i p).InRange := by
  unfold State.applyHold
  split
  · exact (hs.setPhase i _).raise _
  · exact hs.setPhase i _

theorem takeByte (hs : s.InRange) (b : Byte) : (s.takeByte b).InRange := by
  unfold State.takeByte
  split
  · split
    · exact hs
    · exact hs.modChamber id
  · split
    · exact hs.modChamber id
    · exact (hs.modChamber fun hc => hc.completed _ _ _ _).forSlots fun u i hu => hu.applyHold i _

theorem takeError (hs : s.InRange) : s.takeError.InRange := by
  have hcount (f : Option FrameInProgress) :
      (s.modChamber (fun c => { c with frame := f, lineErrors := inc16 c.lineErrors })).InRange :=
    hs.modChamber fun ⟨⟨_, hgaps, hbreaks, htaken⟩, hreadings⟩ => ⟨⟨inc16_le _, hgaps, hbreaks, htaken⟩, hreadings⟩
  unfold State.takeError
  split
  · exact hcount s.chamber.frame
  · exact (hcount none).raise _

theorem takeBreak (hs : s.InRange) : s.takeBreak.InRange :=
  hs.modChamber fun ⟨⟨herrors, hgaps, _, htaken⟩, hreadings⟩ => ⟨⟨herrors, hgaps, inc16_le _, htaken⟩, hreadings⟩

theorem takeEvent (hs : s.InRange) (event : LineEvent) : (s.takeEvent event).InRange := by
  cases event with
  | byte b => exact hs.takeByte b
  | error => exact hs.takeError
  | lineBreak => exact hs.takeBreak
  | markAfterBreak => exact hs

theorem expireStale (hs : s.InRange) : s.expireStale.InRange :=
  (hs.modChamber (f := fun c => { c with staleTimer := none, fresh := false }) id).raise _

theorem soakSlot (hs : s.InRange) (i : SlotId) : (s.soakSlot i).InRange := by
  unfold State.soakSlot
  split
  case h_1 => exact hs.modSlot i fun hr => { hr with soak := { hr.soak with heldSeconds := inc32_le _ } }
  case h_2 =>
    have hsecond := (hs.slots i).soak.second s.profile hs.chamber i
    have hsoak : (s.modSlot i (fun r => { r with soak := ((s.slot i).soak.second s.profile s.chamber i).1 })).InRange :=
      hs.modSlot i fun hr => { hr with soak := hsecond }
    dsimp only
    split
    · exact (hsoak.setPhase i _).raise _
    · exact hsoak
  all_goals exact hs

/-! ## Resets and PROFILE_SET (R168, R170) -/

/-- A restart with slot records in their widths. -/
theorem restarted (s : State) {records : Vector SlotRecord 8} (h : ∀ i : SlotId, records[i].InRange) : (s.restarted records).InRange := by
  obtain ⟨-, -, -, -, -, -, -, -, -, hreset, -⟩ := resetMeetsInvariants
  obtain ⟨-, hcapture, hchamber, -⟩ := (State.countsSafe_iff _).mp hreset
  exact ⟨h, hcapture, hchamber, fun i => .of_closed fun e => by rw [s.lane_of_bypassed rfl, Lane.entry_bypass]⟩

theorem itemTakesEffect (hs : s.InRange) (code old : Nat) : (s.itemTakesEffect code old).InRange := by
  unfold State.itemTakesEffect State.timeoutsLowered
  split_ifs
  · exact hs.forSlots fun u i hu => hu.expireSlot i
  · exact hs
  · exact hs.modChamber id
  · exact hs.expireStale
  · exact hs
  · exact hs.beside rfl rfl rfl rfl
  · exact hs
  · exact hs

theorem setProfile (hs : s.InRange) (code v : Nat) : (s.setProfile code v).InRange := by
  unfold State.setProfile
  split_ifs
  · trivial
  · exact hs.beside rfl rfl rfl rfl
  · exact hs.putCapture (hs.capture.filterSet _ _ _)
  · split
    · rename_i p _
      have hp : State.InRange { s with profile := p } := hs.beside rfl rfl rfl rfl
      exact hp.itemTakesEffect code _
    · trivial

end State.InRange

/-! ## Phase commands (R8 to R21) -/

theorem execStart_inRange {args : List Byte} {s t : State} (hs : s.InRange) (h : execStart args s = .next t) : t.InRange := by
  cases h
  refine hs.command ?_
  split
  · rename_i b _ _ _ _ g0 g1
    have hg : fromLe [g0, g1] ≤ max16 := by
      have hlt := fromLe_lt [g0, g1]
      unfold max16
      simp only [List.length_cons, List.length_nil] at hlt
      omega
    split
    · rename_i i _
      have hreturned : (s.returnExtents i).InRange := hs.beside rfl rfl rfl rfl
      unfold State.startRun
      dsimp only
      split_ifs
      · trivial
      · exact hreturned.modSlot i (·.started _ hg)
      · trivial
    · trivial
  · trivial

theorem execAdvancePass_inRange {args : List Byte} {s t : State} (hs : s.InRange) (h : execAdvancePass args s = .next t) :
    t.InRange := by
  cases h
  refine hs.slotCommand fun i => ?_
  split_ifs with hadvances hpass
  · trivial
  · have hbelow := (hs.slots i).pass
    exact hs.modSlot i fun hr => { hr with pass := Nat.lt_of_le_of_ne hbelow hpass }
  · trivial

theorem execGrade_inRange {args : List Byte} {s t : State} (hs : s.InRange) (h : execGrade args s = .next t) : t.InRange := by
  cases h
  refine hs.slotCommand fun i => ?_
  split_ifs
  · trivial
  · exact (hs.setPhase i .gradeWait).beside rfl rfl rfl rfl
  · trivial

theorem execShip_inRange {args : List Byte} {s t : State} (hs : s.InRange) (h : execShip args s = .next t) : t.InRange := by
  cases h
  refine hs.slotCommand fun i => ?_
  split_ifs
  · trivial
  · trivial
  · exact hs.modSlot i fun hr => { hr with ship := .emptied _ }
  · trivial
  · trivial

theorem execSeal_inRange {args : List Byte} {s t : State} (hs : s.InRange) (h : execSeal args s = .next t) : t.InRange := by
  cases h
  refine hs.slotCommand fun i => ?_
  split_ifs
  · trivial
  · exact (hs.setPhase i .sealed).putSort _
  · trivial
  · trivial

theorem execRelease_inRange {args : List Byte} {s t : State} (hs : s.InRange) (h : execRelease args s = .next t) : t.InRange := by
  cases h
  refine hs.slotCommand fun i => ?_
  split
  · rename_i r hr
    exact (hs.modSlot i (f := fun _ => r) (·.releasedRun hr)).putSort _
  · trivial

/-! ## Windows, captures, alerts and queries -/

theorem execWindowWrite_inRange {args : List Byte} {s t : State} (hs : s.InRange) (h : execWindowWrite args s = .next t) :
    t.InRange := by
  have hreplace (n : Fin 16) (w : Window) : (s.replaceWindow n w).InRange := by
    have hw : State.InRange { s with windows := s.windows.set n w } := hs.beside rfl rfl rfl rfl
    refine hw.forSlots fun u i hu => ?_
    split
    · exact hu.modSlot i (·.shipRestarted _)
    · exact hu
  cases h
  refine hs.command ?_
  split
  · split
    · trivial
    · split
      · split
        · exact hreplace _ _
        · trivial
      · trivial
  · trivial

theorem execWindowRead_inRange {args : List Byte} {s t : State} (hs : s.InRange) (h : execWindowRead args s = .next t) :
    t.InRange := by
  cases h
  refine hs.command ?_
  split
  · split
    · exact hs
    · trivial
  · trivial

theorem execTableWrite_inRange {args : List Byte} {s t : State} (hs : s.InRange) (h : execTableWrite args s = .next t) :
    t.InRange := by
  cases h
  refine hs.command ?_
  split
  · split_ifs
    · exact hs.beside rfl rfl rfl rfl
    all_goals trivial
  · trivial

theorem execCaptureSet_inRange {args : List Byte} {s t : State} (hs : s.InRange) (h : execCaptureSet args s = .next t) :
    t.InRange := by
  cases h
  refine hs.command ?_
  split
  · split
    · split
      · exact hs.putCapture (hs.capture.filterSet _ _ _)
      · trivial
    · trivial
  · trivial

theorem execCaptureOpen_inRange {args : List Byte} {s t : State} (hs : s.InRange) (h : execCaptureOpen args s = .next t) :
    t.InRange := by
  cases h
  refine hs.command ?_
  split
  · split
    · exact hs.putCapture (hs.capture.opened _)
    · trivial
  · trivial

theorem execCaptureRead_inRange {args : List Byte} {s t : State} (hs : s.InRange) (h : execCaptureRead args s = .next t) :
    t.InRange := by
  cases h
  refine hs.plainCommand ?_
  split
  · exact hs
  · trivial

theorem execAlertAck_inRange {args : List Byte} {s t : State} (hs : s.InRange) (h : execAlertAck args s = .next t) : t.InRange := by
  cases h
  refine hs.command ?_
  split
  · exact hs.beside rfl rfl rfl rfl
  · trivial

theorem execAlertMask_inRange {args : List Byte} {s t : State} (hs : s.InRange) (h : execAlertMask args s = .next t) : t.InRange := by
  cases h
  refine hs.command ?_
  split
  · exact hs.beside rfl rfl rfl rfl
  · trivial

theorem execStatus_inRange {args : List Byte} {s t : State} (hs : s.InRange) (h : execStatus args s = .next t) : t.InRange := by
  cases h
  split
  · exact hs
  · unfold plainCommand
    split <;> exact hs.answer _ _

theorem execDefectRead_inRange {args : List Byte} {s t : State} (hs : s.InRange) (h : execDefectRead args s = .next t) :
    t.InRange := by
  cases h
  refine hs.command ?_
  split
  · split
    · split
      · exact hs
      · trivial
    · trivial
  · trivial

/-! ## Resets, loads and the profile -/

theorem State.chipReset_inRange (s : State) (asserted : Bool) (straps : Straps) : (s.chipReset asserted straps).InRange :=
  State.InRange.restarted _ fun i => by
    rw [show (Vector.replicate 8 (SlotRecord.initial 0))[i] = SlotRecord.initial 0 by simp]
    exact .initial (Nat.zero_le _)

theorem execSoftReset_inRange {args : List Byte} {s t : State} (hs : s.InRange) (h : execSoftReset args s = .next t) : t.InRange := by
  cases h
  refine hs.plainCommand (State.InRange.restarted s fun i => ?_)
  rw [State.softRecords, perSlot_get]
  exact .initial (hs.slots i).shipped

theorem execProfileReload_inRange {args : List Byte} {s t : State} (hs : s.InRange) (h : execProfileReload args s = .next t) :
    t.InRange := by
  cases h
  refine hs.plainCommand ?_
  split
  · exact { hs with lanes := fun i => .of_closed fun e => by rw [s.lane_of_bypassed rfl, Lane.entry_bypass] }
  · trivial

/-- A load sets the filters of the capture records, each with no arrival, and leaves the other counts (R101, R167). -/
theorem State.InRange.afterLoad {s : State} (hs : s.InRange) (kind : LoadKind) (source : LoadSource) (items : List ProfileItem) :
    (s.afterLoad kind source items).InRange := by
  cases kind with
  | reload => exact hs.beside rfl rfl rfl rfl
  | afterReset =>
    obtain ⟨-, hcounts⟩ := hs.capture
    refine hs.units rfl rfl ⟨fun n => ?_, hcounts⟩ hs.chamber
    simp [State.afterLoad, filterRecords, CaptureRecord.filtered]

theorem execProfileReady_inRange {eeprom : Option (List Byte)} {s t : State} (hs : s.InRange)
    (h : execProfileReady eeprom s = .next t) : t.InRange := by
  rw [← Host.Outcome.next.inj h]
  split
  · exact hs
  · rename_i kind _ _
    split
    · exact hs
    · rw [State.profileLoaded_eq (Prod.mk.eta ..).symm]
      exact hs.afterLoad kind _ _

theorem execProfileSet_inRange {args : List Byte} {s t : State} (hs : s.InRange) (h : execProfileSet args s = .next t) :
    t.InRange := by
  cases h
  refine hs.command ?_
  split
  · exact hs.setProfile _ _
  · trivial

/-! ## Presence, the chamber line, the soak, grading and the sort port -/

theorem execRawPresenceChange_inRange {i : SlotId} {level : Bool} {s t : State} (hs : s.InRange)
    (h : execRawPresenceChange i level s = .next t) : t.InRange := by
  cases h
  split
  · exact hs
  · split <;> exact hs.beside rfl rfl rfl rfl

theorem execDebounceEnd_inRange {i : SlotId} {s t : State} (hs : s.InRange) (h : execDebounceEnd i s = .next t) : t.InRange := by
  cases h
  split
  · exact hs.debounced i
  · exact hs

theorem execSoakTick_inRange {s t : State} (hs : s.InRange) (h : execSoakTick s = .next t) : t.InRange := by
  cases h
  split
  · have hslots : (s.forSlots State.soakSlot).InRange := hs.forSlots fun u i hu => hu.soakSlot i
    unfold State.soakAll
    generalize s.forSlots State.soakSlot = u at hslots
    exact hslots.beside rfl rfl rfl rfl
  · exact hs

theorem execChamberByte_inRange {levels : List Bool} {s t : State} (hs : s.InRange) (h : execChamberByte levels s = .next t) :
    t.InRange := by
  cases h
  exact State.hearLine_induct (P := State.InRange) (fun u _ hu => hu.modChamber id) (fun u event hu => hu.takeEvent event) s levels hs

theorem execChamberCharacterError_inRange {s t : State} (hs : s.InRange) (h : execChamberCharacterError s = .next t) : t.InRange := by
  cases h
  split
  · split
    · exact hs
    · exact (hs.modChamber id).takeError
  · exact hs

theorem execChamberBreak_inRange {s t : State} (hs : s.InRange) (h : execChamberBreak s = .next t) : t.InRange := by
  cases h
  split
  · exact (hs.modChamber id).takeBreak
  · exact hs

theorem execLineBreakClear_inRange {s t : State} (hs : s.InRange) (h : execLineBreakClear s = .next t) : t.InRange := by
  cases h
  split
  · exact hs.modChamber id
  · exact hs

theorem execStaleTimerExpiry_inRange {s t : State} (hs : s.InRange) (h : execStaleTimerExpiry s = .next t) : t.InRange := by
  cases h
  split
  · exact hs.expireStale
  · exact hs

theorem execGradeTake_inRange {s t : State} (hs : s.InRange) (h : execGradeTake s = .next t) : t.InRange := by
  unfold execGradeTake at h
  split at h <;> cases h
  · exact hs.beside rfl rfl rfl rfl
  · exact hs
  · exact hs

theorem execGradeCompletion_inRange {s t : State} (hs : s.InRange) (h : execGradeCompletion s = .next t) : t.InRange := by
  have hidle : State.InRange { s with engine := none } := hs.beside rfl rfl rfl rfl
  unfold execGradeCompletion at h
  split at h <;> cases h
  · exact hs
  · unfold State.completeGrade
    dsimp only
    split
    · exact ((hidle.modSlot _ fun hr => { hr with }).raise _).raise _
    · exact hidle

theorem execTakeAsserted_inRange {s t : State} (hs : s.InRange) (h : execTakeAsserted s = .next t) : t.InRange := by
  have hsort (p : SortPort) : State.InRange { s with sort := p } := hs.beside rfl rfl rfl rfl
  unfold execTakeAsserted at h
  split at h <;> cases h
  case h_1 => exact (hsort _).modSlot _ fun hr => { hr with }
  all_goals exact hsort _

theorem execFaultAsserted_inRange {s t : State} (hs : s.InRange) (h : execFaultAsserted s = .next t) : t.InRange := by
  cases h
  split <;> exact hs.beside rfl rfl rfl rfl

theorem execOfferTimerExpiry_inRange {s t : State} (hs : s.InRange) (h : execOfferTimerExpiry s = .next t) : t.InRange := by
  cases h
  split
  · exact hs.beside rfl rfl rfl rfl
  · exact hs

theorem execSortResume_inRange {args : List Byte} {s t : State} (hs : s.InRange) (h : execSortResume args s = .next t) : t.InRange := by
  cases h
  refine hs.plainCommand ?_
  split
  · exact hs.putSort _
  · trivial

/-! ## A whole step -/

/-- Every command and event keeps the counts in their widths. -/
theorem exec_inRange {c : Instr} {s t : State} (hs : s.InRange) (h : exec c s = .next t) : t.InRange := by
  cases c with
  | chipReset => cases h; exact s.chipReset_inRange _ _
  | chipResetRelease straps => cases h; exact s.chipReset_inRange _ _
  | profileReady eeprom => exact execProfileReady_inRange hs h
  | unknownCommand code args => cases h; exact hs.command trivial
  | status args => exact execStatus_inRange hs h
  | slotStatus args => cases h; exact hs.slotQuery args State.slotStatusPayload
  | slotCounters args => cases h; exact hs.slotQuery args (fun s i => (s.slot i).countersPayload)
  | histogram args => cases h; exact hs.slotQuery args State.histogramPayload
  | defectRead args => exact execDefectRead_inRange hs h
  | start args => exact execStart_inRange hs h
  | advancePass args => exact execAdvancePass_inRange hs h
  | endBurn args => cases h; exact hs.phaseChange args Phase.endBurn
  | pause args => cases h; exact hs.phaseChange args Phase.pause
  | resume args => cases h; exact hs.phaseChange args Phase.resume
  | grade args => exact execGrade_inRange hs h
  | ship args => exact execShip_inRange hs h
  | sealSlot args => exact execSeal_inRange hs h
  | release args => exact execRelease_inRange hs h
  | clearSlot args => cases h; exact hs.slotCommand (rule := fun s i => .ok (s.slotClear i) []) fun i => hs.slotClear i
  | windowWrite args => exact execWindowWrite_inRange hs h
  | windowRead args => exact execWindowRead_inRange hs h
  | tableWrite args => exact execTableWrite_inRange hs h
  | captureSet args => exact execCaptureSet_inRange hs h
  | captureOpen args => exact execCaptureOpen_inRange hs h
  | captureRead args => exact execCaptureRead_inRange hs h
  | captureClose args => cases h; exact hs.plainCommand (hs.putCapture hs.capture.closed)
  | alertRead args => cases h; exact hs.plainCommand hs
  | alertAck args => exact execAlertAck_inRange hs h
  | alertMask args => exact execAlertMask_inRange hs h
  | sortResume args => exact execSortResume_inRange hs h
  | profileSet args => exact execProfileSet_inRange hs h
  | profileReload args => exact execProfileReload_inRange hs h
  | softReset args => exact execSoftReset_inRange hs h
  | rawPresenceChange i level => exact execRawPresenceChange_inRange hs h
  | debounceEnd i => exact execDebounceEnd_inRange hs h
  | commandFrame i f => exact execCommandFrame_inRange hs h
  | pendingStatusSend i => cases h; exact hs.modLane_tags i (by simp)
  | dataSetupNotice i n => exact execDataSetupNotice_inRange hs h
  | dataFrame i f => exact execDataFrame_inRange hs h
  | successStatus i st => exact execSuccessStatus_inRange hs h
  | errorStatus i r => exact execErrorStatus_inRange hs h
  | commandTimeout i e => exact execCommandTimeout_inRange hs h
  | driveLinkReset i => exact execDriveLinkReset_inRange hs h
  | soakTick => exact execSoakTick_inRange hs h
  | chamberByte levels => exact execChamberByte_inRange hs h
  | chamberCharacterError => exact execChamberCharacterError_inRange hs h
  | chamberBreak => exact execChamberBreak_inRange hs h
  | lineBreakClear => exact execLineBreakClear_inRange hs h
  | staleTimerExpiry => exact execStaleTimerExpiry_inRange hs h
  | gradeTake => exact execGradeTake_inRange hs h
  | gradeCompletion => exact execGradeCompletion_inRange hs h
  | takeAsserted => exact execTakeAsserted_inRange hs h
  | takeDeasserted => cases h; exact hs.putSort _
  | faultAsserted => exact execFaultAsserted_inRange hs h
  | faultDeasserted => cases h; exact hs.putSort _
  | busyAsserted => cases h; exact hs.beside rfl rfl rfl rfl
  | busyDeasserted => cases h; exact hs.putSort _
  | offerTimerExpiry => exact execOfferTimerExpiry_inRange hs h

/-- Settles O58: part by part, over the operations that each command and event is made of. -/
theorem countInvariant : Obligations.CountInvariant := by
  intro s t hs h
  rw [State.countsSafe_iff] at *
  unfold step at h
  split at h
  · refine exec_inRange ?_ h
    exact hs.beside rfl rfl rfl rfl
  · split at h
    · rename_i c u ho
      obtain ⟨d, -, hd⟩ := Option.map_eq_some_iff.mp ho
      cases hd
      refine exec_inRange ?_ h
      exact hs.beside rfl rfl rfl rfl
    · cases h
      unfold State.tick
      split
      · exact hs
      · exact hs.beside rfl rfl rfl rfl

end Sys2Proof.Machine
end

section
/-!
SLOT_STATUS (R75, R157, R161, R171, Table 12-5): a payload as the list of its fields, each of its own width.
-/
namespace Sys2Proof.Machine

/-! ## Payloads by their fields -/

/-- Of fields put together, field `k` stands at the sum of the widths before it. -/
theorem hasField_flatten {fields : List (List Byte)} {widths : List Nat} (hw : fields.map List.length = widths) {k off : Nat}
    {bs : List Byte} (hk : fields[k]? = some bs) (hoff : (widths.take k).sum = off) : hasField fields.flatten off bs := by
  obtain ⟨hlt, rfl⟩ := List.getElem?_eq_some_iff.mp hk
  refine hasField_of_append (a := (fields.take k).flatten) (c := (fields.drop (k + 1)).flatten) ?_ ?_
  · rw [← List.flatten_cons, ← List.drop_eq_getElem_cons hlt, ← List.flatten_append, List.take_append_drop]
  · rw [List.length_flatten, List.map_take, hw, hoff]

/-- Two fields side by side. -/
theorem hasField_append {p a b bs : List Byte} {off next : Nat} (ha : hasField p off a) (hb : hasField p next b)
    (hnext : off + a.length = next) (hbs : a ++ b = bs) : hasField p off bs := by
  subst hnext hbs
  unfold hasField at *
  rw [List.length_append, List.take_add, List.drop_drop, ha, hb]

/-! ## Table 12-5 -/

/-- The fields of Table 12-5 in order. -/
def State.slotStatusFields (s : State) (i : SlotId) : List (List Byte) :=
  let r := s.slot i
  let n := s.recordSectors i
  [le 1 r.phase.name.code, [r.phase.priorByte], le 1 r.phase.causeBits,
    le 1 (flagBits [r.orphaned, r.sorted, (s.presenceOf i).debounced, r.identity.valid]),
    r.identity.serial.toList, le 6 r.identity.capacity, le 2 r.pass, [effectiveByte (s.chamber.effective i)],
    le 1 ((s.lane i).countEntries false), le 1 ((s.lane i).countEntries true),
    le 1 (binCode (r.grade.map (·.bin))), le 1 ((r.grade.map (fun g => g.reason.code)).getD 0),
    le 4 ((r.grade.map (·.score)).getD 0), le 1 n, le 3 (reportedSet n r.ship.written), le 3 (reportedSet n r.ship.verified),
    le 4 r.ship.filled, le 4 r.ship.verifiedFill, le 2 r.ship.bad, [r.ship.padByte], le 2 r.shipped]

theorem State.slotStatusPayload_eq (s : State) (i : SlotId) : s.slotStatusPayload i = (s.slotStatusFields i).flatten := by
  unfold State.slotStatusPayload State.slotStatusFields
  simp only [List.flatten_cons, List.flatten_nil, List.append_assoc, List.append_nil]

/-- The widths of the fields of Table 12-5, in bytes. -/
def slotStatusWidths : List Nat := [1, 1, 1, 1, 20, 6, 2, 1, 1, 1, 1, 1, 4, 1, 3, 3, 4, 4, 2, 1, 2]

theorem State.slotStatusFields_widths (s : State) (i : SlotId) : (s.slotStatusFields i).map List.length = slotStatusWidths := by
  simp [State.slotStatusFields, slotStatusWidths]

theorem flagBits_two (a b : Bool) : flagBits [a, b] = bit a + 2 * bit b := by cases a <;> cases b <;> rfl

theorem flagBits_four (a b c d : Bool) : flagBits [a, b, c, d] = bit a + 2 * bit b + 4 * bit c + 8 * bit d := by
  simp only [flagBits, bit]
  omega

/-- Prior phase and causes of a phase other than HOLD (R171). -/
theorem Phase.not_hold {p : Phase} (h : p.name ≠ .hold) : p.priorByte = 0xFF#8 ∧ p.causeBits = 0 := by
  cases p with
  | hold a m th => exact absurd rfl h
  | _ => exact ⟨rfl, rfl⟩

/-- The entries of a lane by their LATE mark (R161). -/
theorem Lane.countEntries_eq (l : Lane) : l.countEntries false = allEntries.countP (fun e => (l.entry e).any (fun x => !x.late)) ∧
    l.countEntries true = allEntries.countP (fun e => (l.entry e).any (fun x => x.late)) := by
  simp [Lane.countEntries, List.countP_eq_length_filter]

theorem execSlotStatus_slot {s : State} (hs : s.ready) (i : SlotId) :
    exec (.slotStatus [slotByte i]) s = .next (s.answer .ok (s.slotStatusPayload i)) :=
  congrArg Host.Outcome.next (State.slotCommand_taken (rule := fun s i => .ok s (s.slotStatusPayload i)) hs rfl)

/-- Settles O16: each field by its place in Table 12-5. -/
theorem slotStatusReply : Obligations.SlotStatusReply := by
  refine ⟨fun s b hs hb => ?_, fun s i hs => ⟨_, execSlotStatus_slot hs i, rfl, rfl, ?_⟩⟩
  · exact congrArg Host.Outcome.next (State.slotCommand_range hs hb fun s i => .ok s (s.slotStatusPayload i))
  intro p r n
  have hsectors : s.recordSectors i = n := s.recordSectors_eq i
  have field {off : Nat} {bs : List Byte} (k : Nat) (hk : (s.slotStatusFields i)[k]? = some bs)
      (hoff : (slotStatusWidths.take k).sum = off) : hasField p off bs := by
    change hasField (s.slotStatusPayload i) off bs
    rw [s.slotStatusPayload_eq]
    exact hasField_flatten (s.slotStatusFields_widths i) hk hoff
  have hprior : hasField p 1 [r.phase.priorByte] := field 1 rfl rfl
  have hcauses : hasField p 2 (le 1 r.phase.causeBits) := field 2 rfl rfl
  have hreading : hasField p 32 [effectiveByte (s.chamber.effective i)] := field 7 rfl rfl
  have heffective (hfresh : s.chamber.fresh = true) : s.chamber.effective i = some s.chamber.readings[i] := if_pos hfresh
  have hopen : hasField p 33 (le 1 ((s.lane i).countEntries false)) := field 8 rfl rfl
  have hlate : hasField p 34 (le 1 ((s.lane i).countEntries true)) := field 9 rfl rfl
  have hbin : hasField p 35 (le 1 (binCode (r.grade.map (·.bin)))) := field 10 rfl rfl
  have hreason : hasField p 36 (le 1 ((r.grade.map (fun g => g.reason.code)).getD 0)) := field 11 rfl rfl
  have hscore : hasField p 37 (le 4 ((r.grade.map (·.score)).getD 0)) := field 12 rfl rfl
  obtain ⟨hcountOpen, hcountLate⟩ := (s.lane i).countEntries_eq
  refine ⟨field 0 rfl rfl, fun prior m th hp => ?_, fun hp => ?_, ?_, field 4 rfl rfl, field 5 rfl rfl,
    field 6 rfl rfl, fun hstale => ?_, fun hfresh => ⟨fun h hh => ?_, fun hf => ?_, fun hnone => ?_⟩, hcountOpen ▸ hopen,
    hcountLate ▸ hlate, fun hg => ?_, fun g hg => ?_, ?_, ?_, ?_, field 16 rfl rfl, field 17 rfl rfl,
    field 18 rfl rfl, field 19 rfl rfl, field 20 rfl rfl⟩
  · rw [hp] at hprior hcauses
    exact ⟨hprior, flagBits_two m th ▸ hcauses⟩
  · obtain ⟨hbyte, hbits⟩ := Phase.not_hold hp
    rw [hbyte] at hprior
    rw [hbits] at hcauses
    exact hasField_append hprior hcauses rfl rfl
  · rw [← flagBits_four]
    exact field 3 rfl rfl
  · rw [show s.chamber.effective i = none from if_neg (by simp [hstale])] at hreading
    exact hreading
  · rw [heffective hfresh, hh] at hreading
    exact hreading
  · rw [heffective hfresh, hf] at hreading
    exact hreading
  · rw [heffective hfresh, hnone] at hreading
    exact hreading
  · rw [hg] at hbin hreason hscore
    exact hasField_append hbin (hasField_append hreason hscore rfl rfl) rfl rfl
  · rw [hg] at hbin hreason hscore
    exact ⟨hbin, hreason, hscore⟩
  · rw [← hsectors]
    exact field 13 rfl rfl
  · rw [← hsectors]
    exact field 14 rfl rfl
  · rw [← hsectors]
    exact field 15 rfl rfl

end Sys2Proof.Machine
end

section
/-!
Sector images and the classification of a read sector (R61 to R69).
-/
namespace Sys2Proof.Machine

/-! ## The STAMP image (R61, R62) -/

theorem xorshiftBody_length : ∀ (n : Nat) (x : Word32), (xorshiftBody n x).length = n
  | 0, _ => rfl
  | n + 1, x => congrArg (· + 1) (xorshiftBody_length n (xorshift x))

/-- Value `k` of the sequence after a start is the start stepped `k + 1` times (R62). -/
theorem xorshiftBody_getElem? : ∀ (n k : Nat) (x : Word32), k < n → (xorshiftBody n x)[k]? = some (xorshift^[k + 1] x)
  | _ + 1, 0, _, _ => rfl
  | n + 1, k + 1, x, h => xorshiftBody_getElem? n k (xorshift x) (Nat.lt_of_succ_lt_succ h)

theorem stampWords_length {w : Nat} (hw : 2 ≤ w) (lba pass : Nat) (seed : Word32) : (stampWords w lba pass seed).length = w := by
  simp only [stampWords, List.length_cons, xorshiftBody_length]
  omega

/-- A STAMP sector claims the LBA and the pass it was made for (R67). -/
theorem claimed_stampWords (w : Nat) {lba pass : Nat} (hl : lba < 2 ^ 48) (hp : pass < 65536) (seed : Word32) :
    claimedLba (stampWords w lba pass seed) = lba ∧ claimedPass (stampWords w lba pass seed) = pass := by
  simp only [claimedLba, claimedPass, stampWords, stampHeader, List.getD_cons_zero, List.getD_cons_succ, BitVec.toNat_ofNat]
  omega

/-- A claimed LBA has 48 bits (R67). -/
theorem claimedLba_lt (received : List Word32) : claimedLba received < 2 ^ 48 := by
  have hlow := (received.getD 0 0#32).isLt
  have hhigh := (received.getD 1 0#32).isLt
  unfold claimedLba
  omega

/-! ## FILL and TABLE images (R63, R64) -/

/-- Every byte of a word that repeats a byte is that byte (R63). -/
theorem repeatedByte_extract (b : Byte) {k : Nat} (h : k < 4) : (repeatedByte b).extractLsb' (8 * k) 8 = b := by
  rw [← le_four_getD _ h, repeatedByte, le_wordOf]
  interval_cases k <;> rfl

/-- Every byte of an image of one repeated byte (R63). -/
theorem Image.byteAt_of_replicate {m : List Host.Cell} {w : Nat} {img : Image} {b : Byte}
    (h : img.words m w = List.replicate w (repeatedByte b)) {j : Nat} (hj : j < 4 * w) : img.byteAt m w j = b := by
  have hword : j / 4 < w := by omega
  rw [Image.byteAt, h, List.getD_eq_getElem?_getD, List.getElem?_replicate_of_lt hword, Option.getD_some]
  exact repeatedByte_extract b (Nat.mod_lt j (by decide))

/-! ## Differing words (R69) -/

/-- Two lists of one length that differ do so first at the words that `firstDifference` gives. -/
theorem firstDifference_spec : ∀ {xs ys : List Word32} (i : Nat), ys.length = xs.length → ys ≠ xs →
    ∃ k x y, firstDifference i xs ys = (i + k, x, y) ∧ xs[k]? = some x ∧ ys[k]? = some y ∧ x ≠ y ∧ ∀ j < k, ys[j]? = xs[j]?
  | [], [], _, _, hne => absurd rfl hne
  | x :: xs, y :: ys, i, hlength, hne => by
    by_cases hxy : x = y
    · subst hxy
      obtain ⟨k, a, b, hfirst, ha, hb, hab, hbelow⟩ := firstDifference_spec (xs := xs) (ys := ys) (i + 1) (Nat.succ.inj hlength)
        (fun h => hne (congrArg _ h))
      refine ⟨k + 1, a, b, ?_, ha, hb, hab, fun j hj => ?_⟩
      · rw [firstDifference, if_pos rfl, hfirst, Nat.add_right_comm, Nat.add_assoc i k 1]
      · cases j with
        | zero => rfl
        | succ j => exact hbelow j (Nat.lt_of_succ_lt_succ hj)
    · exact ⟨0, x, y, if_neg hxy, rfl, rfl, hxy, nofun⟩

/-- `differingWords` counts the indices at which two lists of one length differ. -/
theorem differingWords_eq : ∀ {xs ys : List Word32}, ys.length = xs.length →
    differingWords xs ys = (List.range ys.length).countP (fun j => ys[j]? ≠ xs[j]?)
  | [], [], _ => rfl
  | x :: xs, y :: ys, hlength => by
    rw [differingWords, differingWords_eq (Nat.succ.inj hlength), List.length_cons, List.range_succ_eq_map, List.countP_cons,
      List.countP_map, Nat.add_comm]
    congr 1
    by_cases hxy : x = y
    · simp [hxy]
    · simp [hxy, Ne.symm hxy]

/-! ## Classification (R66 to R69) -/

/-- A sector is CORRUPT only where it does not match, with the detail of the comparison with its image (R69). -/
theorem classify_corrupt {m : List Host.Cell} {w reach : Nat} {img : Image} {received : List Word32} {first n : Nat}
    {expected actual : Word32} (h : classify m w reach img received = .corrupt first expected actual n) :
    received ≠ img.words m w ∧ corruptResult (img.words m w) received = .corrupt first expected actual n := by
  unfold classify at h
  split at h
  · cases h
  · rename_i hne
    refine ⟨hne, ?_⟩
    split at h
    case h_1 =>
      unfold classifyStamp at h
      dsimp only at h
      split_ifs at h
      exact h
    all_goals exact h

/-- A sector of an image other than STAMP is CORRUPT where it does not match (R66). -/
theorem classify_not_stamp {m : List Host.Cell} {w reach : Nat} {img : Image} {received : List Word32}
    (himg : ∀ lba pass seed, img ≠ .stamp lba pass seed) (hne : received ≠ img.words m w) :
    classify m w reach img received = corruptResult (img.words m w) received := by
  cases img with
  | stamp lba pass seed => exact absurd rfl (himg lba pass seed)
  | fill | table | shipFill | record => exact if_neg hne

/-- What STALE asks of a sector of a STAMP image, by what the sector claims (R67). -/
theorem classify_stale_iff (m : List Host.Cell) (w reach lba pass : Nat) (seed : Word32) (received : List Word32) (old : Nat) :
    classify m w reach (.stamp lba pass seed) received = .stale old ↔ received ≠ stampWords w lba pass seed ∧
      claimedLba received = lba ∧ claimedPass received = old ∧ 1 ≤ old ∧ old < pass ∧ received = stampWords w lba old seed := by
  simp only [classify, classifyStamp, Image.words, Bool.and_eq_true, decide_eq_true_eq]
  split_ifs with hmatch hstale hslip
  · exact ⟨nofun, fun ⟨hne, _⟩ => absurd hmatch hne⟩
  · obtain ⟨⟨⟨hlba, hlow⟩, hpass⟩, hwords⟩ := hstale
    constructor
    · rintro ⟨⟩
      exact ⟨hmatch, hlba, rfl, hlow, hpass, hwords⟩
    · rintro ⟨-, -, rfl, -⟩
      rfl
  all_goals
    refine ⟨nofun, fun ⟨_, hlba, hold, hlow, hpass, hwords⟩ => absurd ?_ hstale⟩
    exact ⟨⟨⟨hlba, hold ▸ hlow⟩, hold ▸ hpass⟩, hold ▸ hwords⟩

/-- What SLIP asks of a sector of a STAMP image, by what the sector claims (R68). -/
theorem classify_slip_iff (m : List Host.Cell) (w reach lba pass : Nat) (seed : Word32) (received : List Word32) (offset : Int) :
    classify m w reach (.stamp lba pass seed) received = .slip offset ↔ received ≠ stampWords w lba pass seed ∧
      claimedLba received ≠ lba ∧ offset = (claimedLba received : Int) - lba ∧ offset.natAbs ≤ reach ∧ claimedPass received = pass ∧
      received = stampWords w (claimedLba received) pass seed := by
  simp only [classify, classifyStamp, Image.words, Bool.and_eq_true, decide_eq_true_eq]
  split_ifs with hmatch hstale hslip
  · exact ⟨nofun, fun ⟨hne, _⟩ => absurd hmatch hne⟩
  · exact ⟨nofun, fun ⟨_, hlba, _⟩ => absurd hstale.1.1.1 hlba⟩
  · obtain ⟨⟨⟨hlba, hreach⟩, hpass⟩, hwords⟩ := hslip
    constructor
    · rintro ⟨⟩
      exact ⟨hmatch, hlba, rfl, hreach, hpass, hwords⟩
    · rintro ⟨-, -, rfl, -⟩
      rfl
  · exact ⟨nofun, fun ⟨_, hlba, hoffset, hreach, hpass, hwords⟩ => absurd ⟨⟨⟨hlba, hoffset ▸ hreach⟩, hpass⟩, hwords⟩ hslip⟩

/-- STALE exactly where the sector is an intact STAMP of an older pass at the LBA (R67). -/
theorem classify_stale {lba pass : Nat} (hl : lba < 2 ^ 48) (hp : pass < 65536) (m : List Host.Cell) (w reach : Nat) (seed : Word32)
    (received : List Word32) (old : Nat) : classify m w reach (.stamp lba pass seed) received = .stale old ↔
      1 ≤ old ∧ old < pass ∧ received = stampWords w lba old seed := by
  rw [classify_stale_iff]
  constructor
  · exact fun ⟨_, _, _, hlow, hpass, hwords⟩ => ⟨hlow, hpass, hwords⟩
  · rintro ⟨hlow, hpass, rfl⟩
    obtain ⟨hlba, hold⟩ := claimed_stampWords w hl (hpass.trans hp) seed
    obtain ⟨-, hcurrent⟩ := claimed_stampWords w hl hp seed
    refine ⟨fun heq => ?_, hlba, hold, hlow, hpass, rfl⟩
    rw [heq] at hold
    omega

/-- SLIP exactly where the sector is an intact STAMP of the pass at another LBA within reach (R68). -/
theorem classify_slip {lba pass : Nat} (hl : lba < 2 ^ 48) (hp : pass < 65536) (m : List Host.Cell) (w reach : Nat) (seed : Word32)
    (received : List Word32) (offset : Int) : classify m w reach (.stamp lba pass seed) received = .slip offset ↔
      ∃ other : Nat, other < 2 ^ 48 ∧ other ≠ lba ∧ offset = (other : Int) - lba ∧ offset.natAbs ≤ reach ∧
        received = stampWords w other pass seed := by
  rw [classify_slip_iff]
  constructor
  · exact fun ⟨_, hlba, hoffset, hreach, _, hwords⟩ => ⟨_, claimedLba_lt received, hlba, hoffset, hreach, hwords⟩
  · rintro ⟨other, hother, hne, hoffset, hreach, rfl⟩
    obtain ⟨hlba, hpass⟩ := claimed_stampWords w hother hp seed
    obtain ⟨hcurrent, -⟩ := claimed_stampWords w hl hp seed
    have hmismatch : stampWords w other pass seed ≠ stampWords w lba pass seed := fun heq => hne (by rw [← hlba, heq, hcurrent])
    rw [hlba]
    exact ⟨hmismatch, hne, hoffset, hreach, hpass, rfl⟩

/-- Settles O41: the images word by word, the classification by what a sector claims. -/
theorem stampImageAndClassification : Obligations.StampImageAndClassification := by
  refine ⟨?_, fun m w => ⟨?_, fun lba start n => ⟨?_, ?_⟩⟩, ?_⟩
  · intro w lba pass seed hw hl hp x words
    have hlow : BitVec.ofNat 32 lba = BitVec.ofNat 32 (lba % 2 ^ 32) := BitVec.eq_of_toNat_eq (by simp)
    refine ⟨stampWords_length hw lba pass seed, congrArg some hlow, rfl, fun k hk => ?_, claimed_stampWords w hl hp seed⟩
    exact xorshiftBody_getElem? (w - 2) k (stampStart lba pass seed) (Nat.lt_sub_of_add_lt hk)
  · intro b img himg
    have hwords : img.words m w = List.replicate w (repeatedByte b) := by obtain rfl | rfl := himg <;> rfl
    exact ⟨by rw [hwords, List.length_replicate], fun j hj => Image.byteAt_of_replicate hwords hj⟩
  · simp [Image.words]
  · intro k hk
    simp [Image.words, tableWord, hk]
  · intro m w reach img received hw c
    refine ⟨classify_isMatch_iff m w reach img received, ?_, ?_, ?_, fun himg hne => ⟨_, _, _, _, classify_not_stamp himg hne⟩⟩
    · rintro lba pass seed old rfl hl hp
      exact classify_stale hl hp m w reach seed received old
    · rintro lba pass seed offset rfl hl hp
      exact classify_slip hl hp m w reach seed received offset
    · intro first expected actual n hc hlength
      obtain ⟨hne, hresult⟩ := classify_corrupt hc
      obtain ⟨k, x, y, hfirst, hx, hy, hxy, hbelow⟩ := firstDifference_spec 0 hlength hne
      rw [corruptResult, hfirst, Nat.zero_add] at hresult
      obtain ⟨rfl, rfl, rfl, rfl⟩ := CheckResult.corrupt.inj hresult
      exact ⟨hx, hy, hxy, hbelow, differingWords_eq hlength⟩

end Sys2Proof.Machine
end

section
/-!
A slot's extent list (05_defect_extents.md): a list as R78 keeps it, what one insertion does to it (R80 to R84), and what every
insertion keeps of it (R76, R78, R79).
-/
namespace Sys2Proof.Machine

/-! ## Extents (R77) -/

/-- An LBA lies within an extent (R81). -/
def Extent.Covers (e : Extent) (x : Nat) : Prop := e.start ≤ x ∧ x < e.start + e.length

/-- An extent ends just below an LBA and may grow (R82). -/
def Extent.GrowsUp (l : Nat) (e : Extent) : Prop := e.start + e.length = l ∧ e.length < 65535

/-- An extent starts just above an LBA and may grow (R83). -/
def Extent.GrowsDown (l : Nat) (e : Extent) : Prop := e.start = l + 1 ∧ e.length < 65535

/-- Two extents touch and fit one extent (R82). -/
def Extent.Takes (e f : Extent) : Prop := e.start + e.length = f.start ∧ e.length + f.length ≤ 65535

/-- An extent is not empty, no longer than an extent may be, and within the LBAs (R77, R78). -/
def Extent.Fits (e : Extent) : Prop := 1 ≤ e.length ∧ e.length ≤ 65535 ∧ e.start + e.length ≤ 2 ^ 48

/-- Of two neighbours the first ends before the second starts, and they touch only where they do not fit one extent (R78). -/
def Extent.Apart (e f : Extent) : Prop :=
  e.start + e.length < f.start ∨ (e.start + e.length = f.start ∧ 65535 < e.length + f.length)

theorem Extent.Apart.end_le {e f : Extent} (h : e.Apart f) : e.start + e.length ≤ f.start := by
  unfold Extent.Apart at h
  omega

theorem Extent.contains_iff (e : Extent) (l : Nat) : e.contains l = true ↔ e.Covers l := by
  simp only [Extent.contains, Bool.and_eq_true, decide_eq_true_eq]
  rfl

theorem Extent.growsUp_iff (e : Extent) (l : Nat) : (e.above == l && e.length < maxExtentLength) = true ↔ e.GrowsUp l := by
  simp only [Bool.and_eq_true, beq_iff_eq, decide_eq_true_eq]
  rfl

theorem Extent.growsDown_iff (e : Extent) (l : Nat) : (l + 1 == e.start && e.length < maxExtentLength) = true ↔ e.GrowsDown l := by
  simp only [Bool.and_eq_true, beq_iff_eq, decide_eq_true_eq, eq_comm (a := l + 1)]
  rfl

theorem Extent.mergesWith_iff (e f : Extent) : e.mergesWith f = true ↔ e.Takes f := by
  simp only [Extent.mergesWith, Bool.and_eq_true, beq_iff_eq, decide_eq_true_eq]
  rfl

@[simp] theorem Extent.absorb_length (e : Extent) (c : Cause) (p : Nat) : (e.absorb c p).length = e.length := rfl
@[simp] theorem Extent.grownUp_start (e : Extent) (c : Cause) (p : Nat) : (e.grownUp c p).start = e.start := rfl
@[simp] theorem Extent.grownUp_length (e : Extent) (c : Cause) (p : Nat) : (e.grownUp c p).length = e.length + 1 := rfl
@[simp] theorem Extent.grownDown_start (e : Extent) (l : Nat) (c : Cause) (p : Nat) : (e.grownDown l c p).start = l := rfl
@[simp] theorem Extent.grownDown_length (e : Extent) (l : Nat) (c : Cause) (p : Nat) :
    (e.grownDown l c p).length = e.length + 1 := rfl
@[simp] theorem Extent.created_start (l : Nat) (c : Cause) (p : Nat) : (Extent.created l c p).start = l := rfl
@[simp] theorem Extent.created_length (l : Nat) (c : Cause) (p : Nat) : (Extent.created l c p).length = 1 := rfl
@[simp] theorem Extent.merge_start (e f : Extent) : (e.merge f).start = e.start := rfl
@[simp] theorem Extent.merge_length (e f : Extent) : (e.merge f).length = e.length + f.length := rfl

/-! ## A list as R78 keeps it -/

/-- A list as R78 keeps it: every extent fits, and each is apart from the next. -/
structure ExtentsSound (es : List Extent) : Prop where
  fits : ∀ e ∈ es, e.Fits
  apart : es.IsChain Extent.Apart

/-- The list is tested extent by extent; only the last one's end is compared with the LBAs. -/
theorem extentsOk_iff : ∀ es : List Extent, extentsOk es = true ↔ ExtentsSound es
  | [] => ⟨fun _ => ⟨nofun, .nil⟩, fun _ => rfl⟩
  | [e] => by
    simp only [extentsOk, Bool.and_eq_true, decide_eq_true_eq]
    refine ⟨fun ⟨⟨hlow, hhigh⟩, hend⟩ => ⟨?_, .singleton e⟩, fun h => ?_⟩
    · rw [List.forall_mem_singleton]
      exact ⟨hlow, hhigh, hend⟩
    · obtain ⟨hlow, hhigh, hend⟩ := h.fits e (List.mem_cons_self ..)
      exact ⟨⟨hlow, hhigh⟩, hend⟩
  | e :: f :: fs => by
    rw [extentsOk]
    simp only [Bool.and_eq_true, Bool.or_eq_true, beq_iff_eq, decide_eq_true_eq, extentsOk_iff (f :: fs)]
    constructor
    · rintro ⟨⟨⟨hlow, hhigh⟩, hapart⟩, ⟨hfits, hchain⟩⟩
      have hapart : e.Apart f := hapart
      obtain ⟨hflow, hfhigh, hfend⟩ := hfits f (List.mem_cons_self ..)
      have hbelow := hapart.end_le
      exact ⟨List.forall_mem_cons.mpr ⟨⟨hlow, hhigh, by omega⟩, hfits⟩, .cons_cons hapart hchain⟩
    · rintro ⟨hfits, hchain⟩
      obtain ⟨⟨hlow, hhigh, -⟩, hrest⟩ := List.forall_mem_cons.mp hfits
      obtain ⟨hapart, hchain⟩ := List.isChain_cons_cons.mp hchain
      exact ⟨⟨⟨hlow, hhigh⟩, hapart⟩, hrest, hchain⟩

/-- A list around one of its extents. -/
theorem extentsSound_around {pre post : List Extent} {e : Extent} : ExtentsSound (pre ++ e :: post) ↔
    ExtentsSound pre ∧ ExtentsSound post ∧ e.Fits ∧ (∀ d ∈ pre.getLast?, d.Apart e) ∧ ∀ f ∈ post.head?, e.Apart f := by
  constructor
  · rintro ⟨hfits, hchain⟩
    obtain ⟨hpre, hepost, hjoin⟩ := List.isChain_append.mp hchain
    obtain ⟨hnext, hpost⟩ := List.isChain_cons.mp hepost
    simp only [List.forall_mem_append, List.forall_mem_cons] at hfits
    obtain ⟨hfpre, hfe, hfpost⟩ := hfits
    exact ⟨⟨hfpre, hpre⟩, ⟨hfpost, hpost⟩, hfe, fun d hd => hjoin d hd e rfl, hnext⟩
  · rintro ⟨⟨hfpre, hpre⟩, ⟨hfpost, hpost⟩, hfe, hbefore, hnext⟩
    refine ⟨by simpa only [List.forall_mem_append, List.forall_mem_cons] using ⟨hfpre, hfe, hfpost⟩, List.isChain_append.mpr
      ⟨hpre, List.isChain_cons.mpr ⟨hnext, hpost⟩, ?_⟩⟩
    rintro d hd _ ⟨⟩
    exact hbefore d hd

/-- Every extent ends at or before the start of each later one. -/
theorem ExtentsSound.ordered {es : List Extent} (h : ExtentsSound es) :
    es.Pairwise (fun e f => e.start + e.length ≤ f.start) := by
  have htrans : IsTrans Extent (fun e f => e.start + e.length ≤ f.start) := ⟨fun _ _ _ _ _ => by omega⟩
  exact (h.apart.imp (S := fun e f => e.start + e.length ≤ f.start) fun _ _ h => h.end_le).pairwise

theorem ExtentsSound.before {pre post : List Extent} {e d : Extent} (h : ExtentsSound (pre ++ e :: post)) (hd : d ∈ pre) :
    d.start + d.length ≤ e.start := by
  obtain ⟨-, -, hcross⟩ := List.pairwise_append.mp h.ordered
  exact hcross d hd e (List.mem_cons_self ..)

/-- An extent replaced by one that fits and is apart from the neighbours. -/
theorem ExtentsSound.replace {pre post : List Extent} {e g : Extent} (h : ExtentsSound (pre ++ e :: post)) (hg : g.Fits)
    (hbefore : ∀ d ∈ pre, d.Apart e → d.Apart g) (hnext : ∀ f ∈ post.head?, e.Apart f → g.Apart f) : ExtentsSound (pre ++ g :: post) := by
  obtain ⟨hpre, hpost, -, hlast, hhead⟩ := extentsSound_around.mp h
  exact extentsSound_around.mpr ⟨hpre, hpost, hg, fun d hd => hbefore d (List.mem_of_mem_getLast? hd) (hlast d hd),
    fun f hf => hnext f hf (hhead f hf)⟩

/-! ## Sums, lengths and the LBAs covered -/

theorem sectorSum_eq (es : List Extent) : sectorSum es = (es.map (·.length)).sum := by
  induction es with
  | nil => rfl
  | cons e es ih => rw [sectorSum, ih]; rfl

/-- The sectors of a list that is no longer than the pool are far below the limit of a 32-bit count. -/
theorem ExtentsSound.sectorSum_lt {es : List Extent} (h : ExtentsSound es) (hn : es.length ≤ 512) : sectorSum es < max32 := by
  have hle : (es.map (·.length)).sum ≤ (es.map (·.length)).length • 65535 := List.sum_le_card_nsmul _ _ fun n hn => by
    obtain ⟨e, he, rfl⟩ := List.mem_map.mp hn
    obtain ⟨-, hhigh, -⟩ := h.fits e he
    exact hhigh
  rw [List.length_map, smul_eq_mul] at hle
  rw [sectorSum_eq]
  unfold max32
  omega

/-- Some extent of a list covers an LBA. -/
def CoveredBy (es : List Extent) (x : Nat) : Prop := ∃ e ∈ es, e.Covers x

theorem coveredBy_cons {e : Extent} {es : List Extent} {x : Nat} : CoveredBy (e :: es) x ↔ e.Covers x ∨ CoveredBy es x := by
  simp [CoveredBy]

theorem coveredBy_append {pre post : List Extent} {x : Nat} : CoveredBy (pre ++ post) x ↔ CoveredBy pre x ∨ CoveredBy post x := by
  simp [CoveredBy, or_and_right, exists_or]

/-! ## Containment and extension (R81 to R83) -/

theorem absorbInto_eq_none (l : Nat) (c : Cause) (p : Nat) (es : List Extent) :
    absorbInto l c p es = none ↔ ∀ e ∈ es, ¬e.Covers l := by
  induction es with
  | nil => simp [absorbInto]
  | cons e es ih =>
    rw [absorbInto, List.forall_mem_cons, ← ih, ← e.contains_iff]
    split <;> simp_all

theorem absorbInto_around {l : Nat} {pre : List Extent} (hpre : ∀ d ∈ pre, ¬d.Covers l) {e : Extent} (he : e.Covers l) (c : Cause)
    (p : Nat) (post : List Extent) : absorbInto l c p (pre ++ e :: post) = some (pre ++ e.absorb c p :: post) := by
  induction pre with
  | nil => rw [List.nil_append, absorbInto, if_pos ((e.contains_iff l).mpr he)]; rfl
  | cons d pre ih =>
    obtain ⟨hd, hpre⟩ := List.forall_mem_cons.mp hpre
    rw [List.cons_append, absorbInto, if_neg (mt (d.contains_iff l).mp hd), ih hpre]
    rfl

theorem extendUp_eq_none (l : Nat) (c : Cause) (p : Nat) (es : List Extent) :
    extendUp l c p es = none ↔ ∀ e ∈ es, ¬e.GrowsUp l := by
  induction es with
  | nil => simp [extendUp]
  | cons e es ih =>
    rw [extendUp, List.forall_mem_cons, ← ih, ← e.growsUp_iff]
    split <;> simp_all

theorem extendUp_around {l : Nat} {pre : List Extent} (hpre : ∀ d ∈ pre, ¬d.GrowsUp l) {e : Extent} (he : e.GrowsUp l) (c : Cause)
    (p : Nat) (post : List Extent) : extendUp l c p (pre ++ e :: post) = some (pre ++ consMerging (e.grownUp c p) post) := by
  induction pre with
  | nil => rw [List.nil_append, extendUp, if_pos ((e.growsUp_iff l).mpr he)]; rfl
  | cons d pre ih =>
    obtain ⟨hd, hpre⟩ := List.forall_mem_cons.mp hpre
    rw [List.cons_append, extendUp, if_neg (mt (d.growsUp_iff l).mp hd), ih hpre]
    rfl

theorem consMerging_takes {e f : Extent} (h : e.Takes f) (fs : List Extent) : consMerging e (f :: fs) = e.merge f :: fs :=
  if_pos ((e.mergesWith_iff f).mpr h)

theorem consMerging_apart {e : Extent} {es : List Extent} (h : ∀ f ∈ es.head?, ¬e.Takes f) : consMerging e es = e :: es := by
  cases es with
  | nil => rfl
  | cons f fs => exact if_neg (mt (e.mergesWith_iff f).mp (h f rfl))

theorem extendDownAfter_eq_none (l : Nat) (c : Cause) (p : Nat) (es : List Extent) : ∀ below : Extent,
    extendDownAfter l c p below es = none ↔ ∀ e ∈ es, ¬e.GrowsDown l := by
  induction es with
  | nil => simp [extendDownAfter]
  | cons e es ih =>
    intro below
    rw [extendDownAfter, List.forall_mem_cons, ← ih e, ← e.growsDown_iff]
    split <;> simp_all

theorem extendDown_eq_none (l : Nat) (c : Cause) (p : Nat) (es : List Extent) :
    extendDown l c p es = none ↔ ∀ e ∈ es, ¬e.GrowsDown l := by
  cases es with
  | nil => simp [extendDown]
  | cons e es =>
    rw [extendDown, List.forall_mem_cons, ← extendDownAfter_eq_none l c p es e, ← e.growsDown_iff]
    split <;> simp_all

/-- Where no extent grows upward to the LBA, an extent grown downward to it takes none in: the one below would have grown upward. -/
theorem Extent.not_takes_grownDown {l : Nat} {d f : Extent} (hd : ¬d.GrowsUp l) (c : Cause) (p : Nat) :
    ¬d.Takes (f.grownDown l c p) := by
  unfold Extent.GrowsUp at hd
  unfold Extent.Takes
  simp only [Extent.grownDown_start, Extent.grownDown_length]
  omega

theorem extendDownAfter_around {l : Nat} {pre : List Extent} {f : Extent} (hf : f.GrowsDown l) (c : Cause) (p : Nat)
    (post : List Extent) : ∀ below : Extent, ¬below.GrowsUp l → (∀ d ∈ pre, ¬d.GrowsUp l) → (∀ d ∈ pre, ¬d.GrowsDown l) →
      extendDownAfter l c p below (pre ++ f :: post) = some (below :: (pre ++ f.grownDown l c p :: post)) := by
  induction pre with
  | nil =>
    intro below hbelow _ _
    rw [List.nil_append, extendDownAfter, if_pos ((f.growsDown_iff l).mpr hf), consMerging_apart]
    · rfl
    · rintro _ ⟨⟩
      exact Extent.not_takes_grownDown hbelow c p
  | cons d pre ih =>
    intro below _ hup hdown
    obtain ⟨hdup, hup⟩ := List.forall_mem_cons.mp hup
    obtain ⟨hddown, hdown⟩ := List.forall_mem_cons.mp hdown
    rw [List.cons_append, extendDownAfter, if_neg (mt (d.growsDown_iff l).mp hddown), ih d hdup hup hdown]
    rfl

theorem extendDown_around {l : Nat} {pre : List Extent} (hup : ∀ d ∈ pre, ¬d.GrowsUp l) (hdown : ∀ d ∈ pre, ¬d.GrowsDown l)
    {f : Extent} (hf : f.GrowsDown l) (c : Cause) (p : Nat) (post : List Extent) :
    extendDown l c p (pre ++ f :: post) = some (pre ++ f.grownDown l c p :: post) := by
  cases pre with
  | nil => rw [List.nil_append, extendDown, if_pos ((f.growsDown_iff l).mpr hf)]; rfl
  | cons d pre =>
    obtain ⟨hdup, hup⟩ := List.forall_mem_cons.mp hup
    obtain ⟨hddown, hdown⟩ := List.forall_mem_cons.mp hdown
    rw [List.cons_append, extendDown, if_neg (mt (d.growsDown_iff l).mp hddown), extendDownAfter_around hf c p post d hdup hup hdown]
    rfl

/-- A new extent is placed behind those that start no later and before the next (R84). -/
theorem placeExtent_around (x : Extent) (es : List Extent) : ∃ pre post, es = pre ++ post ∧ placeExtent x es = pre ++ x :: post ∧
    (∀ e ∈ pre, e.start ≤ x.start) ∧ ∀ f ∈ post.head?, x.start < f.start := by
  induction es with
  | nil => exact ⟨[], [], rfl, rfl, nofun, nofun⟩
  | cons e es ih =>
    unfold placeExtent
    split
    · rename_i hlt
      exact ⟨[], e :: es, rfl, rfl, nofun, by rintro _ ⟨⟩; exact hlt⟩
    · rename_i hge
      obtain ⟨pre, post, rfl, hplace, hpre, hpost⟩ := ih
      exact ⟨e :: pre, post, rfl, by rw [hplace]; rfl, List.forall_mem_cons.mpr ⟨Nat.le_of_not_lt hge, hpre⟩, hpost⟩

end Sys2Proof.Machine
end

section
/-!
One insertion into a slot's extent list (R80 to R84): what it does, case by case, and what it keeps of the list, of the records and of the
LBAs covered (R76, R78).
-/
namespace Sys2Proof.Machine

/-! ## One insertion, case by case -/

/-- A defect summary with another list and one sector more. -/
def Defects.grown (d : Defects) (es : List Extent) : Defects := { d with extents := es, sectors := d.sectors + 1 }

/-- A list as R78 keeps it, no longer than the pool, with defect_sectors the sum of its lengths. -/
structure Defects.Sound (d : Defects) : Prop where
  extents : ExtentsSound d.extents
  length : d.extents.length ≤ 512
  sectors : d.sectors = sectorSum d.extents

/-- The count of sectors is far from its limit, so that one more is counted. -/
theorem Defects.Sound.extended {d : Defects} (h : d.Sound) (es : List Extent) : d.extended es = d.grown es := by
  have hlt := h.extents.sectorSum_lt h.length
  rw [← h.sectors] at hlt
  exact congrArg (fun n => { d with extents := es, sectors := n }) (Nat.min_eq_left hlt)

/-- What an insertion does to a defect summary and the free records (R81 to R84). -/
inductive Inserted (cap l : Nat) (c : Cause) (p : Nat) (d : Defects) (free : Nat) : Defects × Nat → Prop
  /-- An extent that covers the LBA absorbs it (R81). -/
  | absorbed {pre e post} (list : d.extents = pre ++ e :: post) (covers : e.Covers l) :
      Inserted cap l c p d free ({ d with extents := pre ++ e.absorb c p :: post }, free)
  /-- The extent below grows upward and takes the next one in (R82). -/
  | joined {pre e f rest} (list : d.extents = pre ++ e :: f :: rest) (outside : ¬CoveredBy d.extents l) (up : e.GrowsUp l)
      (takes : (e.grownUp c p).Takes f) :
      Inserted cap l c p d free (d.grown (pre ++ (e.grownUp c p).merge f :: rest), free + 1)
  /-- The extent below grows upward (R82). -/
  | grownUp {pre e post} (list : d.extents = pre ++ e :: post) (outside : ¬CoveredBy d.extents l) (up : e.GrowsUp l)
      (apart : ∀ f ∈ post.head?, ¬(e.grownUp c p).Takes f) :
      Inserted cap l c p d free (d.grown (pre ++ e.grownUp c p :: post), free)
  /-- The extent above grows downward (R83). -/
  | grownDown {pre f post} (list : d.extents = pre ++ f :: post) (outside : ¬CoveredBy d.extents l)
      (noneUp : ∀ e ∈ d.extents, ¬e.GrowsUp l) (down : f.GrowsDown l) :
      Inserted cap l c p d free (d.grown (pre ++ f.grownDown l c p :: post), free)
  /-- An extent of the one LBA is created in its place (R84). -/
  | created {pre post} (list : d.extents = pre ++ post) (outside : ¬CoveredBy d.extents l) (noneUp : ∀ e ∈ d.extents, ¬e.GrowsUp l)
      (noneDown : ∀ e ∈ d.extents, ¬e.GrowsDown l) (before : ∀ e ∈ pre, e.start ≤ l) (after : ∀ f ∈ post.head?, l < f.start)
      (below : d.extents.length < cap) (record : 0 < free) :
      Inserted cap l c p d free (d.grown (pre ++ Extent.created l c p :: post), free - 1)
  /-- Unrecorded (R84). -/
  | lost (outside : ¬CoveredBy d.extents l) (noneUp : ∀ e ∈ d.extents, ¬e.GrowsUp l) (noneDown : ∀ e ∈ d.extents, ¬e.GrowsDown l)
      (full : ¬(d.extents.length < cap ∧ 0 < free)) : Inserted cap l c p d free (d.lost, free)

section
variable {cap l : Nat} {c : Cause} {p : Nat} {d : Defects} {free : Nat}

theorem not_coveredBy {es : List Extent} : ¬CoveredBy es l ↔ ∀ e ∈ es, ¬e.Covers l := by simp [CoveredBy]

/-- Within an extent (R81). -/
theorem insertDefect_covers (hd : d.Sound) {pre post : List Extent} {e : Extent} (list : d.extents = pre ++ e :: post)
    (covers : e.Covers l) : insertDefect cap l c p d free = ({ d with extents := pre ++ e.absorb c p :: post }, free) := by
  have hpre : ∀ x ∈ pre, ¬x.Covers l := fun x hx hcovers => by
    have hbefore := (list ▸ hd.extents).before hx
    unfold Extent.Covers at *
    omega
  simp only [insertDefect, list, absorbInto_around hpre covers]

/-- Just above an extent that may grow (R82). -/
theorem insertDefect_growsUp (hd : d.Sound) (outside : ¬CoveredBy d.extents l) {pre post : List Extent} {e : Extent}
    (list : d.extents = pre ++ e :: post) (up : e.GrowsUp l) :
    insertDefect cap l c p d free = (d.grown (pre ++ consMerging (e.grownUp c p) post),
      free + (d.extents.length - (pre ++ consMerging (e.grownUp c p) post).length)) := by
  have hpre : ∀ x ∈ pre, ¬x.GrowsUp l := fun x hx hup => by
    have hbefore := (list ▸ hd.extents).before hx
    obtain ⟨hlow, -, -⟩ := hd.extents.fits e (by rw [list]; simp)
    unfold Extent.GrowsUp at *
    omega
  have habsorb := (absorbInto_eq_none l c p d.extents).mpr (not_coveredBy.mp outside)
  have hextend := extendUp_around hpre up c p post
  rw [← list] at hextend
  simp only [insertDefect, habsorb, hextend, hd.extended]

theorem insertDefect_joined (hd : d.Sound) (outside : ¬CoveredBy d.extents l) {pre rest : List Extent} {e f : Extent}
    (list : d.extents = pre ++ e :: f :: rest) (up : e.GrowsUp l) (takes : (e.grownUp c p).Takes f) :
    insertDefect cap l c p d free = (d.grown (pre ++ (e.grownUp c p).merge f :: rest), free + 1) := by
  have hlength : d.extents.length - (pre ++ (e.grownUp c p).merge f :: rest).length = 1 := by
    simp only [list, List.length_append, List.length_cons]
    omega
  rw [insertDefect_growsUp hd outside list up, consMerging_takes takes, hlength]

theorem insertDefect_grownUp (hd : d.Sound) (outside : ¬CoveredBy d.extents l) {pre post : List Extent} {e : Extent}
    (list : d.extents = pre ++ e :: post) (up : e.GrowsUp l) (apart : ∀ f ∈ post.head?, ¬(e.grownUp c p).Takes f) :
    insertDefect cap l c p d free = (d.grown (pre ++ e.grownUp c p :: post), free) := by
  have hlength : d.extents.length - (pre ++ e.grownUp c p :: post).length = 0 := by simp [list]
  rw [insertDefect_growsUp hd outside list up, consMerging_apart apart, hlength, Nat.add_zero]

/-- Just below an extent that may grow, where none below grows upward (R83). -/
theorem insertDefect_grownDown (hd : d.Sound) (outside : ¬CoveredBy d.extents l) (noneUp : ∀ e ∈ d.extents, ¬e.GrowsUp l)
    {pre post : List Extent} {f : Extent} (list : d.extents = pre ++ f :: post) (down : f.GrowsDown l) :
    insertDefect cap l c p d free = (d.grown (pre ++ f.grownDown l c p :: post), free) := by
  have hmem {x : Extent} (hx : x ∈ pre) : x ∈ d.extents := list ▸ List.mem_append_left _ hx
  have hpre : ∀ x ∈ pre, ¬x.GrowsDown l := fun x hx hdown => by
    have hbefore := (list ▸ hd.extents).before hx
    obtain ⟨hlow, -, -⟩ := hd.extents.fits x (hmem hx)
    unfold Extent.GrowsDown at *
    omega
  have habsorb := (absorbInto_eq_none l c p d.extents).mpr (not_coveredBy.mp outside)
  have hup := (extendUp_eq_none l c p d.extents).mpr noneUp
  have hextend := extendDown_around (fun x hx => noneUp x (hmem hx)) hpre down c p post
  rw [← list] at hextend
  have hlength : d.extents.length - (pre ++ f.grownDown l c p :: post).length = 0 := by simp [list]
  simp only [insertDefect, habsorb, hup, hextend, hd.extended, hlength, Nat.add_zero]

/-- Neither within an extent nor next to one that may grow (R84). -/
theorem insertDefect_elsewhere (hd : d.Sound) (outside : ¬CoveredBy d.extents l) (noneUp : ∀ e ∈ d.extents, ¬e.GrowsUp l)
    (noneDown : ∀ e ∈ d.extents, ¬e.GrowsDown l) : insertDefect cap l c p d free =
      if d.extents.length < cap ∧ 0 < free then (d.grown (placeExtent (Extent.created l c p) d.extents), free - 1) else (d.lost, free) := by
  have habsorb := (absorbInto_eq_none l c p d.extents).mpr (not_coveredBy.mp outside)
  have hup := (extendUp_eq_none l c p d.extents).mpr noneUp
  have hdown := (extendDown_eq_none l c p d.extents).mpr noneDown
  simp only [insertDefect, habsorb, hup, hdown, hd.extended, Bool.and_eq_true, decide_eq_true_eq]

theorem insertDefect_created (hd : d.Sound) (outside : ¬CoveredBy d.extents l) (noneUp : ∀ e ∈ d.extents, ¬e.GrowsUp l)
    (noneDown : ∀ e ∈ d.extents, ¬e.GrowsDown l) (below : d.extents.length < cap) (record : 0 < free) :
    insertDefect cap l c p d free = (d.grown (placeExtent (Extent.created l c p) d.extents), free - 1) := by
  rw [insertDefect_elsewhere hd outside noneUp noneDown, if_pos ⟨below, record⟩]

theorem insertDefect_lost (hd : d.Sound) (outside : ¬CoveredBy d.extents l) (noneUp : ∀ e ∈ d.extents, ¬e.GrowsUp l)
    (noneDown : ∀ e ∈ d.extents, ¬e.GrowsDown l) (full : ¬(d.extents.length < cap ∧ 0 < free)) :
    insertDefect cap l c p d free = (d.lost, free) := by
  rw [insertDefect_elsewhere hd outside noneUp noneDown, if_neg full]

/-- Every insertion is one of the cases (R80). -/
theorem insertDefect_inserted (cap l : Nat) (c : Cause) (p : Nat) (hd : d.Sound) (free : Nat) :
    Inserted cap l c p d free (insertDefect cap l c p d free) := by
  by_cases outside : CoveredBy d.extents l
  · obtain ⟨e, he, covers⟩ := outside
    obtain ⟨pre, post, list⟩ := List.append_of_mem he
    rw [insertDefect_covers hd list covers]
    exact .absorbed list covers
  by_cases noneUp : ∀ e ∈ d.extents, ¬e.GrowsUp l
  · by_cases noneDown : ∀ e ∈ d.extents, ¬e.GrowsDown l
    · by_cases room : d.extents.length < cap ∧ 0 < free
      · obtain ⟨below, record⟩ := room
        obtain ⟨pre, post, list, hplace, before, after⟩ := placeExtent_around (Extent.created l c p) d.extents
        rw [insertDefect_created hd outside noneUp noneDown below record, hplace]
        exact .created list outside noneUp noneDown before after below record
      · rw [insertDefect_lost hd outside noneUp noneDown room]
        exact .lost outside noneUp noneDown room
    · push Not at noneDown
      obtain ⟨f, hf, down⟩ := noneDown
      obtain ⟨pre, post, list⟩ := List.append_of_mem hf
      rw [insertDefect_grownDown hd outside noneUp list down]
      exact .grownDown list outside noneUp down
  · push Not at noneUp
    obtain ⟨e, he, up⟩ := noneUp
    obtain ⟨pre, post, list⟩ := List.append_of_mem he
    by_cases apart : ∀ f ∈ post.head?, ¬(e.grownUp c p).Takes f
    · rw [insertDefect_grownUp hd outside list up apart]
      exact .grownUp list outside up apart
    · push Not at apart
      obtain ⟨f, hf, takes⟩ := apart
      obtain ⟨rest, rfl⟩ := List.head?_eq_some_iff.mp hf
      rw [insertDefect_joined hd outside list up takes]
      exact .joined list outside up takes

/-! ## What an insertion keeps (R76, R78) -/

variable {r : Defects × Nat}

/-- The extent below grows upward and takes the next one in: the list stays as R78 says. -/
theorem ExtentsSound.joined {pre rest : List Extent} {e f : Extent} (h : ExtentsSound (pre ++ e :: f :: rest))
    (takes : (e.grownUp c p).Takes f) : ExtentsSound (pre ++ (e.grownUp c p).merge f :: rest) := by
  have hstart : ((e.grownUp c p).merge f).start = e.start := rfl
  have hlength : ((e.grownUp c p).merge f).length = e.length + 1 + f.length := rfl
  obtain ⟨hpre, hfrest, ⟨hlow, -, -⟩, hbefore, -⟩ := extentsSound_around.mp h
  obtain ⟨-, hrest, ⟨-, -, hend⟩, -, hnext⟩ := extentsSound_around (pre := []).mp hfrest
  simp only [Extent.Takes, Extent.grownUp_start, Extent.grownUp_length] at takes
  refine extentsSound_around.mpr ⟨hpre, hrest, ⟨by omega, by omega, by omega⟩, fun d hd => ?_, fun g hg => ?_⟩
  · have hapart := hbefore d hd
    unfold Extent.Apart at *
    omega
  · have hapart := hnext g hg
    unfold Extent.Apart at *
    omega

/-- The extent below grows upward and stays apart from the next one. -/
theorem ExtentsSound.grownUp {pre post : List Extent} {e : Extent} (h : ExtentsSound (pre ++ e :: post)) (hl : l < 2 ^ 48)
    (outside : ¬CoveredBy post l) (up : e.GrowsUp l) (apart : ∀ f ∈ post.head?, ¬(e.grownUp c p).Takes f) :
    ExtentsSound (pre ++ e.grownUp c p :: post) := by
  have hstart : (e.grownUp c p).start = e.start := rfl
  have hlength : (e.grownUp c p).length = e.length + 1 := rfl
  obtain ⟨-, hpost, -, -, -⟩ := extentsSound_around.mp h
  unfold Extent.GrowsUp at up
  refine h.replace ⟨by omega, by omega, by omega⟩ (fun x hx hapart => ?_) fun f hf hapart => ?_
  · unfold Extent.Apart at *
    omega
  · have htakes := apart f hf
    have hmem := List.mem_of_mem_head? hf
    have hout := not_coveredBy.mp outside f hmem
    obtain ⟨hlow, -, -⟩ := hpost.fits f hmem
    unfold Extent.Takes Extent.Covers Extent.Apart at *
    omega

/-- An extent that starts at an LBA outside the ones before, none of which grows upward to it, is apart from them. -/
theorem Extent.apart_of_not_growsUp {x y : Extent} (outside : ¬x.Covers l) (noneUp : ¬x.GrowsUp l) (before : x.start ≤ l)
    (hy : y.start = l) (hlow : 1 ≤ y.length) : x.Apart y := by
  unfold Extent.Covers Extent.GrowsUp Extent.Apart at *
  omega

/-- The extent above grows downward. -/
theorem ExtentsSound.grownDown {pre post : List Extent} {f : Extent} (h : ExtentsSound (pre ++ f :: post))
    (outside : ¬CoveredBy pre l) (noneUp : ∀ e ∈ pre, ¬e.GrowsUp l) (down : f.GrowsDown l) :
    ExtentsSound (pre ++ f.grownDown l c p :: post) := by
  have hstart : (f.grownDown l c p).start = l := rfl
  have hlength : (f.grownDown l c p).length = f.length + 1 := rfl
  obtain ⟨hpre, -, ⟨-, -, hend⟩, -, -⟩ := extentsSound_around.mp h
  unfold Extent.GrowsDown at down
  refine h.replace ⟨by omega, by omega, by omega⟩ (fun x hx hapart => ?_) fun g hg hapart => ?_
  · have hle := hapart.end_le
    obtain ⟨hlow, -, -⟩ := hpre.fits x hx
    exact Extent.apart_of_not_growsUp (not_coveredBy.mp outside x hx) (noneUp x hx) (by omega) hstart (by omega)
  · unfold Extent.Apart at *
    omega

/-- An extent of the one LBA is created in its place. -/
theorem ExtentsSound.created {pre post : List Extent} (h : ExtentsSound (pre ++ post)) (hl : l < 2 ^ 48)
    (outside : ¬CoveredBy pre l) (noneUp : ∀ e ∈ pre, ¬e.GrowsUp l) (noneDown : ∀ e ∈ post, ¬e.GrowsDown l)
    (before : ∀ e ∈ pre, e.start ≤ l) (after : ∀ f ∈ post.head?, l < f.start) :
    ExtentsSound (pre ++ Extent.created l c p :: post) := by
  have hstart : (Extent.created l c p).start = l := rfl
  have hlength : (Extent.created l c p).length = 1 := rfl
  obtain ⟨hfits, hchain⟩ := h
  obtain ⟨hpre, hpost, -⟩ := List.isChain_append.mp hchain
  obtain ⟨hfitsPre, hfitsPost⟩ := List.forall_mem_append.mp hfits
  refine extentsSound_around.mpr ⟨⟨hfitsPre, hpre⟩, ⟨hfitsPost, hpost⟩, ⟨by omega, by omega, by omega⟩, fun x hx => ?_, fun f hf => ?_⟩
  · have hmem := List.mem_of_mem_getLast? hx
    exact Extent.apart_of_not_growsUp (not_coveredBy.mp outside x hmem) (noneUp x hmem) (before x hmem) hstart (by omega)
  · have hnext := after f hf
    have hdown := noneDown f (List.mem_of_mem_head? hf)
    unfold Extent.GrowsDown at hdown
    unfold Extent.Apart
    omega

/-- The list stays as R78 says. -/
theorem Inserted.extents (h : Inserted cap l c p d free r) (hd : d.Sound) (hl : l < 2 ^ 48) : ExtentsSound r.1.extents := by
  have hsound := hd.extents
  cases h with
  | absorbed list =>
    rw [list] at hsound
    obtain ⟨-, -, hfits, -, -⟩ := extentsSound_around.mp hsound
    exact hsound.replace hfits (fun _ _ h => h) fun _ _ h => h
  | joined list outside up takes => exact (list ▸ hsound).joined takes
  | grownUp list outside up apart =>
    rw [list] at hsound outside
    rw [coveredBy_append, coveredBy_cons] at outside
    exact hsound.grownUp hl (fun h => outside (.inr (.inr h))) up apart
  | grownDown list outside noneUp down =>
    rw [list] at hsound outside noneUp
    rw [coveredBy_append] at outside
    exact hsound.grownDown (fun h => outside (.inl h)) (fun e he => noneUp e (List.mem_append_left _ he)) down
  | created list outside noneUp noneDown before after =>
    rw [list] at hsound outside noneUp noneDown
    rw [coveredBy_append] at outside
    exact hsound.created hl (fun h => outside (.inl h)) (fun e he => noneUp e (List.mem_append_left _ he))
      (fun e he => noneDown e (List.mem_append_right _ he)) before after
  | lost => exact hsound

/-- defect_sectors stays the sum of the lengths. -/
theorem Inserted.sectors (h : Inserted cap l c p d free r) (hd : d.Sound) : r.1.sectors = sectorSum r.1.extents := by
  have hsum := hd.sectors
  rw [sectorSum_eq] at *
  cases h with
  | lost => exact hsum
  | absorbed list | joined list | grownUp list | grownDown list | created list =>
    rw [list] at hsum
    simp only [Defects.grown, List.map_append, List.map_cons, List.sum_append, List.sum_cons, Extent.absorb_length,
      Extent.grownUp_length, Extent.grownDown_length, Extent.created_length, Extent.merge_length] at *
    omega

/-- The free records and those of the list stay in number. -/
theorem Inserted.records (h : Inserted cap l c p d free r) : r.2 + r.1.extents.length = free + d.extents.length := by
  cases h with
  | lost => rfl
  | absorbed list | grownUp list | grownDown list => simp only [Defects.grown, list, List.length_append, List.length_cons]
  | joined list | created list =>
    simp only [Defects.grown, list, List.length_append, List.length_cons]
    omega

/-- The list stays within the cap (R79). -/
theorem Inserted.length_le (h : Inserted cap l c p d free r) (hcap : d.extents.length ≤ cap) : r.1.extents.length ≤ cap := by
  cases h with
  | lost => exact hcap
  | absorbed list | joined list | grownUp list | grownDown list | created list =>
    simp only [Defects.grown, list, List.length_append, List.length_cons] at *
    omega

/-- Unless unrecorded the list covers what it covered and the LBA (R80). -/
theorem Inserted.coveredBy (h : Inserted cap l c p d free r)
    (recorded : CoveredBy d.extents l ∨ (∃ e ∈ d.extents, e.GrowsUp l) ∨ (∃ e ∈ d.extents, e.GrowsDown l) ∨
      (d.extents.length < cap ∧ 0 < free)) (x : Nat) : CoveredBy r.1.extents x ↔ CoveredBy d.extents x ∨ x = l := by
  cases h with
  | @absorbed pre e post list covers =>
    have habsorb : (e.absorb c p).Covers x ↔ e.Covers x := Iff.rfl
    have hl : x = l → CoveredBy d.extents x := by
      rintro rfl
      exact ⟨e, by simp [list], covers⟩
    rw [or_iff_left_of_imp hl]
    simp only [list, coveredBy_append, coveredBy_cons, habsorb]
  | @joined pre e f rest list outside up takes =>
    have he : ((e.grownUp c p).merge f).Covers x ↔ e.Covers x ∨ f.Covers x ∨ x = l := by
      unfold Extent.Covers Extent.GrowsUp Extent.Takes at *
      simp only [Extent.merge_start, Extent.merge_length, Extent.grownUp_start, Extent.grownUp_length] at *
      omega
    simp only [Defects.grown, list, coveredBy_append, coveredBy_cons, he, or_left_comm, or_comm]
  | @grownUp pre e post list outside up apart =>
    have he : (e.grownUp c p).Covers x ↔ e.Covers x ∨ x = l := by
      unfold Extent.Covers Extent.GrowsUp at *
      simp only [Extent.grownUp_start, Extent.grownUp_length]
      omega
    simp only [Defects.grown, list, coveredBy_append, coveredBy_cons, he, or_left_comm, or_comm]
  | @grownDown pre f post list outside noneUp down =>
    have hf : (f.grownDown l c p).Covers x ↔ f.Covers x ∨ x = l := by
      unfold Extent.Covers Extent.GrowsDown at *
      simp only [Extent.grownDown_start, Extent.grownDown_length]
      omega
    simp only [Defects.grown, list, coveredBy_append, coveredBy_cons, hf, or_left_comm, or_comm]
  | @created pre post list =>
    have hnew : (Extent.created l c p).Covers x ↔ x = l := by
      unfold Extent.Covers
      simp only [Extent.created_start, Extent.created_length]
      omega
    simp only [Defects.grown, list, coveredBy_append, coveredBy_cons, hnew, or_left_comm, or_comm]
  | lost outside noneUp noneDown full =>
    obtain h | ⟨e, he, h⟩ | ⟨e, he, h⟩ | h := recorded
    · exact absurd h outside
    · exact absurd h (noneUp e he)
    · exact absurd h (noneDown e he)
    · exact absurd h full

/-- TRUNCATED stays set exactly where an insertion was unrecorded (R84). -/
theorem Inserted.truncated (h : Inserted cap l c p d free r) (ht : d.truncated = true ↔ 0 < d.unrecorded) :
    r.1.truncated = true ↔ 0 < r.1.unrecorded := by
  cases h with
  | lost => simp [Defects.lost, inc16, satAdd, max16]
  | absorbed | joined | grownUp | grownDown | created => exact ht

end

/-- Settles O42: the cases by the equation of each, what an insertion keeps by the cases. -/
theorem insertionKeepsTheList : Obligations.InsertionKeepsTheList := by
  intro cap l c p d free hl hok hlength hsum result covers hit growsUp growsDown takes union grown free0 noneUp noneDown
  have hd : d.Sound := ⟨(extentsOk_iff _).mp hok, hlength, hsum⟩
  have hinserted := insertDefect_inserted cap l c p hd free
  refine ⟨fun pre e post list hlow hhigh => insertDefect_covers hd list ⟨hlow, hhigh⟩,
    fun pre e post list outside up => ⟨fun f rest hpost htakes => ?_, fun hapart => ?_⟩,
    fun pre f post list outside hup down => insertDefect_grownDown hd outside hup list down,
    fun outside hup hdown below record => ?_, fun outside hup hdown full => ?_,
    (extentsOk_iff _).mpr (hinserted.extents hd hl), hinserted.sectors hd, hinserted.records, fun recorded x => ?_⟩
  · subst hpost
    exact insertDefect_joined hd outside list up htakes
  · refine insertDefect_grownUp hd outside list up fun f hf => ?_
    obtain ⟨rest, hpost⟩ := List.head?_eq_some_iff.mp hf
    exact hapart f rest hpost
  · obtain ⟨pre, post, list, hplace, -, -⟩ := placeExtent_around (Extent.created l c p) d.extents
    exact ⟨pre, post, list, (insertDefect_created hd outside hup hdown below record).trans
      (congrArg (fun es => (d.grown es, free - 1)) hplace)⟩
  · exact insertDefect_lost hd outside hup hdown (by omega)
  · have hex {P : Extent → Prop} (h : ¬∀ e ∈ d.extents, ¬P e) : ∃ e ∈ d.extents, P e := by simpa using h
    exact hinserted.coveredBy (recorded.imp_right (.imp hex (.imp_left hex))) x

end Sys2Proof.Machine
end

section
/-!
The pool (R76, R79): the defect summaries of the slots, the free records and the cap. Every operation but an insertion, a slot clear, a
START, a reset and a set cap leaves them.
-/
namespace Sys2Proof.Machine

/-! ## The shared operations -/

/-- The defect summaries of the slots, the free records and the cap. -/
def State.pool (s : State) : Vector Defects 8 × Nat × Nat := (s.slots.map (·.defects), s.freeExtents, s.profile.defectCap)

theorem State.pool_eq_iff {s t : State} : t.pool = s.pool ↔ (∀ i, (t.slot i).defects = (s.slot i).defects) ∧
    t.freeExtents = s.freeExtents ∧ t.profile.defectCap = s.profile.defectCap := by
  simp only [State.pool, Prod.mk.injEq, Vector.ext_iff, Vector.getElem_map]
  exact and_congr_left' ⟨fun h i => h i.val i.isLt, fun h i hi => h ⟨i, hi⟩⟩

/-- One slot record replaced by one with its defect summary. -/
theorem State.pool_of_set {s t : State} {i : SlotId} {r : SlotRecord} (slots : t.slots = s.slots.set i r)
    (defects : r.defects = (s.slot i).defects) (free : t.freeExtents = s.freeExtents)
    (cap : t.profile.defectCap = s.profile.defectCap) : t.pool = s.pool := by
  refine State.pool_eq_iff.mpr ⟨fun j => ?_, free, cap⟩
  rw [State.slot_of_set slots]
  split
  · subst_vars; exact defects
  · rfl

@[simp] theorem State.modSlot_pool (s : State) (i : SlotId) (f : SlotRecord → SlotRecord)
    (h : (f (s.slot i)).defects = (s.slot i).defects) : (s.modSlot i f).pool = s.pool := State.pool_of_set rfl h rfl rfl

@[simp] theorem State.setPhase_pool (s : State) (i : SlotId) (p : Phase) : (s.setPhase i p).pool = s.pool := s.modSlot_pool i _ rfl
@[simp] theorem State.modLane_pool (s : State) (i : SlotId) (f : Lane → Lane) : (s.modLane i f).pool = s.pool := rfl
@[simp] theorem State.raise_pool (s : State) (a : AlertFlag) : (s.raise a).pool = s.pool := rfl
@[simp] theorem State.putSort_pool (s : State) (p : SortPort) : (s.putSort p).pool = s.pool := rfl

@[simp] theorem State.putCapture_pool (s : State) (u : CaptureUnit × Option AlertFlag) : (s.putCapture u).pool = s.pool := by
  simp [State.pool]

@[simp] theorem State.report_pool (s : State) (i : SlotId) (f : SlotRecord → SlotRecord)
    (h : (f (s.slot i)).defects = (s.slot i).defects) : (s.report i f).pool = s.pool := by
  obtain ⟨-, hr⟩ | ⟨-, hr⟩ := s.report_cases i f <;> rw [hr]
  exact s.modSlot_pool i f h

@[simp] theorem State.capturing_pool (s : State) (e : CaptureEvent) : (s.capturing e).pool = s.pool := by
  obtain ⟨-, h⟩ | ⟨-, h⟩ := s.capturing_cases e <;> simp [h]

theorem State.forSlots_pool {f : State → SlotId → State} (h : ∀ u i, (f u i).pool = u.pool) (s : State) :
    (s.forSlots f).pool = s.pool :=
  State.forSlots_induct (P := fun u => u.pool = s.pool) (fun u i hu => (h u i).trans hu) s rfl

@[simp] theorem State.orphan_pool (s : State) (i : SlotId) : (s.orphan i).pool = s.pool := by
  rw [s.orphan_eq]
  exact State.pool_of_set rfl rfl rfl rfl

/-! ## Phase commands (R8 to R21) -/

/-- The effects of an answer, where it has any, leave the pool. -/
def Answer.KeepsPool (s : State) : Answer → Prop
  | .ok t _ => t.pool = s.pool
  | .no _ => True

@[simp] theorem Answer.keepsPool_ok (s t : State) (payload : List Byte) : (Answer.ok t payload).KeepsPool s ↔ t.pool = s.pool := Iff.rfl
@[simp] theorem Answer.keepsPool_no (s : State) (st : Status) : (Answer.no st).KeepsPool s := trivial

theorem State.command_pool {s : State} {rule : State → Answer} (h : (rule s).KeepsPool s) : (s.command rule).pool = s.pool := by
  obtain ⟨-, hc⟩ | ⟨-, -, hc⟩ | ⟨-, -, t, p, hr, hc⟩ | ⟨-, -, st, -, hc⟩ := s.command_cases rule <;> rw [hc]
  · rfl
  · rw [hr] at h; exact h
  · rfl

theorem State.slotCommand_pool {s : State} {args : List Byte} {rule : State → SlotId → Answer} (h : ∀ i, (rule s i).KeepsPool s) :
    (s.command fun s => slotCommand args (rule s)).pool = s.pool := by
  refine State.command_pool ?_
  unfold slotCommand
  split
  · split
    · exact h _
    · trivial
  · trivial

theorem State.plainCommand_pool {s : State} {args : List Byte} {answer : State → Answer} (h : (answer s).KeepsPool s) :
    (s.command fun s => plainCommand args (answer s)).pool = s.pool := by
  refine State.command_pool ?_
  unfold plainCommand
  split
  · exact h
  · trivial

theorem State.phaseChange_pool (s : State) (args : List Byte) (f : Phase → Option Phase) :
    (s.command fun s => slotCommand args fun i => s.phaseChange i (f (s.slot i).phase)).pool = s.pool :=
  State.slotCommand_pool fun i => by unfold State.phaseChange; split <;> simp

theorem State.slotQuery_pool (s : State) (args : List Byte) (payload : State → SlotId → List Byte) :
    (s.command fun s => slotCommand args fun i => .ok s (payload s i)).pool = s.pool :=
  State.slotCommand_pool (rule := fun s i => .ok s (payload s i)) fun _ => rfl

theorem execGrade_pool {args : List Byte} {s t : State} (h : execGrade args s = .next t) : t.pool = s.pool := by
  cases h
  refine State.slotCommand_pool fun i => ?_
  split_ifs
  · trivial
  · exact s.setPhase_pool i .gradeWait
  · trivial

theorem execRelease_pool {args : List Byte} {s t : State} (h : execRelease args s = .next t) : t.pool = s.pool := by
  cases h
  refine State.slotCommand_pool fun i => ?_
  split
  · rename_i r hr
    have hdefects : r.defects = (s.slot i).defects := by
      unfold SlotRecord.releasedRun at hr
      dsimp only at hr
      split at hr
      case h_1 => split at hr <;> cases hr; rfl
      case h_2 | h_3 => cases hr; rfl
      all_goals cases hr
    exact s.modSlot_pool i (fun _ => r) hdefects
  · trivial

/-! ## Windows and captures -/

@[simp] theorem SlotRecord.shipRestarted_defects (r : SlotRecord) (fill : Byte) : (r.shipRestarted fill).defects = r.defects := by
  unfold SlotRecord.shipRestarted
  split <;> rfl

theorem execWindowWrite_pool {args : List Byte} {s t : State} (h : execWindowWrite args s = .next t) : t.pool = s.pool := by
  have hreplace (n : Fin 16) (w : Window) : (s.replaceWindow n w).pool = s.pool :=
    State.forSlots_pool (fun u i => by split <;> simp) _
  cases h
  refine State.command_pool ?_
  split
  · split
    · trivial
    · split
      · split
        · exact hreplace _ _
        · trivial
      · trivial
  · trivial

theorem execWindowRead_pool {args : List Byte} {s t : State} (h : execWindowRead args s = .next t) : t.pool = s.pool := by
  cases h
  refine State.command_pool ?_
  split
  · split <;> simp
  · trivial

theorem execTableWrite_pool {args : List Byte} {s t : State} (h : execTableWrite args s = .next t) : t.pool = s.pool := by
  cases h
  refine State.command_pool ?_
  split
  · split_ifs
    · exact rfl
    all_goals trivial
  · trivial

theorem execCaptureSet_pool {args : List Byte} {s t : State} (h : execCaptureSet args s = .next t) : t.pool = s.pool := by
  cases h
  refine State.command_pool ?_
  split
  · split
    · split <;> simp
    · trivial
  · trivial

theorem execCaptureOpen_pool {args : List Byte} {s t : State} (h : execCaptureOpen args s = .next t) : t.pool = s.pool := by
  cases h
  refine State.command_pool ?_
  split
  · split <;> simp
  · trivial

theorem execDefectRead_pool {args : List Byte} {s t : State} (h : execDefectRead args s = .next t) : t.pool = s.pool := by
  cases h
  refine State.command_pool ?_
  split
  · split
    · split <;> simp
    · trivial
  · trivial

/-! ## Chamber line, soak, grading and sort port -/

theorem State.takeError_pool (s : State) : s.takeError.pool = s.pool := by
  unfold State.takeError
  split <;> rfl

theorem State.takeEvent_pool (s : State) (event : LineEvent) : (s.takeEvent event).pool = s.pool := by
  cases event with
  | byte b =>
    show (s.takeByte b).pool = s.pool
    unfold State.takeByte
    split
    · split <;> rfl
    · split
      · rfl
      · exact State.forSlots_pool (fun u i => by unfold State.checkThermal State.applyHold; split <;> simp) _
  | error => exact s.takeError_pool
  | lineBreak => rfl
  | markAfterBreak => rfl

theorem State.soakSlot_pool (s : State) (i : SlotId) : (s.soakSlot i).pool = s.pool := by
  unfold State.soakSlot
  split
  case h_1 => simp
  case h_2 => dsimp only; split <;> simp
  all_goals rfl

theorem execChamberByte_pool {levels : List Bool} {s t : State} (h : execChamberByte levels s = .next t) : t.pool = s.pool := by
  cases h
  exact State.hearLine_induct (P := fun u => u.pool = s.pool) (fun _ _ hu => hu) (fun u e hu => (u.takeEvent_pool e).trans hu) s levels rfl

theorem execChamberCharacterError_pool {s t : State} (h : execChamberCharacterError s = .next t) : t.pool = s.pool := by
  cases h
  split
  · split
    · rfl
    · exact State.takeError_pool _
  · rfl

theorem execSoakTick_pool {s t : State} (h : execSoakTick s = .next t) : t.pool = s.pool := by
  cases h
  split
  · have hslots := State.forSlots_pool State.soakSlot_pool s
    unfold State.soakAll
    generalize s.forSlots State.soakSlot = u at hslots
    exact hslots
  · rfl

theorem execGradeCompletion_pool {s t : State} (h : execGradeCompletion s = .next t) : t.pool = s.pool := by
  unfold execGradeCompletion at h
  split at h <;> cases h
  · rfl
  · unfold State.completeGrade State.storeGrade
    dsimp only
    split
    · simp only [State.raise_pool]
      exact State.modSlot_pool _ _ _ rfl
    · rfl

theorem execTakeAsserted_pool {s t : State} (h : execTakeAsserted s = .next t) : t.pool = s.pool := by
  unfold execTakeAsserted at h
  split at h <;> cases h
  case h_1 => exact State.modSlot_pool _ _ _ rfl
  all_goals rfl

/-! ## Every command -/

/-- The events of a drive link, and the commands that change the pool or the cap. -/
def movesRecords : Instr → Prop
  | .commandFrame _ _ => True
  | .pendingStatusSend _ => True
  | .dataSetupNotice _ _ => True
  | .dataFrame _ _ => True
  | .successStatus _ _ => True
  | .errorStatus _ _ => True
  | .commandTimeout _ _ => True
  | .driveLinkReset _ => True
  | .chipReset => True
  | .chipResetRelease _ => True
  | .softReset _ => True
  | .profileReady _ => True
  | .profileSet _ => True
  | .start _ => True
  | .clearSlot _ => True
  | .debounceEnd _ => True
  | _ => False

/-- Every other command or event leaves the pool. -/
theorem exec_pool {c : Instr} {s t : State} (h : exec c s = .next t) (hc : ¬movesRecords c) : t.pool = s.pool := by
  cases c with
  | commandFrame | pendingStatusSend | dataSetupNotice | dataFrame | successStatus | errorStatus | commandTimeout | driveLinkReset
  | chipReset | chipResetRelease | softReset | profileReady | profileSet | start | clearSlot | debounceEnd => exact absurd trivial hc
  | unknownCommand code args => cases h; exact State.command_pool trivial
  | status args => cases h; split; rfl; unfold plainCommand; split <;> rfl
  | slotStatus args => cases h; exact s.slotQuery_pool args State.slotStatusPayload
  | slotCounters args => cases h; exact s.slotQuery_pool args (fun s i => (s.slot i).countersPayload)
  | histogram args => cases h; exact s.slotQuery_pool args State.histogramPayload
  | defectRead args => exact execDefectRead_pool h
  | advancePass args => cases h; exact State.slotCommand_pool fun i => by split_ifs <;> simp
  | endBurn args => cases h; exact s.phaseChange_pool args Phase.endBurn
  | pause args => cases h; exact s.phaseChange_pool args Phase.pause
  | resume args => cases h; exact s.phaseChange_pool args Phase.resume
  | grade args => exact execGrade_pool h
  | ship args => cases h; exact State.slotCommand_pool fun i => by split_ifs <;> simp
  | sealSlot args => cases h; exact State.slotCommand_pool fun i => by unfold State.postNotice; split_ifs <;> simp
  | release args => exact execRelease_pool h
  | windowWrite args => exact execWindowWrite_pool h
  | windowRead args => exact execWindowRead_pool h
  | tableWrite args => exact execTableWrite_pool h
  | captureSet args => exact execCaptureSet_pool h
  | captureOpen args => exact execCaptureOpen_pool h
  | captureRead args => cases h; exact State.plainCommand_pool (by split <;> simp)
  | captureClose args => cases h; exact State.plainCommand_pool (s.putCapture_pool _)
  | alertRead args => cases h; exact State.plainCommand_pool rfl
  | alertAck args => cases h; exact State.command_pool (by split; exact rfl; trivial)
  | alertMask args => cases h; exact State.command_pool (by split; exact rfl; trivial)
  | sortResume args => cases h; exact State.plainCommand_pool (by split <;> simp)
  | profileReload args => cases h; exact State.plainCommand_pool (by split; exact rfl; trivial)
  | rawPresenceChange i level => cases h; split; rfl; split <;> rfl
  | soakTick => exact execSoakTick_pool h
  | chamberByte levels => exact execChamberByte_pool h
  | chamberCharacterError => exact execChamberCharacterError_pool h
  | chamberBreak => cases h; split <;> rfl
  | lineBreakClear => cases h; split <;> rfl
  | staleTimerExpiry => cases h; split <;> rfl
  | gradeTake => change execGradeTake s = _ at h; unfold execGradeTake at h; split at h <;> cases h <;> rfl
  | gradeCompletion => exact execGradeCompletion_pool h
  | takeAsserted => exact execTakeAsserted_pool h
  | takeDeasserted => cases h; rfl
  | faultAsserted => cases h; split <;> rfl
  | faultDeasserted => cases h; rfl
  | busyAsserted => cases h; rfl
  | busyDeasserted => cases h; rfl
  | offerTimerExpiry => cases h; split <;> rfl

end Sys2Proof.Machine
end

section
/-!
The pool invariant on the drive links (R76 to R84): each slot's list as an insertion keeps it, and the LBA of a sector in progress, at
which a mismatch inserts.
-/
namespace Sys2Proof.Machine

/-! ## A sector in progress (R60) -/

/-- The sector in progress, where there is one, has an LBA of 48 bits. -/
def Lane.LbaSound (l : Lane) : Prop := ∀ x, l.sector = some x → x.lba < Config.lbaEnd

namespace Lane.LbaSound

variable {l m : Lane}

theorem of_sector (h : l.LbaSound) (hm : m.sector = l.sector) : m.LbaSound := fun x hx => h x (hm ▸ hx)

theorem of_none (h : m.sector = none) : m.LbaSound := fun x hx => by rw [h] at hx; cases hx

/-- A sector in progress that stays or is dropped. -/
theorem filter (h : l.LbaSound) {p : SectorInProgress → Bool} (hm : m.sector = l.sector.filter p) : m.LbaSound := by
  intro x hx
  rw [hm] at hx
  exact h x (Option.filter_eq_some_iff.mp hx).1

theorem free (h : l.LbaSound) (e : EntryId) : (l.free e).LbaSound := h.filter (l.free_sector e)

theorem sendsDown (h : l.LbaSound) (fs : List SentFrame) : (l.sendsDown fs).LbaSound := h.of_sector rfl

theorem sendsUp (h : l.LbaSound) (fs : List SentFrame) : (l.sendsUp fs).LbaSound := h.of_sector rfl

theorem sendsData (h : l.LbaSound) (d : Direction) (bs : List Byte) (c : OutgoingCheck) : (l.sendsData d bs c).LbaSound := by
  cases d
  · exact h.sendsDown _
  · exact h.sendsUp _

theorem relayStatus (h : l.LbaSound) (st : DriveStatus) : (l.relayStatus st).LbaSound := by
  unfold Lane.relayStatus
  split
  · exact h.sendsUp _
  · exact h.of_sector rfl

theorem sendNext (h : l.LbaSound) : l.sendNext.LbaSound := by
  unfold Lane.sendNext
  split
  · exact h
  · exact h.of_sector rfl

theorem joinPending (h : l.LbaSound) (e : EntryId) : (l.joinPending e).LbaSound := by
  rw [Lane.joinPending_eq]; exact h.of_sector rfl

theorem opening (h : l.LbaSound) (f : CommandFrame) (t : TagEntry) : (l.opening f t).LbaSound := by
  unfold Lane.opening
  dsimp only
  split
  · exact h.of_sector rfl
  · exact .of_none rfl

end Lane.LbaSound

/-- A sector of a command has an LBA of 48 bits (R29). -/
theorem sectorLba_lt (lba i : Nat) : sectorLba lba i < Config.lbaEnd := by
  unfold sectorLba
  split
  · assumption
  · exact (Config.lbaPastEnd lba i).isLt

/-- The sector that a sector action begins is at the LBA it is given (R60). -/
theorem beginSector_lba {a : SectorAction} {e : EntryId} {index lba : Nat} {x : SectorInProgress}
    (h : beginSector a e index lba = some x) : x.lba = lba := by
  cases a <;> cases h <;> rfl

/-! ## The pool of a state -/

/-- What `State.poolSafe` says, part by part. -/
structure State.PoolSound (s : State) : Prop where
  records : s.freeExtents + s.extentTotal = 512
  cap_pos : 1 ≤ s.profile.defectCap
  cap_le : s.profile.defectCap ≤ 512
  length : ∀ i, (s.slot i).defects.extents.length ≤ s.profile.defectCap
  whole : ∀ i, (s.slot i).defects.whole
  sectors : ∀ i, (s.lane i).LbaSound

theorem State.poolSafe_iff (s : State) : s.poolSafe ↔ s.PoolSound := by
  constructor
  · rintro ⟨hrecords, hpos, hle, hslots⟩
    exact ⟨hrecords, hpos, hle, fun i => (hslots i).1, fun i => (hslots i).2.1, fun i => (hslots i).2.2⟩
  · rintro ⟨hrecords, hpos, hle, hlength, hwhole, hsectors⟩
    exact ⟨hrecords, hpos, hle, fun i => ⟨hlength i, hwhole i, hsectors i⟩⟩

theorem State.extentTotal_congr {s t : State} (h : ∀ i, (t.slot i).defects = (s.slot i).defects) : t.extentTotal = s.extentTotal := by
  simp only [State.extentTotal, h]

/-- One list replaced: the total moves by the difference. -/
theorem State.extentTotal_of_set {s t : State} {i : SlotId} {r : SlotRecord} (h : t.slots = s.slots.set i r) :
    t.extentTotal + (s.slot i).defects.extents.length = s.extentTotal + r.defects.extents.length := by
  simp only [State.extentTotal, allSlots, List.map_cons, List.map_nil, List.sum_cons, List.sum_nil, State.slot_of_set h]
  fin_cases i <;> simp <;> omega

/-- A list as R78 keeps it, within the pool of 512 records. -/
theorem Defects.whole.sound {d : Defects} (h : d.whole) (hlength : d.extents.length ≤ 512) : d.Sound := by
  obtain ⟨hextents, hsectors, -⟩ := h
  exact ⟨(extentsOk_iff _).mp hextents, hlength, hsectors⟩

namespace State.PoolSound

variable {s t : State}

/-- Slot lists and free records stay, under a cap that no list exceeds (R79). -/
theorem withCap (hs : s.PoolSound) (defects : ∀ i, (t.slot i).defects = (s.slot i).defects) (free : t.freeExtents = s.freeExtents)
    (cap : 1 ≤ t.profile.defectCap ∧ t.profile.defectCap ≤ 512)
    (length : ∀ i, (s.slot i).defects.extents.length ≤ t.profile.defectCap) (sectors : ∀ i, (t.lane i).LbaSound) : t.PoolSound where
  records := by rw [free, State.extentTotal_congr defects]; exact hs.records
  cap_pos := cap.1
  cap_le := cap.2
  length i := by rw [defects]; exact length i
  whole i := by rw [defects]; exact hs.whole i
  sectors := sectors

/-- Slot lists, free records and cap stay. -/
theorem of_pool (hs : s.PoolSound) (hp : t.pool = s.pool) (sectors : ∀ i, (t.lane i).LbaSound) : t.PoolSound := by
  obtain ⟨hdefects, hfree, hcap⟩ := State.pool_eq_iff.mp hp
  exact hs.withCap hdefects hfree (hcap ▸ ⟨hs.cap_pos, hs.cap_le⟩) (fun i => hcap ▸ hs.length i) sectors

theorem beside (hs : s.PoolSound) (hp : t.pool = s.pool) (lanes : t.lanes = s.lanes) : t.PoolSound :=
  hs.of_pool hp fun i => by rw [State.lane, lanes]; exact hs.sectors i

/-- The sectors in progress after what leaves the lanes or forgets them. -/
theorem keptSectors (hs : s.PoolSound) (h : s.KeepsLanes t) (i : SlotId) : (t.lane i).LbaSound := by
  obtain hi | ⟨-, hx⟩ := h i
  · exact hi ▸ hs.sectors i
  · exact .of_none hx

theorem modLane (hs : s.PoolSound) (i : SlotId) {f : Lane → Lane} (hf : (s.lane i).LbaSound → (f (s.lane i)).LbaSound) :
    (s.modLane i f).PoolSound := by
  refine hs.of_pool (s.modLane_pool i f) fun j => ?_
  rw [State.lane_modLane]
  split
  · exact hf (hs.sectors i)
  · exact hs.sectors j

/-- A lane changed outside its sector in progress. -/
theorem modLane_sector (hs : s.PoolSound) (i : SlotId) {f : Lane → Lane} (hf : ∀ l, (f l).sector = l.sector) :
    (s.modLane i f).PoolSound := hs.modLane i (·.of_sector (hf _))

theorem setEntry (hs : s.PoolSound) (i : SlotId) (e : EntryId) (t : TagEntry) : (s.modLane i (·.setEntry e (some t))).PoolSound :=
  hs.modLane_sector i fun _ => rfl

theorem free (hs : s.PoolSound) (i : SlotId) (e : EntryId) : (s.modLane i (·.free e)).PoolSound := hs.modLane i (·.free e)

theorem report (hs : s.PoolSound) (i : SlotId) {f : SlotRecord → SlotRecord} (h : (f (s.slot i)).defects = (s.slot i).defects) :
    (s.report i f).PoolSound := hs.beside (s.report_pool i f h) (s.report_lanes i f)

theorem count (hs : s.PoolSound) (i : SlotId) (f : TestCounters → TestCounters) : (s.report i (SlotRecord.count f)).PoolSound :=
  hs.report i rfl

theorem capturing (hs : s.PoolSound) (e : CaptureEvent) : (s.capturing e).PoolSound :=
  hs.beside (s.capturing_pool e) (s.capturing_lanes e)

/-- One slot's list replaced, its records taken from the free ones or returned to them. -/
theorem setDefects (hs : s.PoolSound) {i : SlotId} {r : SlotRecord} (slots : t.slots = s.slots.set i r)
    (records : t.freeExtents + r.defects.extents.length = s.freeExtents + (s.slot i).defects.extents.length)
    (cap : t.profile.defectCap = s.profile.defectCap) (length : r.defects.extents.length ≤ s.profile.defectCap)
    (whole : r.defects.whole) (sectors : ∀ i, (t.lane i).LbaSound) : t.PoolSound where
  records := by
    have htotal := State.extentTotal_of_set slots
    have hrecords := hs.records
    omega
  cap_pos := cap ▸ hs.cap_pos
  cap_le := cap ▸ hs.cap_le
  length j := by
    rw [State.slot_of_set slots, cap]
    split
    · exact length
    · exact hs.length j
  whole j := by
    rw [State.slot_of_set slots]
    split
    · exact whole
    · exact hs.whole j
  sectors := sectors

/-- An insertion at an LBA of 48 bits (R80 to R84). -/
theorem insertDefect (hs : s.PoolSound) (i : SlotId) {lba : Nat} (hl : lba < Config.lbaEnd) (c : Cause) (pass : Nat) :
    (s.insertDefect i lba c pass).PoolSound := by
  obtain ⟨-, d, free, hd, h⟩ | ⟨-, h⟩ := s.insertDefect_cases i lba c pass
  · have hsound := (hs.whole i).sound ((hs.length i).trans hs.cap_le)
    have hinserted := insertDefect_inserted s.profile.defectCap lba c pass hsound s.freeExtents
    rw [hd] at hinserted
    rw [h]
    obtain ⟨-, -, htruncated⟩ := hs.whole i
    exact hs.setDefects (i := i) (r := { s.slot i with defects := d }) rfl hinserted.records rfl (hinserted.length_le (hs.length i))
      ⟨(extentsOk_iff _).mpr (hinserted.extents hsound hl), hinserted.sectors hsound, hinserted.truncated htruncated⟩ hs.sectors
  · rw [h]; exact hs

/-! ## Tag entries and command frames (R27 to R31, R40) -/

theorem modEntry (hs : s.PoolSound) (i : SlotId) (e : EntryId) (f : TagEntry → TagEntry) : (s.modEntry i e f).PoolSound := by
  obtain ⟨-, h⟩ | ⟨t, -, h⟩ := s.modEntry_cases i e f <;> rw [h]
  · exact hs
  · exact hs.setEntry i e _

theorem markUntracked (hs : s.PoolSound) (i : SlotId) (e : EntryId) : (s.markUntracked i e).PoolSound := by
  obtain h | ⟨t, -, -, h⟩ := s.markUntracked_cases i e <;> rw [h]
  · exact hs
  · exact (hs.count i _).setEntry i e _

theorem noteOverrun (hs : s.PoolSound) (i : SlotId) (e : EntryId) (t : TagEntry) : (s.noteOverrun i e t).PoolSound := by
  obtain ⟨-, h⟩ | ⟨-, h⟩ := s.noteOverrun_cases i e t <;> rw [h]
  · exact hs
  · exact (hs.count i _).setEntry i e _

theorem collide (hs : s.PoolSound) (i : SlotId) (e : EntryId) : (s.collide i e).PoolSound := by
  unfold State.collide
  split
  · exact (hs.count i _).free i e
  · exact hs

theorem withhold (hs : s.PoolSound) (i : SlotId) (e : EntryId) : (s.withhold i e).PoolSound :=
  (hs.count i _).modLane i fun hl => ((hl.free e).joinPending e).sendsDown []

theorem openEntry (hs : s.PoolSound) (i : SlotId) (f : CommandFrame) : (s.openEntry i f).PoolSound := by
  change (s.modLane i (·.opening f (TagEntry.opened f (s.slot i) s.timebase))).PoolSound
  exact hs.modLane i (·.opening f _)

/-! ## Sectors (R65, R66, R70 to R74) -/

theorem countSubstituted (hs : s.PoolSound) (i : SlotId) (issue : PhaseName) (img : Image) :
    (s.countSubstituted i issue img).PoolSound := by
  unfold State.countSubstituted
  split
  case h_1 | h_2 => exact hs.count i _
  case h_3 => exact hs.report i rfl
  all_goals exact hs

theorem testResult (hs : s.PoolSound) (i : SlotId) (e : EntryId) {lba : Nat} (hl : lba < Config.lbaEnd) (pass : Nat)
    (res : CheckResult) : (s.testResult i e lba pass res).PoolSound := by
  have hcount := hs.count i (·.checkedWith res)
  cases res with
  | isMatch => exact hcount
  | stale p => exact hcount.capturing _
  | slip offset => exact hcount.capturing _
  | corrupt first expected actual n => exact (hcount.insertDefect i hl .corrupt pass).capturing _

theorem applyResult (hs : s.PoolSound) (i : SlotId) (e : EntryId) (t : TagEntry) {x : SectorInProgress} (hx : x.lba < Config.lbaEnd)
    (res : CheckResult) : (s.applyResult i e t x res).PoolSound := by
  have herror : (if res = .isMatch then s
      else s.modEntry i e (fun u => { u with errorSectors := inc16 u.errorSectors })).PoolSound := by
    split
    · exact hs
    · exact hs.modEntry i e _
  unfold State.applyResult
  dsimp only
  split
  case h_1 | h_2 => exact herror.testResult i e hx _ res
  case h_3 => exact herror.report i rfl
  all_goals exact herror

theorem finishSector (hs : s.PoolSound) (i : SlotId) (e : EntryId) (t : TagEntry) {x : SectorInProgress}
    (hx : x.lba < Config.lbaEnd) : (s.finishSector i e t x).PoolSound := by
  unfold State.finishSector
  split
  · exact hs
  · split
    · exact hs.countSubstituted i _ _
    · exact hs.applyResult i e t hx _

/-! ## Data frames (R30, R31) -/

theorem advance (hs : s.PoolSound) (i : SlotId) : (s.modLane i Lane.advance).PoolSound := hs.modLane_sector i fun _ => rfl

/-- The sector that a byte of a data command belongs to has an LBA of 48 bits. -/
theorem passByte (hs : s.PoolSound) (i : SlotId) (e : EntryId) (t : TagEntry) (offset : Nat) (good : Bool) (b : Byte) :
    (s.passByte i e t offset good b).1.PoolSound := by
  unfold State.passByte
  dsimp only
  generalize hbegun : ite (offset % s.sectorSize.bytes = 0) (beginSector _ e _ _) (s.lane i).sector = begun
  have hlba : ∀ y, begun.map (·.take good b) = some y → y.lba < Config.lbaEnd := by
    intro y hy
    obtain ⟨x, rfl, rfl⟩ := Option.map_eq_some_iff.mp hy
    split at hbegun
    · exact (beginSector_lba hbegun).trans_lt (sectorLba_lt _ _)
    · exact hs.sectors i x hbegun
  split
  · have hdone : (s.modLane i (fun l =>
        { (l.setEntry e (some { t with done := t.done + 1 })).advance with sector := none })).PoolSound :=
      hs.modLane i fun _ => .of_none rfl
    dsimp only
    split
    · exact hdone
    · rename_i y hy
      exact hdone.finishSector i e _ (hlba y hy)
  · exact hs.modLane i (f := fun l => { l.advance with sector := begun.map (·.take good b) }) fun _ => hlba

theorem passUntracked (hs : s.PoolSound) (i : SlotId) (good : Bool) (b : Byte) : (s.passUntracked i good b).1.PoolSound := by
  unfold State.passUntracked
  dsimp only
  refine hs.modLane i fun hl y hy => ?_
  obtain ⟨x, hx, rfl⟩ := Option.map_eq_some_iff.mp (Option.filter_eq_some_iff.mp hy).1
  exact hl x hx

theorem passIdent (hs : s.PoolSound) (i : SlotId) (e : EntryId) (t : TagEntry) (offset : Nat) (good : Bool) (b : Byte) :
    (s.passIdent i e t offset good b).PoolSound := hs.modLane_sector i fun _ => rfl

theorem passOne (hs : s.PoolSound) (i : SlotId) (good : Bool) (b : Byte) : (s.passOne i good b).1.PoolSound := by
  obtain h | ⟨p, t, -, -, h⟩ := s.passOne_cases i good b
  · rw [h]; exact hs
  · obtain ⟨-, h⟩ | ⟨-, -, h⟩ | ⟨-, -, -, h⟩ | ⟨-, -, -, h⟩ | ⟨-, -, -, -, h⟩ := h <;> rw [h]
    · exact (hs.noteOverrun i _ t).advance i
    · exact hs.passUntracked i good b
    · exact hs.passByte i _ t _ good b
    · exact hs.passIdent i _ t _ good b
    · exact hs.advance i

theorem passBytes (hs : s.PoolSound) (i : SlotId) (good : Bool) (bs : List Byte) : (s.passBytes i good bs).1.PoolSound :=
  State.passBytes_induct (P := State.PoolSound) i good (fun _ b hu => hu.passOne i good b) bs s hs

theorem relaysData (hs : s.PoolSound) (i : SlotId) (f : DataFrame) : (s.modLane i (·.relaysData f)).PoolSound :=
  hs.modLane i (·.sendsData _ _ _)

theorem wrongData (hs : s.PoolSound) (i : SlotId) (e : EntryId) : (s.wrongData i e).PoolSound :=
  (hs.markUntracked i e).modLane i (·.filter rfl)

/-! ## Statuses (R33 to R36, R43, R44) -/

theorem sampleEntry (hs : s.PoolSound) (i : SlotId) (t : TagEntry) : (s.sampleEntry i t).PoolSound := by
  unfold State.sampleEntry
  split
  · exact hs.report i (by split <;> rfl)
  · exact hs

theorem compareIdentity (hs : s.PoolSound) (i : SlotId) (sn : Snoop) : (s.compareIdentity i sn).PoolSound := by
  unfold State.compareIdentity
  dsimp only
  split
  · exact (hs.count i _).capturing _
  · exact hs

theorem offerSnoop (hs : s.PoolSound) (i : SlotId) (t : TagEntry) : (s.offerSnoop i t).PoolSound := by
  unfold State.offerSnoop
  split
  · split
    case h_1 => exact hs
    case h_2 =>
      split
      · exact hs
      · exact hs.beside (s.modSlot_pool i _ rfl) rfl
    all_goals exact hs.compareIdentity i _
  · exact hs

theorem closeSuccess (hs : s.PoolSound) (i : SlotId) (e : EntryId) : (s.closeSuccess i e).PoolSound := by
  unfold State.closeSuccess
  split
  · exact hs
  · rename_i t _
    refine free ?_ i e
    split
    · exact (hs.sampleEntry i t).offerSnoop i t
    · exact hs.sampleEntry i t

theorem mediaError (hs : s.PoolSound) (i : SlotId) (e : EntryId) (t : TagEntry) (lba : Option (BitVec 48)) :
    (s.mediaError i e t lba).PoolSound := by
  have hcount := hs.count i fun c => { c with media := inc16 c.media }
  unfold State.mediaError
  split
  case h_1 | h_2 =>
    cases lba with
    | none => exact hcount.capturing _
    | some l => exact (hcount.insertDefect i l.isLt .media t.pass).capturing _
  case h_3 => exact hs.report i rfl
  all_goals exact hs

theorem closeError (hs : s.PoolSound) (i : SlotId) (r : ErrorReport) : (s.closeError i r).PoolSound := by
  unfold State.closeError
  dsimp only
  split
  · exact hs
  · refine free ?_ i _
    split
    · exact hs.mediaError i _ _ _
    all_goals exact hs

theorem abortSibling (hs : s.PoolSound) (i : SlotId) (tag : Fin 32) : (State.abortSibling i s tag).PoolSound := by
  unfold State.abortSibling
  split
  · exact (hs.count i _).free i _
  · exact hs

/-! ## Timeouts (R37) -/

theorem expireEntry (hs : s.PoolSound) (i : SlotId) (e : EntryId) : (s.expireEntry i e).PoolSound := by
  unfold State.expireEntry
  split
  · exact hs
  · refine capturing ?_ _
    split
    · exact (hs.setEntry i e _).report i rfl
    · exact (hs.setEntry i e _).count i _

theorem expireSlot (hs : s.PoolSound) (i : SlotId) : (s.expireSlot i).PoolSound := by
  refine List.foldlRecOn allEntries _ hs fun u hu e _ => ?_
  split
  · exact hu.expireEntry i e
  · exact hu

end State.PoolSound

/-! ## The events of a drive link -/

theorem execCommandFrame_poolSound {i : SlotId} {f : CommandFrame} {s t : State} (hs : s.PoolSound)
    (h : execCommandFrame i f s = .next t) : t.PoolSound := by
  have hcollide := hs.collide i (commandEntry f.kind)
  unfold execCommandFrame at h
  split at h <;> cases h
  · exact hs.modLane i (·.sendsDown _)
  · split
    · exact hcollide.withhold i _
    · exact hcollide.openEntry i f

theorem execDataSetupNotice_poolSound {i : SlotId} {n : SetupNotice} {s t : State} (hs : s.PoolSound)
    (h : execDataSetupNotice i n s = .next t) : t.PoolSound := by
  have hup : (s.modLane i (·.sendsUp [.setup n])).PoolSound := hs.modLane i (·.sendsUp _)
  have hmove {u : State} (hu : u.PoolSound) (p : Option Position) : (u.modLane i (·.moveTo p)).PoolSound :=
    hu.modLane i fun _ => .of_none rfl
  unfold execDataSetupNotice at h
  dsimp only at h
  split at h
  · cases h; exact hup
  · split at h
    · cases h; exact hmove hup _
    · split at h <;> cases h
      · exact hmove hup _
      · exact hmove (hup.markUntracked i _) _

theorem execDataFrame_poolSound {i : SlotId} {f : DataFrame} {s t : State} (hs : s.PoolSound)
    (h : execDataFrame i f s = .next t) : t.PoolSound := by
  unfold execDataFrame at h
  split at h
  · cases h; exact hs.relaysData i f
  · split at h
    · cases h; exact hs.relaysData i f
    · split at h
      · cases h; exact hs.relaysData i f
      · split at h <;> cases h
        · exact (hs.passBytes i _ _).modLane i (·.sendsData _ _ _)
        · exact (hs.wrongData i _).relaysData i f

theorem execSuccessStatus_poolSound {i : SlotId} {st : Success} {s t : State} (hs : s.PoolSound)
    (h : execSuccessStatus i st s = .next t) : t.PoolSound := by
  have hrelay : (s.modLane i (·.relayStatus (.success st))).PoolSound := hs.modLane i (·.relayStatus _)
  unfold execSuccessStatus at h
  dsimp only at h
  split at h
  · cases h; exact hrelay
  · cases st with
    | nonQueued => cases h; exact hrelay.closeSuccess i _
    | queued tags =>
      cases h
      refine List.foldlRecOn allTags _ hrelay fun u hu tag _ => ?_
      split
      · exact hu.closeSuccess i _
      · exact hu

theorem execErrorStatus_poolSound {i : SlotId} {r : ErrorReport} {s t : State} (hs : s.PoolSound)
    (h : execErrorStatus i r s = .next t) : t.PoolSound := by
  have hrelay : (s.modLane i (·.relayStatus (.error r))).PoolSound := hs.modLane i (·.relayStatus _)
  have hclose := hrelay.closeError i r
  unfold execErrorStatus at h
  dsimp only at h
  split at h
  · cases h; exact hrelay
  · split at h <;> rw [← Host.Outcome.next.inj h]
    · exact hclose
    · exact List.foldlRecOn allTags _ hclose fun u hu tag _ => hu.abortSibling i tag

theorem execCommandTimeout_poolSound {i : SlotId} {e : EntryId} {s t : State} (hs : s.PoolSound)
    (h : execCommandTimeout i e s = .next t) : t.PoolSound := by
  cases h
  split
  · exact hs.expireEntry i e
  · exact hs

theorem execDriveLinkReset_poolSound {i : SlotId} {s t : State} (hs : s.PoolSound) (h : execDriveLinkReset i s = .next t) :
    t.PoolSound := by
  unfold execDriveLinkReset at h
  split at h <;> cases h
  · exact hs
  · exact (hs.count i _).modLane i fun _ => .of_none rfl

end Sys2Proof.Machine
end

section
/-!
The pool invariant over the commands that return a slot's records, set the cap or restart the part (R79, R85, R167 to R170), and then
over a whole step.
-/
namespace Sys2Proof.Machine

/-- A running maximum is at least its start and every value it has passed. -/
theorem le_foldl_max {α : Type} (f : α → Nat) {a : α} (l : List α) : ∀ n, f a ≤ n ∨ a ∈ l → f a ≤ l.foldl (fun m b => max m (f b)) n := by
  induction l with
  | nil => rintro n (h | h); exacts [h, absurd h List.not_mem_nil]
  | cons b l ih =>
    rintro n (h | h)
    · exact ih _ (.inl (h.trans (le_max_left _ _)))
    · obtain rfl | h := List.mem_cons.mp h
      · exact ih _ (.inl (le_max_right _ _))
      · exact ih _ (.inr h)

/-- No list is longer than the largest extent count (R79). -/
theorem State.length_le_largestCount (s : State) (i : SlotId) : (s.slot i).defects.extents.length ≤ s.largestCount :=
  le_foldl_max (fun i => (s.slot i).defects.extents.length) allSlots 0 (.inr (mem_allSlots i))

namespace State.PoolSound

variable {s t : State}

theorem command (hs : s.PoolSound) {rule : State → Answer} (h : ∀ t p, rule s = .ok t p → t.PoolSound) :
    (s.command rule).PoolSound := by
  obtain ⟨-, hc⟩ | ⟨-, -, hc⟩ | ⟨-, -, t, p, hr, hc⟩ | ⟨-, -, st, -, hc⟩ := s.command_cases rule <;> rw [hc]
  · exact hs
  · exact hs.beside rfl rfl
  · exact (h t p hr).beside rfl rfl
  · exact hs.beside rfl rfl

/-! ## Slots emptied (R5 to R10, R85) -/

/-- A slot whose extents return to the free list. -/
theorem emptied (hs : s.PoolSound) {i : SlotId} {r : SlotRecord} (slots : t.slots = s.slots.set i r) (none : r.defects = Defects.none)
    (free : t.freeExtents = s.freeExtents + (s.slot i).defects.extents.length) (cap : t.profile = s.profile)
    (lanes : s.KeepsLanes t) : t.PoolSound := by
  refine hs.setDefects slots (by rw [none, free]; rfl) (by rw [cap]) ?_ ?_ (hs.keptSectors lanes) <;> rw [none]
  · exact Nat.zero_le _
  · exact ⟨rfl, rfl, by decide⟩

theorem startRun (hs : s.PoolSound) {i : SlotId} {seed : Word32} {g : Nat} {p : List Byte} (h : s.startRun i seed g = .ok t p) :
    t.PoolSound := by
  unfold State.startRun at h
  dsimp only at h
  split at h
  · split at h <;> cases h
    exact hs.emptied (i := i) (r := (s.slot i).started seed g) rfl rfl rfl rfl (.of_lanes rfl)
  · cases h

theorem slotClear (hs : s.PoolSound) (i : SlotId) : (s.slotClear i).PoolSound := by
  rw [State.slotClear_eq]
  exact hs.emptied rfl rfl rfl rfl (.of_forgotten rfl)

theorem removed (hs : s.PoolSound) (i : SlotId) : (s.removed i).PoolSound := by
  have horphan : (s.orphan i).PoolSound := by
    refine hs.of_pool (s.orphan_pool i) (hs.keptSectors ?_)
    rw [s.orphan_eq]
    exact .of_forgotten rfl
  unfold State.removed
  split
  case h_1 => exact hs
  case h_2 => exact hs.of_pool ((State.modSlot_pool _ i _ rfl).trans (s.modLane_pool i _)) (hs.keptSectors (.of_forgotten rfl))
  case h_3 =>
    split
    · rw [s.depart_eq]
      exact hs.emptied rfl rfl rfl rfl (.of_forgotten rfl)
    · exact horphan
  all_goals exact horphan

theorem debounced (hs : s.PoolSound) (i : SlotId) : (s.debounced i).PoolSound := by
  unfold State.debounced
  dsimp only
  generalize hu : s.setPresence i { s.presenceOf i with debounced := (s.presenceOf i).raw, interval := none } = u
  have hpresence : u.PoolSound := hu ▸ hs.beside rfl rfl
  refine beside (s := ite _ _ _) ?_ (State.raise_pool _ _) rfl
  split
  · exact hpresence.beside (u.setPhase_pool i _) rfl
  · exact hpresence.removed i

/-! ## Resets (R85, R170) -/

/-- A restart brings every record onto the free list. -/
theorem restarted {records : Vector SlotRecord 8} (h : ∀ i : SlotId, records[i].defects = Defects.none) :
    (s.restarted records).PoolSound := by
  have hreset := (State.poolSafe_iff _).mp State.reset_poolSafe
  refine hreset.of_pool (State.pool_eq_iff.mpr ⟨fun i => ?_, rfl, rfl⟩) fun i => .of_none ?_
  · rw [State.slot_reset]; exact h i
  · rw [s.lane_of_bypassed (t := s.restarted records) rfl]; rfl

/-! ## The profile (R79, R167, R168) -/

theorem profileLoaded (hs : s.PoolSound) (kind : LoadKind) (eeprom : Option (List Byte)) : (s.profileLoaded kind eeprom).PoolSound := by
  rw [State.profileLoaded_eq (Prod.mk.eta (p := loadImage s.straps.noload eeprom)).symm]
  have hcap := (Load.Sound.foldl (loadImage s.straps.noload eeprom).2).items.defectCap
  have hlargest := State.poolSafe.largestCount ((State.poolSafe_iff s).mpr hs)
  exact hs.withCap (fun _ => rfl) rfl ⟨hcap.1.trans (le_max_left _ _), max_le hcap.2 hlargest⟩
    (fun i => (s.length_le_largestCount i).trans (le_max_right _ _)) hs.sectors

/-- What the change of an item causes at once (R37, R110, R119, R140). -/
theorem itemTakesEffect (hs : s.PoolSound) (code old : Nat) : (s.itemTakesEffect code old).PoolSound := by
  unfold State.itemTakesEffect
  split
  · unfold State.timeoutsLowered
    split
    · exact State.forSlots_induct (P := State.PoolSound) (fun u i hu => hu.expireSlot i) s hs
    · exact hs
  · split_ifs
    · exact hs.beside rfl rfl
    · exact hs.beside rfl rfl
    · exact hs
    · exact hs.beside rfl rfl
    all_goals exact hs

end State.PoolSound

@[simp] theorem Profile.storeNumber_defectCap (p : Profile) (code v : Nat) : (p.storeNumber code v).defectCap = p.defectCap := by
  unfold Profile.storeNumber
  dsimp only
  split <;> rfl

/-- The cap a PROFILE_SET stores, at least the largest extent count; every other item leaves it (R79). -/
theorem Profile.setItem_defectCap {p q : Profile} {largest code v : Nat} (h : p.setItem largest code v = some q) :
    q.defectCap = p.defectCap ∨ q.defectCap = max (clampTo 1 512 v) largest := by
  unfold Profile.setItem at h
  dsimp only at h
  split_ifs at h <;> cases h
  · exact .inr rfl
  all_goals simp only [Profile.storeNumber_defectCap, true_or]

theorem State.PoolSound.setProfile {s t : State} (hs : s.PoolSound) {code v : Nat} {p : List Byte} (h : s.setProfile code v = .ok t p) :
    t.PoolSound := by
  unfold State.setProfile at h
  split at h
  · cases h
  · split at h
    · cases h; exact hs.beside rfl rfl
    · split at h
      · cases h; exact hs.beside (s.putCapture_pool _) (s.putCapture_lanes _)
      · split at h
        · rename_i q hq
          rw [← (Answer.ok.inj h).1]
          refine State.PoolSound.itemTakesEffect ?_ _ _
          obtain hcap | hcap := Profile.setItem_defectCap hq
          · exact hs.beside (State.pool_eq_iff.mpr ⟨fun _ => rfl, rfl, hcap⟩) rfl
          · have hclamp := clampTo_between (show 1 ≤ 512 by decide) v
            have hlargest := State.poolSafe.largestCount ((State.poolSafe_iff s).mpr hs)
            refine hs.withCap (fun _ => rfl) rfl ?_ (fun i => ?_) hs.sectors <;> dsimp only <;> rw [hcap]
            · exact ⟨hclamp.1.trans (le_max_left _ _), max_le hclamp.2 hlargest⟩
            · exact (s.length_le_largestCount i).trans (le_max_right _ _)
        · cases h

/-! ## A whole step -/

/-- Every command and event keeps the pool whole: those that leave it by leaving it, the others by their effect. -/
theorem exec_poolSound {c : Instr} {s t : State} (hs : s.PoolSound) (h : exec c s = .next t) : t.PoolSound := by
  cases c with
  | commandFrame i f => exact execCommandFrame_poolSound hs h
  | pendingStatusSend i => cases h; exact hs.modLane i (·.sendNext)
  | dataSetupNotice i n => exact execDataSetupNotice_poolSound hs h
  | dataFrame i f => exact execDataFrame_poolSound hs h
  | successStatus i st => exact execSuccessStatus_poolSound hs h
  | errorStatus i r => exact execErrorStatus_poolSound hs h
  | commandTimeout i e => exact execCommandTimeout_poolSound hs h
  | driveLinkReset i => exact execDriveLinkReset_poolSound hs h
  | start args =>
    cases h
    refine hs.command fun t p h => ?_
    split at h
    · split at h
      · exact hs.startRun h
      · cases h
    · cases h
  | clearSlot args =>
    cases h
    refine hs.command fun t p h => ?_
    obtain ⟨i, -, h⟩ := slotCommand_ok h
    cases h
    exact hs.slotClear i
  | debounceEnd i =>
    cases h
    split
    · exact hs.debounced i
    · exact hs
  | chipReset => cases h; exact .restarted fun i => by simp; rfl
  | chipResetRelease straps => cases h; exact .restarted fun i => by simp; rfl
  | softReset args =>
    cases h
    refine hs.command fun t p h => ?_
    obtain ⟨-, h⟩ := plainCommand_ok h
    cases h
    exact .restarted fun i => by rw [State.softRecords, perSlot_get]; rfl
  | profileReady eeprom =>
    rw [← Host.Outcome.next.inj h]
    split
    · exact hs
    · split
      · exact hs
      · exact hs.profileLoaded _ eeprom
  | profileSet args =>
    cases h
    refine hs.command fun t p h => ?_
    split at h
    · exact hs.setProfile h
    · cases h
  | _ => exact hs.of_pool (exec_pool h not_false) (hs.keptSectors (exec_keepsLanes h not_false))

/-- Settles O53: the events of a drive link insert at LBAs of 48 bits, the slot clears return a whole list, a cap is set above every list,
and every other command leaves the pool. The queue, the counter of free values and the timebase are beside it. -/
theorem poolInvariant : Obligations.PoolInvariant := by
  intro s t hs h
  rw [State.poolSafe_iff] at hs ⊢
  unfold step at h
  split at h
  · refine exec_poolSound ?_ h
    exact hs.beside rfl rfl
  · split at h
    · rename_i c u ho
      obtain ⟨d, -, hd⟩ := Option.map_eq_some_iff.mp ho
      cases hd
      refine exec_poolSound ?_ h
      exact hs.beside rfl rfl
    · cases h
      unfold State.tick
      split
      · exact hs
      · exact hs.beside rfl rfl

end Sys2Proof.Machine
end

section
/-!
PROFILE_SET of the items that are ordered against others, of a factor, the cap and STRICT_SOAK (R79, R112, R113, R130, R168, R172).
-/
namespace Sys2Proof.Machine

/-- The codes of the items of one number that cause nothing at once. -/
abbrev storedOnly (code : Nat) : Prop :=
  0x0003 ≤ code ∧ code < 0x0100 ∧ code ≠ 0x0003 ∧ code ≠ 0x0009 ∧ code ≠ 0x000A ∧ code ≠ 0x000D ∧ code ≠ 0x0020

theorem State.itemTakesEffect_storedOnly (s : State) {code : Nat} (h : storedOnly code) (old : Nat) : s.itemTakesEffect code old = s := by
  obtain ⟨-, -, htimeout, hdivisor, hstale, hoffer, -⟩ := h
  rw [State.itemTakesEffect, if_neg htimeout, if_neg hdivisor, if_neg hstale, if_neg hoffer]

/-- An item of one number is stored by its clamp. -/
theorem State.setProfile_storedOnly {s : State} {code v : Nat} {p : Profile} (hcode : storedOnly code)
    (h : s.profile.setItem s.largestCount code v = some p) : s.setProfile code v =
      .ok (State.itemTakesEffect { s with profile := p } code s.profile.commandTimeout) (le 4 (p.number code)) := by
  obtain ⟨hlow, hhigh, -, -, -, -, hknots⟩ := hcode
  rw [State.setProfile, if_neg (by omega), if_neg (by omega), dif_neg (by omega), h]

/-- PROFILE_SET of such an item changes the profile and the reply alone. -/
theorem execProfileSet_storedOnly {s : State} (hs : s.ready) {code v stored : Nat} {p : Profile} (hcode : storedOnly code)
    (hv : v < 4294967296) (h : s.profile.setItem s.largestCount code v = some p) (hstored : p.number code = stored) :
    exec (.profileSet (le 2 code ++ le 4 v)) s =
      .next { s with profile := p, reply := { status := .ok, payload := le 4 stored } } := by
  have hsize : code < 65536 := hcode.2.1.trans (by decide)
  have hrun := execProfileSet_item hs hsize hv (State.setProfile_storedOnly hcode h)
  rwa [State.itemTakesEffect_storedOnly _ hcode, hstored] at hrun

theorem clampTo_zero (hi v : Nat) : clampTo 0 hi v = min v hi := Nat.zero_max _

/-! ## Knots and factors by their place (R113) -/

theorem Profile.setItem_knot (p : Profile) (largest v : Nat) (i : Fin 9) :
    p.setItem largest (0x0021 + i.val) v = some { p with knots := p.knots.set i (p.clampKnot i v) } := by
  fin_cases i <;> rfl

theorem Profile.setItem_factor (p : Profile) (largest v : Nat) (i : Fin 9) :
    p.setItem largest (0x0031 + i.val) v = some { p with factors := p.factors.set i (clampTo 0 4095 v) } := by
  fin_cases i <;> rfl

theorem Profile.number_knot (p : Profile) (i : Fin 9) : p.number (0x0021 + i.val) = p.knots[i] := by
  rw [Fin.getElem_fin, ← nine_getD p.knots i.isLt]
  fin_cases i <;> rfl

theorem Profile.number_factor (p : Profile) (i : Fin 9) : p.number (0x0031 + i.val) = p.factors[i] := by
  rw [Fin.getElem_fin, ← nine_getD p.factors i.isLt]
  fin_cases i <;> rfl

/-! ## The settled statement -/

/-- Settles O10: each item is stored by its clamp and causes nothing at once; of the clamps, the one from 0 is a minimum, and B3's upper
bound holds of every value of 32 bits. -/
theorem profileSetKeepsOrder : Obligations.ProfileSetKeepsOrder := by
  intro s v hs hv stores p g
  have store {code stored : Nat} {q : Profile} (hcode : storedOnly code) (h : p.setItem s.largestCount code v = some q)
      (hstored : q.number code = stored) : stores code stored q := execProfileSet_storedOnly hs hcode hv h hstored
  have storeBelow {code hi : Nat} (q : Nat → Profile) (hcode : storedOnly code)
      (h : p.setItem s.largestCount code v = some (q (clampTo 0 hi v))) (hstored : (q (clampTo 0 hi v)).number code = clampTo 0 hi v) :
      stores code (min v hi) (q (min v hi)) := by
    rw [← clampTo_zero]; exact store hcode h hstored
  have htop : min v max32 = v := Nat.min_eq_left (Nat.le_of_lt_succ hv)
  refine ⟨storeBelow (fun n => { p with h1 := n }) (by decide) rfl rfl, store (by decide) rfl rfl,
    storeBelow (fun n => { p with grading := { g with b1 := n } }) (by decide) rfl rfl, store (by decide) rfl rfl, ?_, ?_,
    store (by decide) rfl rfl, fun i => ?_, fun i => store ?_ (p.setItem_knot _ v i) ?_⟩
  · have hset : p.setItem s.largestCount 0x001A v = some { p with grading := { g with b3 := max g.b2 (min v max32) } } := rfl
    rw [htop] at hset
    exact store (by decide) hset rfl
  · have hstrict : (if (v != 0) = true then 1 else 0) = if v = 0 then 0 else 1 := by by_cases hzero : v = 0 <;> simp [hzero]
    exact store (by decide) rfl hstrict
  · refine storeBelow (fun n => { p with factors := p.factors.set i n }) (by omega) (p.setItem_factor _ v i) ?_
    rw [Profile.number_factor]
    exact Vector.getElem_set_self i.isLt
  · omega
  · rw [Profile.number_knot]
    exact Vector.getElem_set_self i.isLt

end Sys2Proof.Machine
end

section
/-!
SLOT_COUNTERS, HISTOGRAM and DEFECT_READ (R87, R118, R162, R172, Table 12-6, Table 12-7): each payload as the list of its fields.
-/
namespace Sys2Proof.Machine

/-! ## SLOT_COUNTERS -/

/-- The groups of fields of SLOT_COUNTERS in order: what was written and checked, the reports of the drive, those of the lane, and
the soak block in two parts. -/
def SlotRecord.countersFields (r : SlotRecord) : List (List Byte) :=
  [le 4 r.seed.toNat ++ le 4 r.counters.writtenSectors ++ le 4 r.counters.checkedSectors,
    le 2 r.counters.stale ++ le 2 r.counters.slip ++ le 2 r.counters.corrupt ++ le 2 r.counters.media ++ le 2 r.counters.timeouts ++
      le 2 r.counters.late,
    le 2 r.counters.aborted ++ le 2 r.counters.abandoned ++ le 2 r.counters.withheld ++ le 2 r.counters.anomalies,
    le 4 r.soak.a ++ le 2 r.soak.target ++ le 4 r.soak.burnSeconds ++ le 4 r.soak.staleSeconds,
    le 4 r.soak.chamberOffSeconds ++ le 4 r.soak.coldSeconds ++ le 4 r.soak.excursionSeconds ++ le 4 r.soak.heldSeconds ++
      le 1 r.soak.maxH]

theorem SlotRecord.countersPayload_eq (r : SlotRecord) : r.countersPayload = r.countersFields.flatten := by
  unfold SlotRecord.countersPayload SlotRecord.countersFields
  simp only [List.flatten_cons, List.flatten_nil, List.append_assoc, List.append_nil]

theorem SlotRecord.countersFields_widths (r : SlotRecord) : r.countersFields.map List.length = [12, 12, 8, 14, 17] := by
  simp [SlotRecord.countersFields]

/-! ## HISTOGRAM -/

/-- The fields of HISTOGRAM in order: the sixteen buckets, then the group behind them. -/
def State.histogramFields (s : State) (i : SlotId) : List (List Byte) :=
  (s.slot i).latency.histogram.toList.map (le 2) ++
    [le 2 (s.slot i).latency.slowCount ++ le 4 (s.slot i).latency.maxLatency ++ le 2 s.profile.latencyBase ++
      le 1 s.profile.slowBucket]

theorem State.histogramPayload_eq (s : State) (i : SlotId) : s.histogramPayload i = (s.histogramFields i).flatten := by
  simp only [State.histogramPayload, State.histogramFields, List.flatten_append, List.flatten_cons, List.flatten_nil,
    List.append_nil, List.flatMap_def, List.append_assoc]

theorem State.histogramFields_widths (s : State) (i : SlotId) :
    (s.histogramFields i).map List.length = List.replicate 16 2 ++ [9] := by
  have hbuckets : ((s.slot i).latency.histogram.toList.map (le 2)).map List.length = List.replicate 16 2 := by
    rw [List.map_map, List.eq_replicate_iff]
    simp
  rw [State.histogramFields, List.map_append, hbuckets]
  simp

/-! ## DEFECT_READ -/

/-- The ten bytes of DEFECT_READ before the extents it shows (Table 12-6). -/
def Defects.summary (d : Defects) (shown : Nat) : List Byte :=
  le 2 d.extents.length ++ le 4 d.sectors ++ le 2 d.unrecorded ++ le 1 (bit d.truncated) ++ le 1 shown

/-- The fields of DEFECT_READ in order. -/
def Defects.readFields (d : Defects) (index : Nat) : List (List Byte) :=
  d.summary ((d.extents.drop index).take 3).length :: ((d.extents.drop index).take 3).map Extent.bytes

theorem Defects.payload_eq (d : Defects) (index : Nat) : d.payload index = (d.readFields index).flatten := by
  have hflag : [flagByte d.truncated] = le 1 (bit d.truncated) := by cases d.truncated <;> rfl
  simp only [Defects.payload, Defects.readFields, Defects.summary, hflag, List.flatten_cons, List.flatMap_def]

/-- The fields of an extent entry (Table 12-7). -/
theorem Extent.bytes_eq (x : Extent) : x.bytes =
    le 6 x.start ++ le 2 x.length ++ le 1 (bit x.corrupt + 2 * bit x.media) ++ le 1 x.hits ++ le 2 x.firstPass ++ le 4 0 := by
  rw [Extent.bytes, Extent.causeBits, flagBits_two]

theorem Defects.readFields_widths (d : Defects) (index : Nat) : (d.readFields index).map List.length =
    10 :: List.replicate ((d.extents.drop index).take 3).length 16 := by
  have hsummary (n : Nat) : (d.summary n).length = 10 := by simp [Defects.summary]
  simp only [Defects.readFields, List.map_cons, List.map_map, hsummary, List.cons.injEq, true_and, List.eq_replicate_iff,
    List.length_map, List.mem_map, Function.comp_apply, forall_exists_index, and_imp]
  rintro n x - rfl
  exact x.bytes_length

theorem Defects.readFields_shown {d : Defects} {index k : Nat} {x : Extent} (h : ((d.extents.drop index).take 3)[k]? = some x) :
    hasField (d.readFields index).flatten (10 + 16 * k) x.bytes := by
  obtain ⟨hk, -⟩ := List.getElem?_eq_some_iff.mp h
  refine hasField_flatten (d.readFields_widths index) (k := k + 1) ?_ ?_
  · rw [Defects.readFields, List.getElem?_cons_succ, List.getElem?_map, h, Option.map_some]
  · rw [List.take_succ_cons, List.sum_cons, List.take_replicate, List.sum_replicate, Nat.min_eq_left hk.le, smul_eq_mul,
      Nat.mul_comm]

theorem Defects.readFields_length (d : Defects) (index : Nat) :
    (d.readFields index).flatten.length = 10 + 16 * ((d.extents.drop index).take 3).length := by
  rw [List.length_flatten, d.readFields_widths, List.sum_cons, List.sum_replicate, smul_eq_mul, Nat.mul_comm]

theorem execDefectRead_slot {s : State} (hs : s.ready) (i : SlotId) {index : Nat} (h : index ≤ 511) :
    exec (.defectRead (slotByte i :: le 2 index)) s = .next (s.answer .ok ((s.slot i).defects.payload index)) := by
  have hindex : fromLe (le 2 index) = index := fromLe_le_of_lt (by omega)
  refine congrArg Host.Outcome.next (State.command_ok hs ?_)
  simp only [le] at hindex ⊢
  simp only [slotByte, slotArg_ofNat, hindex, h, if_true]

/-- A slot above 7 and an index above 511 are out of range (R87). -/
theorem execDefectRead_range {s : State} (hs : s.ready) {b : Byte} {index : Nat}
    (h : 8 ≤ b.toNat ∨ (511 < index ∧ index < 65536)) :
    exec (.defectRead (b :: le 2 index)) s = .next (s.answer .range []) := by
  refine congrArg Host.Outcome.next (State.command_no hs ?_)
  obtain hb | ⟨hlow, hhigh⟩ := h
  · simp only [le, (slotArg_eq_none b).mpr hb]
  · have hindex : fromLe (le 2 index) = index := fromLe_le_of_lt hhigh
    have habove : ¬index ≤ 511 := Nat.not_le_of_lt hlow
    simp only [le] at hindex ⊢
    simp only [hindex, habove, if_false]
    cases slotArg b <;> rfl

/-! ## The settled statement -/

/-- Settles O17: each field by its place in its table. -/
theorem countersHistogramDefectReplies : Obligations.CountersHistogramDefectReplies := by
  refine ⟨fun s hs => ⟨fun b hb => ⟨?_, ?_, fun index => execDefectRead_range hs (.inl hb)⟩,
    fun b index hlow hhigh => execDefectRead_range hs (.inr ⟨hlow, hhigh⟩)⟩, fun s i hs => ⟨?_, ?_, fun index hindex => ?_⟩⟩
  · exact congrArg Host.Outcome.next (State.slotCommand_range hs hb fun s i => .ok s (s.slot i).countersPayload)
  · exact congrArg Host.Outcome.next (State.slotCommand_range hs hb fun s i => .ok s (s.histogramPayload i))
  · refine ⟨_, congrArg Host.Outcome.next
      (State.slotCommand_taken (rule := fun s i => .ok s (s.slot i).countersPayload) hs rfl), rfl, rfl, ?_⟩
    have field {off : Nat} {bs : List Byte} (k : Nat) (hk : (s.slot i).countersFields[k]? = some bs)
        (hoff : ([12, 12, 8, 14, 17].take k).sum = off) : hasField (s.slot i).countersPayload off bs := by
      rw [SlotRecord.countersPayload_eq]
      exact hasField_flatten (s.slot i).countersFields_widths hk hoff
    exact ⟨field 0 rfl rfl, field 1 rfl rfl, field 2 rfl rfl, field 3 rfl rfl, field 4 rfl rfl⟩
  · refine ⟨_, congrArg Host.Outcome.next (State.slotCommand_taken (rule := fun s i => .ok s (s.histogramPayload i)) hs rfl),
      rfl, rfl, ?_⟩
    have field {off : Nat} {bs : List Byte} (k : Nat) (hk : (s.histogramFields i)[k]? = some bs)
        (hoff : ((List.replicate 16 2 ++ [9]).take k).sum = off) : hasField (s.histogramPayload i) off bs := by
      rw [s.histogramPayload_eq]
      exact hasField_flatten (s.histogramFields_widths i) hk hoff
    refine ⟨fun b => field b.val ?_ (by revert b; decide), field 16 ?_ rfl⟩
    · rw [State.histogramFields, List.getElem?_append_left (by simp), List.getElem?_map]
      simp
    · rw [State.histogramFields, List.getElem?_append_right (by simp)]
      simp
  · refine ⟨_, execDefectRead_slot hs i hindex, rfl, rfl, ?_⟩
    intro p shown
    have hp : p = ((s.slot i).defects.readFields index).flatten := (s.slot i).defects.payload_eq index
    rw [hp]
    exact ⟨hasField_flatten ((s.slot i).defects.readFields_widths index) (k := 0) rfl rfl,
      fun k x hx => x.bytes_eq ▸ Defects.readFields_shown hx, (s.slot i).defects.readFields_length index⟩

end Sys2Proof.Machine
end

section
/-!
The capture unit (06_capture_records.md): which record a delivery takes, and the delivery of a raised event as a whole (R89 to R94).
-/
namespace Sys2Proof.Machine

/-! ## Records and their lowest -/

theorem RecordState.isFree_iff (st : RecordState) : st.isFree = true ↔ st = .empty ∨ ∃ x, st = .read x := by
  cases st <;> simp [RecordState.isFree]

theorem RecordState.isUnread_iff (st : RecordState) : st.isUnread = true ↔ ∃ x, st = .full x ∨ st = .overwritten x := by
  cases st <;> simp [RecordState.isUnread]

/-- A record that is not OFF is free or unread (Table 6-1). -/
theorem RecordState.isUnread_of_not_free {st : RecordState} (hoff : st ≠ .off) (hfree : ¬st.isFree = true) : st.isUnread = true := by
  cases st with
  | off => exact absurd rfl hoff
  | empty => exact absurd rfl hfree
  | read x => exact absurd rfl hfree
  | full x => rfl
  | overwritten x => rfl

theorem CaptureRecord.accepts_iff (r : CaptureRecord) (e : CaptureEvent) : r.accepts e = true ↔
    r.state ≠ .off ∧ r.slotMask.getLsbD e.slot.val = true ∧ r.kindMask.getLsbD e.detail.kind = true := by
  simp [CaptureRecord.accepts, and_assoc]

theorem CaptureUnit.lowest_eq_find (u : CaptureUnit) (test : Fin 16 → CaptureRecord → Bool) :
    u.lowest test = Fin.find? fun n => test n u.records[n] := by
  have hlist : allSixteen = List.finRange 16 := by decide
  rw [CaptureUnit.lowest, hlist, Fin.find?_eq_find?_finRange]

theorem CaptureUnit.lowest_eq_some {u : CaptureUnit} {test : Fin 16 → CaptureRecord → Bool} {n : Fin 16} :
    u.lowest test = some n ↔ test n u.records[n] = true ∧ ∀ m, m < n → ¬test m u.records[m] = true := by
  simp only [u.lowest_eq_find, Fin.find?_eq_some_iff, Bool.not_eq_true]

theorem CaptureUnit.lowest_eq_none {u : CaptureUnit} {test : Fin 16 → CaptureRecord → Bool} :
    u.lowest test = none ↔ ∀ n : Fin 16, ¬test n u.records[n] = true := by
  simp only [u.lowest_eq_find, Fin.find?_eq_none_iff, Bool.not_eq_true]

/-! ## The steps of a delivery -/

/-- A matching record that is EMPTY or READ (R91). -/
def CaptureUnit.FreeFor (u : CaptureUnit) (e : CaptureEvent) (n : Fin 16) : Prop :=
  u.records[n].accepts e = true ∧ u.records[n].state.isFree = true

/-- A matching record that is FULL or OVERWRITTEN and not locked (R92). -/
def CaptureUnit.UnlockedFor (u : CaptureUnit) (e : CaptureEvent) (n : Fin 16) : Prop :=
  u.records[n].accepts e = true ∧ u.records[n].state.isUnread = true ∧ u.locked ≠ some n

section
variable {u : CaptureUnit} {e : CaptureEvent} {n : Fin 16}

theorem CaptureUnit.lowest_free_eq_some : u.lowest (fun _ r => r.accepts e && r.state.isFree) = some n ↔
    u.FreeFor e n ∧ ∀ m, m < n → ¬u.FreeFor e m := by
  simp only [CaptureUnit.lowest_eq_some, Bool.and_eq_true, CaptureUnit.FreeFor]

theorem CaptureUnit.lowest_free_eq_none : u.lowest (fun _ r => r.accepts e && r.state.isFree) = none ↔ ∀ m, ¬u.FreeFor e m := by
  simp only [CaptureUnit.lowest_eq_none, Bool.and_eq_true, CaptureUnit.FreeFor]

theorem CaptureUnit.lowest_unlocked_eq_some :
    u.lowest (fun n r => r.accepts e && r.state.isUnread && u.locked != some n) = some n ↔
      u.UnlockedFor e n ∧ ∀ m, m < n → ¬u.UnlockedFor e m := by
  simp only [CaptureUnit.lowest_eq_some, Bool.and_eq_true, bne_iff_ne, and_assoc, CaptureUnit.UnlockedFor]

theorem CaptureUnit.lowest_unlocked_eq_none :
    u.lowest (fun n r => r.accepts e && r.state.isUnread && u.locked != some n) = none ↔ ∀ m, ¬u.UnlockedFor e m := by
  simp only [CaptureUnit.lowest_eq_none, Bool.and_eq_true, bne_iff_ne, and_assoc, CaptureUnit.UnlockedFor]

/-- A matching record that neither R91 nor R92 takes is the locked one (R93). -/
theorem CaptureUnit.locked_of_accepts (ha : u.records[n].accepts e = true) (hfree : ¬u.FreeFor e n) (hunlocked : ¬u.UnlockedFor e n) :
    u.locked = some n := by
  obtain ⟨hoff, -, -⟩ := (CaptureRecord.accepts_iff _ _).mp ha
  by_contra hlocked
  exact hunlocked ⟨ha, RecordState.isUnread_of_not_free hoff fun hf => hfree ⟨ha, hf⟩, hlocked⟩

/-- The staging of an event aimed at a record (R93). -/
def CaptureUnit.staged (u : CaptureUnit) (e : CaptureEvent) (n : Fin 16) : CaptureUnit × Option AlertFlag :=
  match u.staging with
  | none => ({ u with staging := some { event := e, aim := n } }, none)
  | some _ => ({ u with staging := some { event := e, aim := n }, stagedLost := inc16 u.stagedLost }, some .stagedLost)

theorem CaptureUnit.deliver_of_free (h : u.FreeFor e n) (hbelow : ∀ m, m < n → ¬u.FreeFor e m) :
    u.deliver e = (u.setRecord n (u.records[n].written (.full e)), some .captureNew) := by
  rw [CaptureUnit.deliver, CaptureUnit.lowest_free_eq_some.mpr ⟨h, hbelow⟩]

theorem CaptureUnit.deliver_of_unlocked (hfree : ∀ m, ¬u.FreeFor e m) (h : u.UnlockedFor e n)
    (hbelow : ∀ m, m < n → ¬u.UnlockedFor e m) :
    u.deliver e = (u.setRecord n (u.records[n].written (.overwritten e)), some .captureNew) := by
  rw [CaptureUnit.deliver, CaptureUnit.lowest_free_eq_none.mpr hfree, CaptureUnit.lowest_unlocked_eq_some.mpr ⟨h, hbelow⟩]

theorem CaptureUnit.deliver_of_locked (hfree : ∀ m, ¬u.FreeFor e m) (hunlocked : ∀ m, ¬u.UnlockedFor e m)
    (ha : u.records[n].accepts e = true) : u.deliver e = u.staged e n := by
  have honly (m : Fin 16) (hm : u.records[m].accepts e = true) : m = n :=
    Option.some.inj ((u.locked_of_accepts hm (hfree m) (hunlocked m)).symm.trans (u.locked_of_accepts ha (hfree n) (hunlocked n)))
  have hlowest : u.lowest (fun _ r => r.accepts e) = some n :=
    CaptureUnit.lowest_eq_some.mpr ⟨ha, fun m hm hm' => absurd (honly m hm') hm.ne⟩
  rw [CaptureUnit.deliver, CaptureUnit.lowest_free_eq_none.mpr hfree, CaptureUnit.lowest_unlocked_eq_none.mpr hunlocked, hlowest]
  rfl

theorem CaptureUnit.deliver_of_unmatched (h : ∀ m : Fin 16, ¬u.records[m].accepts e = true) :
    u.deliver e = ({ u with unmatched := inc16 u.unmatched }, some .unmatched) := by
  rw [CaptureUnit.deliver, CaptureUnit.lowest_free_eq_none.mpr fun m hm => h m hm.1,
    CaptureUnit.lowest_unlocked_eq_none.mpr fun m hm => h m hm.1, CaptureUnit.lowest_eq_none.mpr h]

end

/-! ## The settled statement -/

/-- Settles O43: each step of R91 to R94 takes the lowest record that meets its test, and what is left to R93 is the locked record. -/
theorem captureDelivery : Obligations.CaptureDelivery := by
  refine ⟨fun u e => ?_, fun s e hempty hidle => ?_⟩
  · intro accepts free unlocked put
    have haccepts (n : Fin 16) : accepts n ↔ u.records[n].accepts e = true := (CaptureRecord.accepts_iff _ _).symm
    have hfree (n : Fin 16) : free n ↔ u.FreeFor e n := and_congr (haccepts n) (RecordState.isFree_iff _).symm
    have hunlocked (n : Fin 16) : unlocked n ↔ u.UnlockedFor e n :=
      and_congr (haccepts n) (and_comm.trans (and_congr_left' (RecordState.isUnread_iff _).symm))
    simp only [haccepts, hfree, hunlocked]
    refine ⟨fun n hn hbelow => CaptureUnit.deliver_of_free hn hbelow, fun hf n hn hbelow => CaptureUnit.deliver_of_unlocked hf hn hbelow,
      fun hf hu n ha => ?_, CaptureUnit.deliver_of_unmatched⟩
    have hlocked (m : Fin 16) (hm : u.records[m].accepts e = true) : u.locked = some m := u.locked_of_accepts hm (hf m) (hu m)
    have hdeliver := CaptureUnit.deliver_of_locked hf hu ha
    refine ⟨hlocked n ha, fun m hm => Option.some.inj ((hlocked m hm).symm.trans (hlocked n ha)), fun hnone => ?_, fun hsome => ?_⟩
    · rw [hdeliver, CaptureUnit.staged, hnone]
    · obtain ⟨st, hst⟩ := Option.ne_none_iff_exists'.mp hsome
      rw [hdeliver, CaptureUnit.staged, hst]
      rfl
  · rw [State.capturing_counts ((Phase.counts_iff _).mpr ⟨hempty, hidle⟩)]
    rfl

end Sys2Proof.Machine
end

section
/-!
The capture commands (R95 to R99): the release of the lock, CAPTURE_SET, CAPTURE_OPEN, CAPTURE_READ and CAPTURE_CLOSE.
-/
namespace Sys2Proof.Machine

/-! ## The staged event and the flags -/

theorem CaptureUnit.stagedFor_eq (u : CaptureUnit) (n : Fin 16) : u.stagedFor n = (u.staging.map (·.aim) == some n) := by
  unfold CaptureUnit.stagedFor
  cases u.staging <;> rfl

theorem option_filter_ne {α β : Type} [DecidableEq β] (f : α → β) (o : Option α) (b : β) :
    o.filter (fun a => f a ≠ b) = if o.map f = some b then none else o := by
  cases o with
  | none => rfl
  | some a => by_cases h : f a = b <;> simp [h]

/-- An operation of the capture unit changes the unit and the flags alone (R100). -/
theorem State.putCapture_apart (s : State) (u : CaptureUnit × Option AlertFlag) :
    s.putCapture u = { s with capture := u.1, alerts := (s.putCapture u).alerts } := by
  unfold State.putCapture
  cases u.2 <;> rfl

theorem State.putCapture_flag_if (s : State) (u : CaptureUnit) (p : Prop) [Decidable p] (f : AlertFlag) :
    s.putCapture (u, if p then some f else none) = { s with capture := u, alerts := if p then s.alerts ||| f.set else s.alerts } := by
  split <;> rfl

theorem flagByte_eq_le (b : Bool) : [flagByte b] = le 1 (bit b) := by cases b <;> rfl

/-! ## The release of the lock (R97) -/

/-- A record as the release of its lock leaves it: FULL with the event staged for it, else READ. -/
def CaptureUnit.releasedRecord (u : CaptureUnit) (m : Fin 16) : CaptureRecord :=
  match u.staging with
  | none => { u.records[m] with state := (u.records[m].state.content.map .read).getD u.records[m].state }
  | some st =>
    if st.aim = m then { u.records[m] with state := .full st.event, arrivals := min (u.records[m].arrivals + 1) 65535 }
    else { u.records[m] with state := (u.records[m].state.content.map .read).getD u.records[m].state }

/-- The unit after the lock on a record is released. -/
def CaptureUnit.afterRelease (u : CaptureUnit) (m : Fin 16) : CaptureUnit :=
  { u with
    records := u.records.set m (u.releasedRecord m), locked := none
    staging := u.staging.filter (fun st => st.aim ≠ m) }

theorem RecordState.released_eq (st : RecordState) : st.released = (st.content.map .read).getD st := by cases st <;> rfl

/-- The release moves in an event staged for the record, with CAPTURE_NEW. -/
theorem CaptureUnit.releaseLock_of_locked {u : CaptureUnit} {m : Fin 16} (h : u.locked = some m) :
    u.releaseLock = (u.afterRelease m, if u.staging.map (·.aim) = some m then some .captureNew else none) := by
  unfold CaptureUnit.releaseLock CaptureUnit.afterRelease CaptureUnit.releasedRecord
  rw [h, option_filter_ne, ← RecordState.released_eq]
  cases hs : u.staging with
  | none => simp [CaptureUnit.setRecord, hs]
  | some st =>
    by_cases ha : st.aim = m
    · simp only [ha, if_true, Option.map_some]; rfl
    · simp [ha, CaptureUnit.setRecord, hs]

theorem CaptureUnit.releaseLock_of_unlocked {u : CaptureUnit} (h : u.locked = none) : u.releaseLock = (u, none) := by
  rw [CaptureUnit.releaseLock, h]

/-! ## CAPTURE_SET (R99) -/

/-- The filter of a record set: the lock on it released, an event staged for it discarded and counted. -/
theorem CaptureUnit.filterSet_eq (u : CaptureUnit) (n : Fin 16) (slotMask : BitVec 8) (kindMask : BitVec 6) :
    u.filterSet n slotMask kindMask =
      ({ u with
          records := u.records.set n (CaptureRecord.filtered slotMask kindMask)
          staging := u.staging.filter (fun st => st.aim ≠ n)
          stagedLost := if u.staging.map (·.aim) = some n then min (u.stagedLost + 1) 65535 else u.stagedLost
          locked := u.locked.filter (· ≠ n) },
        if u.staging.map (·.aim) = some n then some .stagedLost else none) := by
  have hlocked : u.locked.filter (· ≠ n) = if u.locked = some n then none else u.locked := by
    simpa using option_filter_ne id u.locked n
  unfold CaptureUnit.filterSet
  rw [option_filter_ne, u.stagedFor_eq]
  simp only [beq_iff_eq]
  rw [hlocked]
  rfl

/-- A kind mask within the six kinds is empty in six bits where its byte is. -/
theorem kindMask_eq_zero {kinds : Byte} (h : kinds.toNat < 64) : kinds.setWidth 6 = 0#6 ↔ kinds = 0#8 := by
  constructor <;> intro hz
  · bv_omega
  · subst hz; rfl

theorem exec_captureSet {s : State} (hs : s.ready) (n : Fin 16) {slots kinds : Byte} (h : kinds.toNat < 64) :
    exec (.captureSet [sixteenByte n, slots, kinds]) s =
      .next ((s.putCapture (s.capture.filterSet n slots (kinds.setWidth 6))).answer .ok []) :=
  congrArg Host.Outcome.next (State.command_ok hs (by simp only [sixteenByte, sixteenArg_ofNat, if_pos h]))

theorem exec_captureSet_kinds {s : State} (hs : s.ready) (n : Fin 16) {slots kinds : Byte} (h : 64 ≤ kinds.toNat) :
    exec (.captureSet [sixteenByte n, slots, kinds]) s = .next (s.answer .range []) :=
  congrArg Host.Outcome.next
    (State.command_no hs (by simp only [sixteenByte, sixteenArg_ofNat, if_neg (Nat.not_lt_of_le h)]))

theorem exec_captureSet_record {s : State} (hs : s.ready) {b slots kinds : Byte} (h : 16 ≤ b.toNat) :
    exec (.captureSet [b, slots, kinds]) s = .next (s.answer .range []) :=
  congrArg Host.Outcome.next (State.command_no hs (by simp only [(sixteenArg_eq_none b).mpr h]))

/-! ## CAPTURE_OPEN (R95) -/

theorem exec_captureOpen {s : State} (hs : s.ready) (n : Fin 16) : exec (.captureOpen [sixteenByte n]) s =
    .next ((s.putCapture (s.capture.opened n)).answer .ok ((s.capture.opened n).1.header n)) :=
  congrArg Host.Outcome.next (State.command_ok hs (by simp only [sixteenByte, sixteenArg_ofNat]))

theorem exec_captureOpen_record {s : State} (hs : s.ready) {b : Byte} (h : 16 ≤ b.toNat) :
    exec (.captureOpen [b]) s = .next (s.answer .range []) :=
  congrArg Host.Outcome.next (State.command_no hs (by simp only [(sixteenArg_eq_none b).mpr h]))

/-- A unit with a record open, and locked where it is unread. -/
def CaptureUnit.openedOn (v : CaptureUnit) (n : Fin 16) : CaptureUnit :=
  { v with openRecord := some n, locked := if v.records[n].state.isUnread then some n else none }

/-- CAPTURE_OPEN releases the lock on another record first, with the flag of that release. -/
theorem State.putCapture_opened (s : State) (n : Fin 16) : s.putCapture (s.capture.opened n) = { s with
    capture := CaptureUnit.openedOn (match s.capture.locked with
      | none => s.capture
      | some m => if m = n then s.capture else s.capture.afterRelease m) n
    alerts := match s.capture.locked with
      | none => s.alerts
      | some m =>
        if m = n then s.alerts
        else if s.capture.staging.map (·.aim) = some m then s.alerts ||| 1#17 else s.alerts } := by
  unfold CaptureUnit.opened
  cases hl : s.capture.locked with
  | none => rw [if_neg nofun, CaptureUnit.releaseLock_of_unlocked hl]; rfl
  | some m =>
    by_cases hm : m = n
    · simp only [hm, if_true]; rfl
    · rw [if_neg (mt Option.some.inj hm), CaptureUnit.releaseLock_of_locked hl]
      simp only [if_neg hm, State.putCapture_flag_if]
      rfl

/-- The header of a record (Table 12-6). -/
theorem CaptureUnit.header_eq (u : CaptureUnit) (n : Fin 16) : u.header n =
    le 1 n.val ++ le 1 u.records[n].state.code ++ le 1 (bit (u.locked == some n)) ++ [u.records[n].slotMask] ++
      le 1 u.records[n].kindMask.toNat ++ le 2 u.records[n].arrivals ++ le 1 (bit (u.staging.map (·.aim) == some n)) := by
  rw [CaptureUnit.header, flagByte_eq_le, flagByte_eq_le, u.stagedFor_eq]

/-! ## CAPTURE_READ and CAPTURE_CLOSE (R96 to R98) -/

theorem CaptureUnit.openContent_eq_none {u : CaptureUnit}
    (h : u.openRecord = none ∨ ∃ m, u.openRecord = some m ∧ u.records[m].state.content = none) : u.openContent = none := by
  unfold CaptureUnit.openContent
  obtain hclosed | ⟨m, hm, hempty⟩ := h
  · rw [hclosed]
  · simp only [hm, hempty, Option.map_none]

theorem exec_captureRead_refused {s : State} (hs : s.ready) (h : s.capture.openContent = none) :
    exec (.captureRead []) s = .next (s.answer .refused []) :=
  congrArg Host.Outcome.next (State.command_no hs (by simp only [plainCommand, h]))

theorem exec_captureRead {s : State} (hs : s.ready) {m : Fin 16} {x : CaptureEvent} (hm : s.capture.openRecord = some m)
    (hx : s.capture.records[m].state.content = some x) :
    exec (.captureRead []) s = .next (s.answer .ok (captureContent s.capture.records[m].state x)) := by
  have hcontent : s.capture.openContent = some (s.capture.records[m].state, x) := by
    simp only [CaptureUnit.openContent, hm, hx, Option.map_some]
  exact congrArg Host.Outcome.next (State.command_ok hs (by simp only [plainCommand, hcontent]))

theorem exec_captureClose {s : State} (hs : s.ready) :
    exec (.captureClose []) s = .next ((s.putCapture s.capture.closed).answer .ok []) :=
  congrArg Host.Outcome.next (State.command_ok hs rfl)

/-! ## The settled statement -/

/-- Settles O44: each command by its operation on the unit, and a release by the event that is staged or not. -/
theorem captureCommands : Obligations.CaptureCommands := by
  intro s n hs u released afterRelease flagged
  have hafter (m : Fin 16) : u.afterRelease m = afterRelease m := rfl
  refine ⟨fun b hb => ⟨exec_captureOpen_record hs hb, fun slots kinds => exec_captureSet_record hs hb⟩,
    fun slots kinds => ⟨exec_captureSet_kinds hs n, fun hk => ?_⟩, ?_,
    fun h => exec_captureRead_refused hs (CaptureUnit.openContent_eq_none h), fun m x => exec_captureRead hs, fun hnone => ?_,
    fun m hm => ?_⟩
  · rw [exec_captureSet hs n hk, u.filterSet_eq, State.putCapture_flag_if, CaptureRecord.filtered]
    simp only [kindMask_eq_zero hk]
    rfl
  · refine ⟨_, exec_captureOpen hs n, rfl, ?_, ?_, ?_, ?_⟩
    · rw [State.putCapture_opened]; rfl
    · rw [State.putCapture_opened]; rfl
    · rw [State.answer_capture, State.putCapture_capture, ← CaptureUnit.header_eq]; rfl
    · rw [State.putCapture_apart]; rfl
  · rw [exec_captureClose hs, CaptureUnit.closed, CaptureUnit.releaseLock_of_unlocked hnone]
    rfl
  · rw [exec_captureClose hs, CaptureUnit.closed, CaptureUnit.releaseLock_of_locked hm, State.putCapture_flag_if]
    rfl

end Sys2Proof.Machine
end

section
/-!
PROFILE_SET of the codes that are no numbers of the profile (R168, R172, Table 12-10).
-/
namespace Sys2Proof.Machine

theorem exec_profileSet {s : State} (hs : s.ready) {code v : Nat} (hcode : code < 65536) (hv : v < 4294967296) :
    exec (.profileSet (le 2 code ++ le 4 v)) s = .next (s.concluded (s.setProfile code v)) := by
  have hcodeBytes : fromLe (le 2 code) = code := by rw [fromLe_le]; omega
  have hvalueBytes : fromLe (le 4 v) = v := by rw [fromLe_le]; omega
  obtain ⟨hreset, hload⟩ := hs
  refine congrArg Host.Outcome.next ((s.command_ready _ hreset hload).trans ?_)
  show s.concluded (s.setProfile (fromLe (le 2 code)) (fromLe (le 4 v))) = _
  rw [hcodeBytes, hvalueBytes]

/-! ## The codes of Table 12-10 -/

/-- The codes of Table 12-10 by their ranges. -/
theorem mem_knownCodes {code : Nat} (h : (0x0001 ≤ code ∧ code ≤ 0x000D) ∨ (0x0010 ≤ code ∧ code ≤ 0x001C) ∨
    (0x0020 ≤ code ∧ code ≤ 0x0029) ∨ (0x0031 ≤ code ∧ code ≤ 0x0039) ∨ (0x0100 ≤ code ∧ code ≤ 0x010F) ∨
    (0x0200 ≤ code ∧ code ≤ 0x020F) ∨ code = 0x0300) : code ∈ knownCodes := by
  have hrange {base n : Nat} (hlow : base ≤ code) (hhigh : code < base + n) : code ∈ (List.range n).map (base + ·) :=
    List.mem_map.mpr ⟨code - base, List.mem_range.mpr (by omega), Nat.add_sub_cancel' hlow⟩
  obtain ⟨hlow, hhigh⟩ | ⟨hlow, hhigh⟩ | ⟨hlow, hhigh⟩ | ⟨hlow, hhigh⟩ | ⟨hlow, hhigh⟩ | ⟨hlow, hhigh⟩ | rfl := h
  · interval_cases code <;> decide
  · interval_cases code <;> decide
  · interval_cases code <;> decide
  · interval_cases code <;> decide
  · exact List.mem_append_left _ (List.mem_append_right _ (hrange hlow (by omega)))
  · exact List.mem_append_right _ (hrange hlow (by omega))
  · decide

/-- A code that Table 12-10 does not give is no item of the profile. -/
theorem Profile.setItem_unknown (p : Profile) (largest v : Nat) {code : Nat} (h : code ∉ knownCodes) :
    p.setItem largest code v = none := by
  have hout := mt mem_knownCodes h
  have hnumber : ¬(0x0003 ≤ code ∧ code ≤ 0x001C ∧ (itemSize code).isSome) := by
    rintro ⟨hlow, hhigh, hsize⟩
    obtain rfl | rfl : code = 0x000E ∨ code = 0x000F := by omega
    · exact absurd hsize (by decide)
    · exact absurd hsize (by decide)
  rw [Profile.setItem, if_neg (by omega), if_neg (by omega), if_neg (by omega), if_neg (by omega), if_neg (by omega),
    if_neg (by omega), dif_neg (by omega), dif_neg (by omega), if_neg hnumber]

theorem State.setProfile_unknown (s : State) (v : Nat) {code : Nat} (h : code ∉ knownCodes) : s.setProfile code v = .no .range := by
  have hout := mt mem_knownCodes h
  rw [State.setProfile, if_neg (by omega), if_neg (by omega), dif_neg (by omega), s.profile.setItem_unknown _ v h]

/-- The sector size, the windows, the knot table and the pattern table range (R168). -/
theorem State.setProfile_refused (s : State) (v : Nat) {code : Nat}
    (h : code ∈ [0x0001, 0x0020, 0x0300] ++ (List.range 16).map (0x0100 + ·)) : s.setProfile code v = .no .refused := by
  rw [State.setProfile, if_pos]
  obtain hlist | hwindow := List.mem_append.mp h
  · simp only [List.mem_cons, List.not_mem_nil, or_false] at hlist
    omega
  · obtain ⟨k, hk, rfl⟩ := List.mem_map.mp hwindow
    have hlast := List.mem_range.mp hk
    omega

/-- The filter of a record: what CAPTURE_SET does (R99, R168). -/
theorem State.setProfile_filter (s : State) (v : Nat) (n : Fin 16) : s.setProfile (0x0200 + n.val) v =
    .ok (s.putCapture (s.capture.filterSet n (BitVec.ofNat 8 v) (BitVec.ofNat 6 (v / 256))))
      (le 1 v ++ le 1 (v / 256 % 64) ++ le 2 0) := by
  rw [State.setProfile, if_neg (by omega), if_neg (by omega), dif_pos (by omega)]
  simp only [Nat.add_sub_cancel_left]

/-- Settles O12: each code by its case of PROFILE_SET. -/
theorem profileSetOtherCodes : Obligations.ProfileSetOtherCodes := by
  intro s v hs hv
  refine ⟨fun code hcode hunknown => ?_, fun code hcode => ?_, exec_profileSet hs (by decide) hv, fun n => ?_⟩
  · rw [exec_profileSet hs hcode hv, s.setProfile_unknown v hunknown]
    rfl
  · have hbound : ∀ c ∈ [0x0001, 0x0020, 0x0300] ++ (List.range 16).map (0x0100 + ·), c < 65536 := by decide
    rw [exec_profileSet hs (hbound code hcode) hv, s.setProfile_refused v hcode]
    rfl
  · have hkinds : (BitVec.ofNat 8 (v / 256 % 64)).toNat < 64 := by simp; omega
    have hmask : (BitVec.ofNat 8 (v / 256 % 64)).setWidth 6 = BitVec.ofNat 6 (v / 256) := by
      apply BitVec.eq_of_toNat_eq
      simp
    have hset := exec_captureSet hs n (slots := BitVec.ofNat 8 v) hkinds
    rw [hmask] at hset
    refine ⟨_, _, exec_profileSet hs (by omega) hv, hset, ?_⟩
    rw [s.setProfile_filter v n]
    rfl

end Sys2Proof.Machine
end

section
/-!
What the commands do to the capture unit: every command and event but the capture commands, PROFILE_SET, resets and loads delivers
events to it, most of them none, and leaves the loader (R26, R89, R90).
-/
namespace Sys2Proof.Machine

/-! ## Deliveries -/

/-- The unit after events are delivered one by one. -/
def CaptureUnit.deliverAll (u : CaptureUnit) (events : List CaptureEvent) : CaptureUnit := events.foldl (fun v e => (v.deliver e).1) u

/-- A state becomes another whose loader is as it was and whose capture unit has had events delivered. -/
def State.Delivers (s t : State) : Prop := t.loader = s.loader ∧ ∃ events, t.capture = s.capture.deliverAll events

@[simp] theorem State.Delivers.refl (s : State) : s.Delivers s := ⟨rfl, [], rfl⟩

section
variable {s t : State}

@[simp] theorem State.Delivers.capturing (h : s.Delivers t) (e : CaptureEvent) : s.Delivers (t.capturing e) := by
  obtain ⟨-, hc⟩ | ⟨-, hc⟩ := t.capturing_cases e <;> rw [hc]
  · obtain ⟨hloader, events, hevents⟩ := h
    refine ⟨by simp [hloader], events ++ [e], ?_⟩
    rw [State.putCapture_capture, hevents, CaptureUnit.deliverAll, CaptureUnit.deliverAll, List.foldl_append]
    rfl
  · exact h

@[simp] theorem State.delivers_modSlot (i : SlotId) (f : SlotRecord → SlotRecord) : s.Delivers (t.modSlot i f) ↔ s.Delivers t := Iff.rfl
@[simp] theorem State.delivers_setPhase (i : SlotId) (p : Phase) : s.Delivers (t.setPhase i p) ↔ s.Delivers t := Iff.rfl
@[simp] theorem State.delivers_modLane (i : SlotId) (f : Lane → Lane) : s.Delivers (t.modLane i f) ↔ s.Delivers t := Iff.rfl
@[simp] theorem State.delivers_setPresence (i : SlotId) (p : Presence) : s.Delivers (t.setPresence i p) ↔ s.Delivers t := Iff.rfl
@[simp] theorem State.delivers_modChamber (f : Chamber → Chamber) : s.Delivers (t.modChamber f) ↔ s.Delivers t := Iff.rfl
@[simp] theorem State.delivers_raise (a : AlertFlag) : s.Delivers (t.raise a) ↔ s.Delivers t := Iff.rfl
@[simp] theorem State.delivers_answer (st : Status) (p : List Byte) : s.Delivers (t.answer st p) ↔ s.Delivers t := Iff.rfl
@[simp] theorem State.delivers_putSort (p : SortPort) : s.Delivers (t.putSort p) ↔ s.Delivers t := Iff.rfl
@[simp] theorem State.delivers_postNotice (i : SlotId) : s.Delivers (t.postNotice i) ↔ s.Delivers t := Iff.rfl

@[simp] theorem State.delivers_report (i : SlotId) (f : SlotRecord → SlotRecord) : s.Delivers (t.report i f) ↔ s.Delivers t := by
  obtain ⟨-, h⟩ | ⟨-, h⟩ := t.report_cases i f <;> simp [h]

@[simp] theorem State.delivers_insertDefect (i : SlotId) (lba : Nat) (c : Cause) (pass : Nat) :
    s.Delivers (t.insertDefect i lba c pass) ↔ s.Delivers t := by
  obtain ⟨-, d, free, -, h⟩ | ⟨-, h⟩ := t.insertDefect_cases i lba c pass <;> rw [h]
  rfl

@[simp] theorem State.delivers_modEntry (i : SlotId) (e : EntryId) (f : TagEntry → TagEntry) :
    s.Delivers (t.modEntry i e f) ↔ s.Delivers t := by
  obtain ⟨-, h⟩ | ⟨x, -, h⟩ := t.modEntry_cases i e f <;> simp [h]

@[simp] theorem State.delivers_markUntracked (i : SlotId) (e : EntryId) : s.Delivers (t.markUntracked i e) ↔ s.Delivers t := by
  obtain h | ⟨x, -, -, h⟩ := t.markUntracked_cases i e <;> simp [h]

@[simp] theorem State.delivers_noteOverrun (i : SlotId) (e : EntryId) (x : TagEntry) :
    s.Delivers (t.noteOverrun i e x) ↔ s.Delivers t := by
  obtain ⟨-, h⟩ | ⟨-, h⟩ := t.noteOverrun_cases i e x <;> simp [h]

@[simp] theorem State.delivers_slotClear (i : SlotId) : s.Delivers (t.slotClear i) ↔ s.Delivers t := by rw [t.slotClear_eq]; rfl
@[simp] theorem State.delivers_orphan (i : SlotId) : s.Delivers (t.orphan i) ↔ s.Delivers t := by rw [t.orphan_eq]; rfl
@[simp] theorem State.delivers_depart (i : SlotId) : s.Delivers (t.depart i) ↔ s.Delivers t := by rw [t.depart_eq]; rfl

/-- What every operation of a fold delivers into, the fold does. -/
theorem State.Delivers.foldl {α : Type} (h : s.Delivers t) {f : State → α → State} (hf : ∀ u x, s.Delivers u → s.Delivers (f u x))
    (l : List α) : s.Delivers (l.foldl f t) := List.foldlRecOn l f h fun u hu x _ => hf u x hu

theorem State.Delivers.forSlots (h : s.Delivers t) {f : State → SlotId → State} (hf : ∀ u i, s.Delivers u → s.Delivers (f u i)) :
    s.Delivers (t.forSlots f) := h.foldl hf allSlots

/-! ## The events of a drive link -/

@[simp] theorem State.Delivers.expireEntry (h : s.Delivers t) (i : SlotId) (e : EntryId) : s.Delivers (t.expireEntry i e) := by
  obtain hx | ⟨x, f, d, -, hx⟩ := t.expireEntry_cases i e <;> simp [hx, h]

@[simp] theorem State.Delivers.expireSlot (h : s.Delivers t) (i : SlotId) : s.Delivers (t.expireSlot i) :=
  h.foldl (fun u e hu => by split <;> simp [hu]) allEntries

theorem State.Delivers.testResult (h : s.Delivers t) (i : SlotId) (e : EntryId) (lba pass : Nat) (c : CheckResult) :
    s.Delivers (t.testResult i e lba pass c) := by
  cases c <;> simp [State.testResult, h]

@[simp] theorem State.Delivers.finishSector (h : s.Delivers t) (i : SlotId) (e : EntryId) (x : TagEntry) (y : SectorInProgress) :
    s.Delivers (t.finishSector i e x y) := by
  unfold State.finishSector
  split
  · exact h
  · split
    · unfold State.countSubstituted
      split <;> simp [h]
    · have herror (c : CheckResult) : s.Delivers (if c = .isMatch then t
          else t.modEntry i e (fun u => { u with errorSectors := inc16 u.errorSectors })) := by split <;> simp [h]
      unfold State.applyResult
      dsimp only
      split
      case h_1 | h_2 => exact (herror _).testResult i e _ _ _
      all_goals simp [herror]

theorem State.Delivers.passOne (h : s.Delivers t) (i : SlotId) (good : Bool) (b : Byte) : s.Delivers (t.passOne i good b).1 := by
  obtain hp | ⟨p, x, -, -, hp⟩ := t.passOne_cases i good b
  · rw [hp]; exact h
  · obtain ⟨-, hp⟩ | ⟨-, -, hp⟩ | ⟨-, -, -, hp⟩ | ⟨-, -, -, hp⟩ | ⟨-, -, -, -, hp⟩ := hp <;> rw [hp]
    · simp [h]
    · exact h
    · unfold State.passByte
      dsimp only
      split
      · dsimp only
        split <;> simp [h]
      · exact h
    · exact h
    · exact h

@[simp] theorem State.Delivers.passBytes (h : s.Delivers t) (i : SlotId) (good : Bool) (bs : List Byte) :
    s.Delivers (t.passBytes i good bs).1 :=
  State.passBytes_induct (P := s.Delivers) i good (fun _ b hu => hu.passOne i good b) bs t h

theorem State.Delivers.closeSuccess (h : s.Delivers t) (i : SlotId) (e : EntryId) : s.Delivers (t.closeSuccess i e) := by
  have hsample (x : TagEntry) : s.Delivers (t.sampleEntry i x) := by unfold State.sampleEntry; split <;> simp [h]
  have hcompare {u : State} (hu : s.Delivers u) (sn : Snoop) : s.Delivers (u.compareIdentity i sn) := by
    unfold State.compareIdentity; dsimp only; split <;> simp [hu]
  have hoffer {u : State} (hu : s.Delivers u) (x : TagEntry) : s.Delivers (u.offerSnoop i x) := by
    unfold State.offerSnoop
    split
    · split
      case h_1 => exact hu
      case h_2 => split <;> simp [hu]
      all_goals exact hcompare hu _
    · exact hu
  unfold State.closeSuccess
  split
  · exact h
  · rw [State.delivers_modLane]
    split
    · exact hoffer (hsample _) _
    · exact hsample _

theorem State.Delivers.closeError (h : s.Delivers t) (i : SlotId) (r : ErrorReport) : s.Delivers (t.closeError i r) := by
  have hmedia (e : EntryId) (x : TagEntry) (lba : Option (BitVec 48)) : s.Delivers (t.mediaError i e x lba) := by
    unfold State.mediaError
    split
    case h_1 | h_2 => cases lba <;> simp [h]
    all_goals simp [h]
  unfold State.closeError
  dsimp only
  split
  · exact h
  · split <;> simp [hmedia, h]

end

theorem execCommandFrame_delivers {i : SlotId} {f : CommandFrame} {s t : State} (h : execCommandFrame i f s = .next t) :
    s.Delivers t := by
  have hcollide : s.Delivers (s.collide i (commandEntry f.kind)) := by unfold State.collide; split <;> simp
  unfold execCommandFrame at h
  split at h <;> cases h
  · exact .refl s
  · split <;> simp [State.withhold, State.openEntry, hcollide]

theorem execDataSetupNotice_delivers {i : SlotId} {n : SetupNotice} {s t : State} (h : execDataSetupNotice i n s = .next t) :
    s.Delivers t := by
  unfold execDataSetupNotice at h
  dsimp only at h
  split at h
  · cases h; simp
  · split at h
    · cases h; simp
    · split at h <;> cases h <;> simp

theorem execDataFrame_delivers {i : SlotId} {f : DataFrame} {s t : State} (h : execDataFrame i f s = .next t) : s.Delivers t := by
  unfold execDataFrame at h
  split at h
  · cases h; simp
  · split at h
    · cases h; simp
    · split at h
      · cases h; simp
      · split at h <;> cases h <;> simp [State.wrongData]

theorem execSuccessStatus_delivers {i : SlotId} {st : Success} {s t : State} (h : execSuccessStatus i st s = .next t) :
    s.Delivers t := by
  have hrelay : s.Delivers (s.modLane i (·.relayStatus (.success st))) := .refl s
  unfold execSuccessStatus at h
  dsimp only at h
  split at h
  · cases h; exact hrelay
  · cases st with
    | nonQueued => cases h; exact hrelay.closeSuccess i _
    | queued tags => cases h; exact hrelay.foldl (fun u tag hu => by split; exact hu.closeSuccess i _; exact hu) allTags

theorem execErrorStatus_delivers {i : SlotId} {r : ErrorReport} {s t : State} (h : execErrorStatus i r s = .next t) :
    s.Delivers t := by
  have hrelay : s.Delivers (s.modLane i (·.relayStatus (.error r))) := .refl s
  unfold execErrorStatus at h
  dsimp only at h
  split at h
  · cases h; exact hrelay
  · split at h <;> rw [← Host.Outcome.next.inj h]
    · exact hrelay.closeError i r
    · exact (hrelay.closeError i r).foldl (fun u tag hu => by unfold State.abortSibling; split <;> simp [hu]) allTags

theorem execCommandTimeout_delivers {i : SlotId} {e : EntryId} {s t : State} (h : execCommandTimeout i e s = .next t) :
    s.Delivers t := by
  cases h
  split <;> simp

theorem execDriveLinkReset_delivers {i : SlotId} {s t : State} (h : execDriveLinkReset i s = .next t) : s.Delivers t := by
  unfold execDriveLinkReset at h
  split at h <;> cases h <;> simp

/-! ## Management commands -/

/-- The effects of an answer, where it has any, are deliveries. -/
def Answer.Delivers (s : State) : Answer → Prop
  | .ok t _ => s.Delivers t
  | .no _ => True

@[simp] theorem Answer.delivers_ok (s t : State) (payload : List Byte) : (Answer.ok t payload).Delivers s ↔ s.Delivers t := Iff.rfl
@[simp] theorem Answer.delivers_no (s : State) (st : Status) : (Answer.no st).Delivers s := trivial

theorem State.command_delivers {s : State} {rule : State → Answer} (h : (rule s).Delivers s) : s.Delivers (s.command rule) := by
  obtain ⟨-, hc⟩ | ⟨-, -, hc⟩ | ⟨-, -, t, p, hr, hc⟩ | ⟨-, -, st, -, hc⟩ := s.command_cases rule <;> rw [hc]
  · exact .refl s
  · exact .refl s
  · rw [hr] at h; exact h
  · exact .refl s

theorem State.slotCommand_delivers {s : State} {args : List Byte} {rule : State → SlotId → Answer} (h : ∀ i, (rule s i).Delivers s) :
    s.Delivers (s.command fun s => slotCommand args (rule s)) := by
  refine State.command_delivers ?_
  unfold slotCommand
  split
  · split
    · exact h _
    · trivial
  · trivial

theorem State.plainCommand_delivers {s : State} {args : List Byte} {answer : State → Answer} (h : (answer s).Delivers s) :
    s.Delivers (s.command fun s => plainCommand args (answer s)) := by
  refine State.command_delivers ?_
  unfold plainCommand
  split
  · exact h
  · trivial

theorem State.phaseChange_delivers (s : State) (args : List Byte) (f : Phase → Option Phase) :
    s.Delivers (s.command fun s => slotCommand args fun i => s.phaseChange i (f (s.slot i).phase)) :=
  State.slotCommand_delivers fun i => by unfold State.phaseChange; split <;> simp

theorem State.slotQuery_delivers (s : State) (args : List Byte) (payload : State → SlotId → List Byte) :
    s.Delivers (s.command fun s => slotCommand args fun i => .ok s (payload s i)) :=
  State.slotCommand_delivers (rule := fun s i => .ok s (payload s i)) fun _ => .refl s

theorem execStart_delivers {args : List Byte} {s t : State} (h : execStart args s = .next t) : s.Delivers t := by
  cases h
  refine State.command_delivers ?_
  split
  · split
    · unfold State.startRun
      dsimp only
      split_ifs
      · trivial
      · exact .refl s
      · trivial
    · trivial
  · trivial

theorem execGrade_delivers {args : List Byte} {s t : State} (h : execGrade args s = .next t) : s.Delivers t := by
  cases h
  refine State.slotCommand_delivers fun i => ?_
  split_ifs
  · trivial
  · exact .refl s
  · trivial

theorem execWindowWrite_delivers {args : List Byte} {s t : State} (h : execWindowWrite args s = .next t) : s.Delivers t := by
  have hreplace (n : Fin 16) (w : Window) : s.Delivers (s.replaceWindow n w) :=
    State.Delivers.forSlots (t := { s with windows := s.windows.set n w }) (.refl s) fun u i hu => by split <;> simp [hu]
  cases h
  refine State.command_delivers ?_
  split
  · split
    · trivial
    · split
      · split
        · exact hreplace _ _
        · trivial
      · trivial
  · trivial

theorem execWindowRead_delivers {args : List Byte} {s t : State} (h : execWindowRead args s = .next t) : s.Delivers t := by
  cases h
  refine State.command_delivers ?_
  split
  · split <;> simp
  · trivial

theorem execTableWrite_delivers {args : List Byte} {s t : State} (h : execTableWrite args s = .next t) : s.Delivers t := by
  cases h
  refine State.command_delivers ?_
  split
  · split_ifs
    · exact .refl s
    all_goals trivial
  · trivial

theorem execDefectRead_delivers {args : List Byte} {s t : State} (h : execDefectRead args s = .next t) : s.Delivers t := by
  cases h
  refine State.command_delivers ?_
  split
  · split
    · split <;> simp
    · trivial
  · trivial

theorem execStatus_delivers {args : List Byte} {s t : State} (h : execStatus args s = .next t) : s.Delivers t := by
  cases h
  split
  · exact .refl s
  · unfold plainCommand
    split <;> exact .refl s

/-! ## Presence, the chamber line, the soak, grading and the sort port -/

theorem execDebounceEnd_delivers {i : SlotId} {s t : State} (h : execDebounceEnd i s = .next t) : s.Delivers t := by
  have hremoved (u : State) (hu : s.Delivers u) : s.Delivers (u.removed i) := by
    unfold State.removed
    split
    case h_1 => exact hu
    case h_2 => exact hu
    case h_3 => split <;> simp [hu]
    all_goals simp [hu]
  cases h
  split
  · unfold State.debounced
    dsimp only
    split <;> simp [hremoved]
  · exact .refl s

theorem State.Delivers.takeEvent {s t : State} (h : s.Delivers t) (event : LineEvent) : s.Delivers (t.takeEvent event) := by
  cases event with
  | byte b =>
    show s.Delivers (t.takeByte b)
    unfold State.takeByte
    split
    · split <;> exact h
    · split
      · exact h
      · exact State.Delivers.forSlots (t := t.modChamber _) h fun u i hu => by
          unfold State.checkThermal State.applyHold; split <;> simp [hu]
  | error =>
    show s.Delivers t.takeError
    unfold State.takeError
    split <;> exact h
  | lineBreak => exact h
  | markAfterBreak => exact h

theorem execChamberByte_delivers {levels : List Bool} {s t : State} (h : execChamberByte levels s = .next t) : s.Delivers t := by
  cases h
  exact State.hearLine_induct (P := s.Delivers) (fun _ _ hu => hu) (fun u event hu => hu.takeEvent event) s levels (.refl s)

theorem execChamberCharacterError_delivers {s t : State} (h : execChamberCharacterError s = .next t) : s.Delivers t := by
  cases h
  split
  · split
    · exact .refl s
    · exact State.Delivers.takeEvent (t := s.modChamber _) (.refl s) .error
  · exact .refl s

theorem execSoakTick_delivers {s t : State} (h : execSoakTick s = .next t) : s.Delivers t := by
  cases h
  split
  · have hslots : s.Delivers (s.forSlots State.soakSlot) := (State.Delivers.refl s).forSlots fun u i hu => by
      unfold State.soakSlot
      split
      case h_1 => exact hu
      case h_2 => dsimp only; split <;> exact hu
      all_goals exact hu
    unfold State.soakAll
    generalize s.forSlots State.soakSlot = u at hslots
    exact hslots
  · exact .refl s

theorem execGradeCompletion_delivers {s t : State} (h : execGradeCompletion s = .next t) : s.Delivers t := by
  unfold execGradeCompletion at h
  split at h <;> cases h
  · exact .refl s
  · unfold State.completeGrade
    dsimp only
    split <;> exact .refl s

/-! ## Every command -/

/-- The commands that do more to the capture unit or the loader than deliver events. -/
def setsCapture : Instr → Prop
  | .chipReset => True
  | .chipResetRelease _ => True
  | .softReset _ => True
  | .profileReady _ => True
  | .profileReload _ => True
  | .profileSet _ => True
  | .captureSet _ => True
  | .captureOpen _ => True
  | .captureClose _ => True
  | _ => False

/-- Every other command or event delivers events. -/
theorem exec_delivers {c : Instr} {s t : State} (h : exec c s = .next t) (hc : ¬setsCapture c) : s.Delivers t := by
  cases c with
  | chipReset | chipResetRelease | softReset | profileReady | profileReload | profileSet | captureSet | captureOpen | captureClose =>
    exact absurd trivial hc
  | unknownCommand code args => cases h; exact State.command_delivers trivial
  | status args => exact execStatus_delivers h
  | slotStatus args => cases h; exact s.slotQuery_delivers args State.slotStatusPayload
  | slotCounters args => cases h; exact s.slotQuery_delivers args (fun s i => (s.slot i).countersPayload)
  | histogram args => cases h; exact s.slotQuery_delivers args State.histogramPayload
  | defectRead args => exact execDefectRead_delivers h
  | start args => exact execStart_delivers h
  | advancePass args => cases h; exact State.slotCommand_delivers fun i => by split_ifs <;> simp
  | endBurn args => cases h; exact s.phaseChange_delivers args Phase.endBurn
  | pause args => cases h; exact s.phaseChange_delivers args Phase.pause
  | resume args => cases h; exact s.phaseChange_delivers args Phase.resume
  | grade args => exact execGrade_delivers h
  | ship args => cases h; exact State.slotCommand_delivers fun i => by split_ifs <;> simp
  | sealSlot args => cases h; exact State.slotCommand_delivers fun i => by split_ifs <;> simp
  | release args => cases h; exact State.slotCommand_delivers fun i => by split <;> simp
  | clearSlot args =>
    cases h; exact State.slotCommand_delivers (rule := fun s i => .ok (s.slotClear i) []) fun i => by simp
  | windowWrite args => exact execWindowWrite_delivers h
  | windowRead args => exact execWindowRead_delivers h
  | tableWrite args => exact execTableWrite_delivers h
  | captureRead args => cases h; exact State.plainCommand_delivers (by split <;> simp)
  | alertRead args => cases h; exact State.plainCommand_delivers (.refl s)
  | alertAck args => cases h; exact State.command_delivers (by split; exact .refl s; trivial)
  | alertMask args => cases h; exact State.command_delivers (by split; exact .refl s; trivial)
  | sortResume args => cases h; exact State.plainCommand_delivers (by split <;> simp)
  | rawPresenceChange i level => cases h; split; exact .refl s; split <;> exact .refl s
  | debounceEnd i => exact execDebounceEnd_delivers h
  | commandFrame i f => exact execCommandFrame_delivers h
  | pendingStatusSend i => cases h; exact .refl s
  | dataSetupNotice i n => exact execDataSetupNotice_delivers h
  | dataFrame i f => exact execDataFrame_delivers h
  | successStatus i st => exact execSuccessStatus_delivers h
  | errorStatus i r => exact execErrorStatus_delivers h
  | commandTimeout i e => exact execCommandTimeout_delivers h
  | driveLinkReset i => exact execDriveLinkReset_delivers h
  | soakTick => exact execSoakTick_delivers h
  | chamberByte levels => exact execChamberByte_delivers h
  | chamberCharacterError => exact execChamberCharacterError_delivers h
  | chamberBreak => cases h; split <;> exact .refl s
  | lineBreakClear => cases h; split <;> exact .refl s
  | staleTimerExpiry => cases h; split <;> exact .refl s
  | gradeTake => change execGradeTake s = _ at h; unfold execGradeTake at h; split at h <;> cases h <;> exact .refl s
  | gradeCompletion => exact execGradeCompletion_delivers h
  | takeAsserted => change execTakeAsserted s = _ at h; unfold execTakeAsserted at h; split at h <;> cases h <;> exact .refl s
  | takeDeasserted => cases h; exact .refl s
  | faultAsserted => cases h; split <;> exact .refl s
  | faultDeasserted => cases h; exact .refl s
  | busyAsserted => cases h; exact .refl s
  | busyDeasserted => cases h; exact .refl s
  | offerTimerExpiry => cases h; split <;> exact .refl s

end Sys2Proof.Machine
end

section
/-!
The capture invariant (R88, R92, R93, R95, R97, R99, R101): a staged event aims at the locked record, a locked record is unread, and a
load that follows a reset finds neither.
-/
namespace Sys2Proof.Machine

/-! ## The capture unit -/

/-- A staged event aims at the locked record, and a locked record is unread (R88). -/
structure CaptureUnit.Sound (u : CaptureUnit) : Prop where
  aimed : ∀ st, u.staging = some st → u.locked = some st.aim
  unread : ∀ n, u.locked = some n → u.records[n].state.isUnread = true

namespace CaptureUnit.Sound

variable {u : CaptureUnit}

theorem of_unlocked (hlocked : u.locked = none) (hstaging : u.staging = none) : u.Sound where
  aimed := fun st h => by rw [hstaging] at h; cases h
  unread := fun n h => by rw [hlocked] at h; cases h

theorem staging_eq_none (h : u.Sound) (hlocked : u.locked = none) : u.staging = none := by
  cases hs : u.staging with
  | none => rfl
  | some st => rw [h.aimed st hs] at hlocked; cases hlocked

/-- An unread state written into a record. -/
theorem setRecord (h : u.Sound) (n : Fin 16) {r : CaptureRecord} (hr : r.state.isUnread = true) : (u.setRecord n r).Sound where
  aimed := h.aimed
  unread m hm := by
    simp only [CaptureUnit.setRecord, Fin.getElem_fin, Vector.getElem_set]
    split
    · exact hr
    · exact h.unread m hm

theorem staged (h : u.Sound) (e : CaptureEvent) {n : Fin 16} (hn : u.locked = some n) : (u.staged e n).1.Sound := by
  unfold CaptureUnit.staged
  split <;> exact ⟨fun st hst => by cases hst; exact hn, h.unread⟩

end CaptureUnit.Sound

/-- A delivery writes an unread state, or stages for the locked record, or counts the event unmatched (R91 to R94). -/
theorem CaptureUnit.deliver_steps (u : CaptureUnit) (e : CaptureEvent) :
    (∃ n st, st.isUnread = true ∧ u.deliver e = (u.setRecord n (u.records[n].written st), some .captureNew)) ∨
      (∃ n, u.locked = some n ∧ u.deliver e = u.staged e n) ∨
      u.deliver e = ({ u with unmatched := inc16 u.unmatched }, some .unmatched) := by
  cases hfree : u.lowest (fun _ r => r.accepts e && r.state.isFree) with
  | some n =>
    obtain ⟨hn, hbelow⟩ := CaptureUnit.lowest_free_eq_some.mp hfree
    exact .inl ⟨n, .full e, rfl, CaptureUnit.deliver_of_free hn hbelow⟩
  | none =>
    have hfree := CaptureUnit.lowest_free_eq_none.mp hfree
    cases hunlocked : u.lowest (fun n r => r.accepts e && r.state.isUnread && u.locked != some n) with
    | some n =>
      obtain ⟨hn, hbelow⟩ := CaptureUnit.lowest_unlocked_eq_some.mp hunlocked
      exact .inl ⟨n, .overwritten e, rfl, CaptureUnit.deliver_of_unlocked hfree hn hbelow⟩
    | none =>
      have hunlocked := CaptureUnit.lowest_unlocked_eq_none.mp hunlocked
      by_cases hmatch : ∃ n : Fin 16, u.records[n].accepts e = true
      · obtain ⟨n, hn⟩ := hmatch
        exact .inr (.inl ⟨n, u.locked_of_accepts hn (hfree n) (hunlocked n), CaptureUnit.deliver_of_locked hfree hunlocked hn⟩)
      · exact .inr (.inr (CaptureUnit.deliver_of_unmatched (not_exists.mp hmatch)))

/-- No delivery locks a record or releases a lock. -/
@[simp] theorem CaptureUnit.deliver_locked (u : CaptureUnit) (e : CaptureEvent) : (u.deliver e).1.locked = u.locked := by
  obtain ⟨n, st, -, h⟩ | ⟨n, -, h⟩ | h := u.deliver_steps e <;> rw [h]
  · rfl
  · unfold CaptureUnit.staged
    split <;> rfl

theorem CaptureUnit.deliverAll_locked (u : CaptureUnit) (events : List CaptureEvent) : (u.deliverAll events).locked = u.locked :=
  List.foldlRecOn events _ (motive := fun v => v.locked = u.locked) rfl fun (v : CaptureUnit) hv e _ => (v.deliver_locked e).trans hv

namespace CaptureUnit.Sound

variable {u : CaptureUnit}

theorem deliver (h : u.Sound) (e : CaptureEvent) : (u.deliver e).1.Sound := by
  obtain ⟨n, st, hst, hd⟩ | ⟨n, hn, hd⟩ | hd := u.deliver_steps e <;> rw [hd]
  · exact h.setRecord n hst
  · exact h.staged e hn
  · exact ⟨h.aimed, h.unread⟩

theorem deliverAll (h : u.Sound) (events : List CaptureEvent) : (u.deliverAll events).Sound :=
  List.foldlRecOn events _ h fun _ hv e _ => hv.deliver e

/-- The release of the lock leaves neither a lock nor a staged event (R97). -/
theorem releaseLock (h : u.Sound) : u.releaseLock.1.locked = none ∧ u.releaseLock.1.staging = none := by
  obtain ⟨hlocked, hr⟩ | ⟨n, st, -, -, -, hr⟩ | ⟨n, hlocked, hother, hr⟩ := u.releaseLock_cases <;> rw [hr]
  · exact ⟨hlocked, h.staging_eq_none hlocked⟩
  · exact ⟨rfl, rfl⟩
  · refine ⟨rfl, Option.eq_none_iff_forall_ne_some.mpr fun st hst => hother st hst ?_⟩
    exact Option.some.inj ((h.aimed st hst).symm.trans hlocked)

theorem closed (h : u.Sound) : u.closed.1.Sound := by
  obtain ⟨hlocked, hstaging⟩ := h.releaseLock
  exact .of_unlocked hlocked hstaging

/-- A record opened: the staged event, if any, aims at it. -/
theorem openedOn {v : CaptureUnit} {n : Fin 16} (h : v.staging = none ∨ v.Sound ∧ v.locked = some n) : (v.openedOn n).Sound where
  aimed st hst := by
    obtain hnone | ⟨hv, hn⟩ := h
    · exact absurd (hnone.symm.trans hst) nofun
    · exact (if_pos (hv.unread n hn)).trans (hn.symm.trans (hv.aimed st hst))
  unread m hm := by
    obtain ⟨hunread, heq⟩ := Option.ite_none_right_eq_some.mp hm
    cases heq
    exact hunread

theorem opened (h : u.Sound) (n : Fin 16) : (u.opened n).1.Sound := by
  obtain ⟨-, hstaging⟩ := h.releaseLock
  by_cases hn : u.locked = some n
  · rw [CaptureUnit.opened, if_pos hn]
    exact openedOn (.inr ⟨h, hn⟩)
  · rw [CaptureUnit.opened, if_neg hn]
    exact openedOn (.inl hstaging)

theorem filterSet (h : u.Sound) (n : Fin 16) (slotMask : BitVec 8) (kindMask : BitVec 6) :
    (u.filterSet n slotMask kindMask).1.Sound := by
  rw [u.filterSet_eq]
  constructor
  · intro st hst
    obtain ⟨hstaging, hne⟩ := Option.filter_eq_some_iff.mp hst
    exact Option.filter_eq_some_iff.mpr ⟨h.aimed st hstaging, hne⟩
  · intro m hm
    obtain ⟨hlocked, hne⟩ := Option.filter_eq_some_iff.mp hm
    have hval : n.val ≠ m.val := fun heq => of_decide_eq_true hne (Fin.ext heq.symm)
    simp only [Fin.getElem_fin, Vector.getElem_set_ne n.isLt m.isLt hval]
    exact h.unread m hlocked

end CaptureUnit.Sound

/-! ## The invariant -/

theorem State.captureSafe_iff (s : State) : s.captureSafe ↔
    s.capture.Sound ∧ ∀ t, s.loader = .loading .afterReset t → s.capture.locked = none := by
  constructor
  · rintro ⟨haimed, hunread, hload⟩
    exact ⟨⟨haimed, hunread⟩, fun t ht => (hload t ht).1⟩
  · rintro ⟨hsound, hload⟩
    exact ⟨hsound.aimed, hsound.unread, fun t ht => ⟨hload t ht, hsound.staging_eq_none (hload t ht)⟩⟩

namespace State.captureSafe

variable {s t : State}

theorem sound (hs : s.captureSafe) : s.capture.Sound := (s.captureSafe_iff.mp hs).1

/-- Outside a load that follows a reset, a sound unit is enough. -/
theorem of_sound (hload : ∀ began, t.loader ≠ .loading .afterReset began) (h : t.capture.Sound) : t.captureSafe :=
  t.captureSafe_iff.mpr ⟨h, fun began hb => absurd hb (hload began)⟩

theorem delivers (hs : s.captureSafe) (h : s.Delivers t) : t.captureSafe := by
  obtain ⟨hsound, hload⟩ := s.captureSafe_iff.mp hs
  obtain ⟨hloader, events, hevents⟩ := h
  rw [State.captureSafe_iff, hloader, hevents, CaptureUnit.deliverAll_locked]
  exact ⟨hsound.deliverAll events, hload⟩

/-- A reset leaves the capture unit empty (R101). -/
theorem of_initial (h : t.capture = CaptureUnit.initial) : t.captureSafe := by
  rw [State.captureSafe_iff, h]
  exact ⟨.of_unlocked rfl rfl, fun _ _ => rfl⟩

theorem putCapture (hload : s.loader = .ready) {u : CaptureUnit × Option AlertFlag} (hu : u.1.Sound) : (s.putCapture u).captureSafe :=
  .of_sound (by simp [hload]) (by simpa using hu)

end State.captureSafe

/-- The effects of an answer, where it has any, are safe. -/
def Answer.CaptureSafe : Answer → Prop
  | .ok t _ => t.captureSafe
  | .no _ => True

theorem State.captureSafe.command {s : State} (hs : s.captureSafe) {rule : State → Answer}
    (h : s.loader = .ready → (rule s).CaptureSafe) : (s.command rule).captureSafe := by
  obtain ⟨-, hc⟩ | ⟨-, -, hc⟩ | ⟨-, hload, t, p, hr, hc⟩ | ⟨-, -, st, -, hc⟩ := s.command_cases rule <;> rw [hc]
  · exact hs
  · exact hs
  · have hrule := h hload
    rw [hr] at hrule
    exact hrule
  · exact hs

theorem State.captureSafe.plainCommand {s : State} (hs : s.captureSafe) {args : List Byte} {answer : State → Answer}
    (h : s.loader = .ready → (answer s).CaptureSafe) : (s.command fun s => plainCommand args (answer s)).captureSafe := by
  refine hs.command fun hload => ?_
  unfold Machine.plainCommand
  split
  · exact h hload
  · trivial

/-! ## The commands that set the unit or the loader -/

theorem execCaptureSet_captureSafe {args : List Byte} {s t : State} (hs : s.captureSafe) (h : execCaptureSet args s = .next t) :
    t.captureSafe := by
  cases h
  refine hs.command fun hload => ?_
  split
  · split
    · split
      · exact .putCapture hload (hs.sound.filterSet _ _ _)
      · trivial
    · trivial
  · trivial

theorem execCaptureOpen_captureSafe {args : List Byte} {s t : State} (hs : s.captureSafe) (h : execCaptureOpen args s = .next t) :
    t.captureSafe := by
  cases h
  refine hs.command fun hload => ?_
  split
  · split
    · exact .putCapture hload (hs.sound.opened _)
    · trivial
  · trivial

theorem execCaptureClose_captureSafe {args : List Byte} {s t : State} (hs : s.captureSafe) (h : execCaptureClose args s = .next t) :
    t.captureSafe := by
  cases h
  exact hs.plainCommand fun hload => .putCapture hload hs.sound.closed

theorem execSoftReset_captureSafe {args : List Byte} {s t : State} (hs : s.captureSafe) (h : execSoftReset args s = .next t) :
    t.captureSafe := by
  cases h
  exact hs.plainCommand fun _ => .of_initial rfl

theorem execProfileReload_captureSafe {args : List Byte} {s t : State} (hs : s.captureSafe)
    (h : execProfileReload args s = .next t) : t.captureSafe := by
  cases h
  refine hs.plainCommand fun _ => ?_
  split
  · exact .of_sound nofun hs.sound
  · trivial

/-- A load stores its filters where it follows a reset, and then finds no lock and no staged event (R101, R167). -/
theorem execProfileReady_captureSafe {eeprom : Option (List Byte)} {s t : State} (hs : s.captureSafe)
    (h : execProfileReady eeprom s = .next t) : t.captureSafe := by
  rw [← Host.Outcome.next.inj h]
  split
  · exact hs
  · rename_i kind began hload
    split
    · exact hs
    · rw [State.profileLoaded_eq (Prod.mk.eta ..).symm]
      refine .of_sound nofun ?_
      cases kind with
      | reload => exact hs.sound
      | afterReset =>
        obtain ⟨-, -, hfresh⟩ := hs
        obtain ⟨hlocked, hstaging⟩ := hfresh began hload
        exact .of_unlocked hlocked hstaging

/-- A lowered command timeout delivers the TIMEOUT events of the entries it reaches; the other items deliver none (R37, R168). -/
theorem State.itemTakesEffect_delivers (s : State) (code old : Nat) : s.Delivers (s.itemTakesEffect code old) := by
  unfold State.itemTakesEffect State.timeoutsLowered
  split_ifs
  · exact (State.Delivers.refl s).forSlots fun u i hu => hu.expireSlot i
  all_goals exact .refl s

theorem execProfileSet_captureSafe {args : List Byte} {s t : State} (hs : s.captureSafe) (h : execProfileSet args s = .next t) :
    t.captureSafe := by
  cases h
  refine hs.command fun hload => ?_
  split
  · unfold State.setProfile
    split_ifs
    · trivial
    · exact hs
    · exact .putCapture hload (hs.sound.filterSet _ _ _)
    · split
      · rename_i p _
        have hprofile : State.captureSafe { s with profile := p } := hs
        exact hprofile.delivers (State.itemTakesEffect_delivers _ _ _)
      · trivial
  · trivial

theorem exec_captureSafe {c : Instr} {s t : State} (hs : s.captureSafe) (h : exec c s = .next t) : t.captureSafe := by
  cases c with
  | chipReset => cases h; exact .of_initial rfl
  | chipResetRelease straps => cases h; exact .of_initial rfl
  | softReset args => exact execSoftReset_captureSafe hs h
  | profileReady eeprom => exact execProfileReady_captureSafe hs h
  | profileReload args => exact execProfileReload_captureSafe hs h
  | profileSet args => exact execProfileSet_captureSafe hs h
  | captureSet args => exact execCaptureSet_captureSafe hs h
  | captureOpen args => exact execCaptureOpen_captureSafe hs h
  | captureClose args => exact execCaptureClose_captureSafe hs h
  | _ => exact hs.delivers (exec_delivers h not_false)

/-- Settles O56: a delivery stages for the locked record alone, a release takes the staged event with the lock, and no other command but
a reset, a load or a filter reaches either. -/
theorem captureInvariant : Obligations.CaptureInvariant := by
  intro s t hs h
  unfold step at h
  split at h
  · refine exec_captureSafe ?_ h
    exact hs
  · split at h
    · rename_i c u ho
      obtain ⟨d, -, hd⟩ := Option.map_eq_some_iff.mp ho
      cases hd
      refine exec_captureSafe ?_ h
      exact hs
    · cases h
      unfold State.tick
      split <;> exact hs

end Sys2Proof.Machine
end

section
/-!
Character errors, breaks and the stale timer of the chamber line (R104, R105, R107, R110).
-/
namespace Sys2Proof.Machine

/-! ## A line at space (R105) -/

/-- A held-back character at the line's return to mark is an error (R105). -/
theorem LineReceiver.run_heldBack_mark (n : Nat) (solid : Bool) :
    (LineReceiver.heldBack n solid).run [true] = (.waiting true, [.error]) := rfl

theorem lineLevels_replicate (n : Nat) (x : Bool) : lineLevels (List.replicate n x) = List.replicate (n * 16) x := by
  rw [lineLevels, List.flatMap_replicate, List.flatten_replicate_replicate]

/-- Ten bits at space from a line at mark, up to the middle of the stop bit: the character is held back (R105). -/
theorem LineReceiver.run_space_held :
    (LineReceiver.waiting true).run (List.replicate 169 false) = (.heldBack 168 true, []) := by
  have hcut : List.replicate 169 false = List.replicate 16 false ++
      (lineLevels (List.replicate 9 false) ++ (List.replicate 8 false ++ [false])) := by
    rw [lineLevels_replicate, ← List.replicate_succ', ← List.replicate_add, ← List.replicate_add]
  have hbits : (LineReceiver.character 15 [] true).run (lineLevels (List.replicate 9 false)) =
      (.character 159 (List.replicate 9 false) true, []) := LineReceiver.run_bits _ 0 [] true le_rfl
  rw [hcut, LineReceiver.run_append_of_quiet LineReceiver.run_start, LineReceiver.run_append_of_quiet hbits,
    LineReceiver.run_append_of_quiet (LineReceiver.run_between 8 159 _ _ false fun n hn hm => by omega)]
  rfl

/-- A held-back character stays so while the line is at space short of 22 bit times (R105). -/
theorem LineReceiver.run_heldBack_space (m n : Nat) (h : n + m < breakPeriods) :
    (LineReceiver.heldBack n true).run (List.replicate m false) = (.heldBack (n + m) true, []) := by
  induction m generalizing n with
  | zero => rfl
  | succ m ih =>
    have hnotYet : n + 1 ≠ breakPeriods := by omega
    rw [List.replicate_succ, LineReceiver.run_cons_of_quiet (q := .heldBack (n + 1) true) (by simp [LineReceiver.sample, hnotYet]),
      ih (n + 1) (by omega), Nat.add_right_comm, Nat.add_assoc]

/-- Space from a line at mark, up to 22 bit times after the leading edge: the character is held back (R105). -/
theorem LineReceiver.run_space (k : Nat) (hk : 169 ≤ k) (hbreak : k ≤ 352) :
    (LineReceiver.waiting true).run (List.replicate k false) = (.heldBack (k - 1) true, []) := by
  obtain ⟨m, rfl⟩ := Nat.exists_eq_add_of_le hk
  rw [List.replicate_add, LineReceiver.run_append_of_quiet LineReceiver.run_space_held,
    LineReceiver.run_heldBack_space m 168 (by simp only [breakPeriods, samplesPerBit]; omega)]
  congr 2
  omega

/-- Space through 22 bit times is a break (R105). -/
theorem LineReceiver.run_space_break :
    (LineReceiver.waiting true).run (List.replicate 353 false) = (.inBreak, [.lineBreak]) := by
  rw [show List.replicate 353 false = List.replicate 352 false ++ [false] from List.replicate_succ',
    LineReceiver.run_append_of_quiet (LineReceiver.run_space 352 (by omega) le_rfl)]
  rfl

/-! ## What the frame receiver takes of an error (R107) -/

/-- The chamber unit with an error counted, whatever the receiver. -/
def Chamber.errorCounted (c : Chamber) (r : LineReceiver) : Chamber :=
  { c with receiver := r, lineErrors := min (c.lineErrors + 1) 65535 }

/-- In HUNT an error is counted (R107). -/
theorem State.takeError_hunt {s : State} (h : s.chamber.frame = none) (r : LineReceiver) :
    (s.withReceiver r).takeError = { s with chamber := s.chamber.errorCounted r } := by
  unfold State.takeError
  rw [s.frame_withReceiver, h]
  rfl

/-- In a frame an error is counted, discards the frame and sets CHAMBER_LINE (R107). -/
theorem State.takeError_frame {s : State} {f : FrameInProgress} (h : s.chamber.frame = some f) (r : LineReceiver) :
    (s.withReceiver r).takeError =
      { s with chamber := { s.chamber.errorCounted r with frame := none }, alerts := s.alerts ||| (1#17 <<< 4) } := by
  unfold State.takeError
  rw [s.frame_withReceiver, h]
  rfl

/-! ## The rows of the line -/

/-- CHAMBER_CHARACTER_ERROR outside reset and load (R104, R107). -/
theorem exec_chamberCharacterError {s : State} {r : LineReceiver} (h : s.ready) (hr : s.chamber.receiver.afterError = some r) :
    exec .chamberCharacterError s = .next (s.withReceiver r).takeError := by
  show execChamberCharacterError s = _
  unfold execChamberCharacterError
  rw [if_pos ((State.receiving_iff s).mpr h), hr]
  rfl

theorem exec_chamberCharacterError_inBreak {s : State} (h : s.ready) (hr : s.chamber.receiver = .inBreak) :
    exec .chamberCharacterError s = .next s := by
  show execChamberCharacterError s = _
  unfold execChamberCharacterError
  rw [if_pos ((State.receiving_iff s).mpr h), hr]
  rfl

/-- CHAMBER_BREAK: a break is taken where the line may go on to one (R105). -/
theorem exec_chamberBreak (s : State) : exec .chamberBreak s = .next
    (if s.receiving && s.chamber.receiver.mayBreak then (s.withReceiver .inBreak).takeBreak else s) := rfl

/-- The line may go on to a break: it is not in one, and was not at mark since the leading edge (R105). -/
theorem LineReceiver.mayBreak_iff (r : LineReceiver) : r.mayBreak = true ↔
    r ≠ .inBreak ∧ (∀ n bits, r ≠ .character n bits false) ∧ ∀ n, r ≠ .heldBack n false := by
  cases r <;> simp [LineReceiver.mayBreak]

/-- LINE_BREAK_CLEAR: LINE_BREAK is cleared by a line at mark (R105). -/
theorem exec_lineBreakClear (s : State) : exec .lineBreakClear s = .next
    (if s.inReset = false ∧ s.chamber.receiver = .inBreak then s.withReceiver (.waiting true) else s) := by
  have hset : (!s.inReset && s.chamber.lineBreak) = true ↔ s.inReset = false ∧ s.chamber.receiver = .inBreak := by
    simp [Chamber.lineBreak]
  show execLineBreakClear s = _
  unfold execLineBreakClear
  by_cases h : s.inReset = false ∧ s.chamber.receiver = .inBreak
  · have hr : s.chamber.receiver = .inBreak := h.2
    rw [if_pos (hset.mpr h), if_pos h, State.modChamber, hr]
    rfl
  · rw [if_neg (hset.not.mpr h), if_neg h]

/-- STALE_TIMER_EXPIRY of a timer at its timeout (R110). -/
theorem exec_staleTimerExpiry_due {s : State} (h : s.staleDue = true) : exec .staleTimerExpiry s = .next { s with
    chamber := { s.chamber with staleTimer := none, fresh := false }, alerts := s.alerts ||| (1#17 <<< 3) } :=
  congrArg Host.Outcome.next (if_pos h)

theorem exec_staleTimerExpiry_early {s : State} (h : s.staleDue = false) : exec .staleTimerExpiry s = .next s :=
  congrArg Host.Outcome.next (if_neg (Bool.eq_false_iff.mp h))

/-! ## The settled statement -/

/-- Settles O46: runs of space by the count of sample periods; each row by what it takes of the line. -/
theorem errorsBreaksAndStaleness : Obligations.ErrorsBreaksAndStaleness := by
  refine ⟨⟨LineReceiver.run_heldBack_mark, fun s hs => ?_⟩, LineReceiver.run_space_break, LineReceiver.run_space,
    fun n => LineReceiver.run_replicate_fixed rfl, LineReceiver.run_replicate_fixed rfl, rfl,
    fun s => ⟨fun hs hr hspace => ?_, fun h => ?_, fun levels hs hx => ?_, fun hr hb => ?_, fun h => ?_, fun began hr ht => ?_,
      fun ht => exec_staleTimerExpiry_early ?_⟩⟩
  · intro taken
    have taken_of (r : LineReceiver) {c : Host.Outcome State Fault Refusal} (hc : c = .next (s.withReceiver r).takeError) : taken r c :=
      ⟨fun hf => hc.trans (congrArg _ (State.takeError_hunt hf r)), fun f hf => hc.trans (congrArg _ (State.takeError_frame hf r))⟩
    refine ⟨exec_chamberCharacterError_inBreak hs, fun hb => taken_of _ (exec_chamberCharacterError hs ?_),
      fun levels hx => taken_of _ (congrArg _ (State.hearLine_event hs hx))⟩
    cases hr : s.chamber.receiver with
    | inBreak => exact absurd hr hb
    | _ => rfl
  · have hbreak : (s.receiving && s.chamber.receiver.mayBreak) = true :=
      Bool.and_eq_true_iff.mpr ⟨(State.receiving_iff s).mpr hs, (LineReceiver.mayBreak_iff _).mpr ⟨hr, hspace⟩⟩
    rw [exec_chamberBreak, if_pos hbreak]
    rfl
  · have hnoBreak : ¬(s.receiving && s.chamber.receiver.mayBreak) = true := fun hboth => by
      obtain ⟨hr, hspace⟩ := (LineReceiver.mayBreak_iff _).mp (Bool.and_eq_true_iff.mp hboth).2
      exact h.elim hr (· hspace)
    rw [exec_chamberBreak, if_neg hnoBreak]
  · exact congrArg Host.Outcome.next (State.hearLine_event hs hx)
  · rw [exec_lineBreakClear, if_pos ⟨hr, hb⟩]
    rfl
  · have hkept : ¬(s.inReset = false ∧ s.chamber.receiver = .inBreak) := fun ⟨hr, hb⟩ =>
      h.elim (fun hreset => Bool.false_ne_true (hr.symm.trans hreset)) (· hb)
    rw [exec_lineBreakClear, if_neg hkept]
  · refine ⟨fun hdue => exec_staleTimerExpiry_due ((State.staleDue_iff hr).mpr ⟨began, ht, hdue⟩), fun hearly =>
      exec_staleTimerExpiry_early (Bool.eq_false_iff.mpr fun hdue => ?_)⟩
    obtain ⟨since, hsince, hle⟩ := (State.staleDue_iff hr).mp hdue
    cases ht.symm.trans hsince
    exact Nat.not_lt.mpr hle hearly
  · rw [State.staleDue, ht]

end Sys2Proof.Machine
end

section
/-!
The soak factor of a reading (R114): one segment of the knot table, the walk along the table, and the table of a profile.
-/
namespace Sys2Proof.Machine

/-! ## One segment -/

/-- The change of the factor within a segment is toward its far end, and no further (R114). -/
theorem tdiv_segment {a b : Int} (ha : 0 ≤ a) (hab : a < b) (d : Int) :
    min 0 d ≤ Int.tdiv (d * a) b ∧ Int.tdiv (d * a) b ≤ max 0 d := by
  have hb : 0 < b := ha.trans_lt hab
  have within {e : Int} (he : 0 ≤ e) : 0 ≤ Int.tdiv (e * a) b ∧ Int.tdiv (e * a) b ≤ e := by
    rw [Int.tdiv_eq_ediv_of_nonneg (mul_nonneg he ha)]
    exact ⟨Int.ediv_nonneg (mul_nonneg he ha) hb.le, Int.ediv_le_of_le_mul hb (mul_le_mul_of_nonneg_left hab.le he)⟩
  obtain hd | hd := le_total 0 d
  · obtain ⟨hlow, hhigh⟩ := within hd
    exact ⟨(min_le_left 0 d).trans hlow, hhigh.trans (le_max_right 0 d)⟩
  · obtain ⟨hlow, hhigh⟩ := within (Int.neg_nonneg_of_nonpos hd)
    rw [neg_mul, Int.neg_tdiv] at hlow hhigh
    exact ⟨(min_le_right 0 d).trans (neg_le_neg_iff.mp hhigh), (neg_nonneg.mp hlow).trans (le_max_left 0 d)⟩

/-- The quotient is added exactly, since the sum is never negative (R114). -/
theorem interpolate_eq {k0 k1 h : Nat} (h0 : k0 ≤ h) (h1 : h < k1) (f0 f1 : Nat) :
    (interpolate k0 k1 f0 f1 h : Int) = f0 + Int.tdiv (((f1 : Int) - f0) * ((h : Int) - k0)) ((k1 : Int) - k0) := by
  have hlow := (tdiv_segment (a := (h : Int) - k0) (b := (k1 : Int) - k0) (by omega) (by omega) ((f1 : Int) - f0)).1
  exact Int.toNat_of_nonneg (by omega)

/-- Within a segment the factor lies between those of its ends (R114). -/
theorem interpolate_between {k0 k1 h : Nat} (h0 : k0 ≤ h) (h1 : h < k1) (f0 f1 : Nat) :
    min f0 f1 ≤ interpolate k0 k1 f0 f1 h ∧ interpolate k0 k1 f0 f1 h ≤ max f0 f1 := by
  have heq := interpolate_eq h0 h1 f0 f1
  have hbounds := tdiv_segment (a := (h : Int) - k0) (b := (k1 : Int) - k0) (by omega) (by omega) ((f1 : Int) - f0)
  omega

@[simp] theorem interpolate_start (k0 k1 f0 f1 : Nat) : interpolate k0 k1 f0 f1 k0 = f0 := by simp [interpolate]

/-! ## The walk along the knots -/

/-- Knots at or below the reading are passed, but for the last of them. -/
theorem factorFrom_drop {h : Nat} : ∀ (l : List (Nat × Nat)) (n : Nat) (hn : n < l.length),
    (∀ (m : Nat) (hm : m ≤ n), l[m].1 ≤ h) → factorFrom h l = factorFrom h (l.drop n)
  | _, 0, _, _ => by rw [List.drop_zero]
  | [_], n + 1, hn, _ => absurd hn (by simp)
  | (k0, f0) :: (k1, f1) :: rest, n + 1, hn, hle => by
    have hpassed : ¬h < k1 := Nat.not_lt.mpr (hle 1 (by omega))
    rw [factorFrom, if_neg hpassed, List.drop_succ_cons]
    exact factorFrom_drop _ n (Nat.lt_of_succ_lt_succ hn) fun m hm => hle (m + 1) (Nat.succ_le_succ hm)

/-- A factor of a table that starts at or below the reading is at most the largest of the table (R114). -/
theorem factorFrom_le {h top : Nat} : ∀ l : List (Nat × Nat),
    (∀ x ∈ l, x.2 ≤ top) → (∀ x ∈ l.head?, x.1 ≤ h) → factorFrom h l ≤ top
  | [], _, _ => Nat.zero_le _
  | [(_, f)], htop, _ => htop _ (List.mem_singleton_self _)
  | (k0, f0) :: (k1, f1) :: rest, htop, hstart => by
    rw [factorFrom]
    split
    · have hf0 : f0 ≤ top := htop (k0, f0) (by simp)
      have hf1 : f1 ≤ top := htop (k1, f1) (by simp)
      exact (interpolate_between (hstart (k0, f0) rfl) ‹h < k1› f0 f1).2.trans (max_le hf0 hf1)
    · rename_i hpassed
      refine factorFrom_le _ (fun x hx => htop x (List.mem_cons_of_mem _ hx)) fun x hx => ?_
      cases hx
      exact Nat.not_lt.mp hpassed

/-! ## The table of a profile (R113) -/

/-- The knots of a profile with their factors. -/
def Profile.table (p : Profile) : List (Nat × Nat) := p.knots.toList.zip p.factors.toList

theorem soakFactor_eq (p : Profile) (h : Nat) : soakFactor p h = if h < p.knots[0] then none else some (factorFrom h p.table) := rfl

@[simp] theorem Profile.table_length (p : Profile) : p.table.length = 9 := by simp [Profile.table]

theorem Profile.table_getElem (p : Profile) (n : Nat) (hn : n < 9) :
    p.table[n]'(by simpa using hn) = (p.knots[n], p.factors[n]) := by simp [Profile.table]

/-- Knots that rise from each to the next rise from each to every later one. -/
theorem Profile.knots_mono {p : Profile} (h : rising p.knots.toList = true) {m n : Nat} (hmn : m ≤ n) (hn : n < 9) :
    p.knots[m] ≤ p.knots[n] := by
  induction n, hmn using Nat.le_induction with
  | base => exact le_rfl
  | succ n hmn ih =>
    have hlt := (rising_iff _).mp h n (by rw [Vector.length_toList]; omega)
    simp only [Vector.getElem_toList] at hlt
    exact (ih (by omega)).trans (Nat.le_of_lt hlt)

/-- From a knot on, the factor is that of the rest of the table. -/
theorem soakFactor_from_knot {p : Profile} (hrise : rising p.knots.toList = true) {n h : Nat} (hn : n < 9) (hle : p.knots[n] ≤ h) :
    soakFactor p h = some (factorFrom h ((p.knots[n], p.factors[n]) :: p.table.drop (n + 1))) := by
  have hnotCold : ¬h < p.knots[0] := Nat.not_lt.mpr ((Profile.knots_mono hrise n.zero_le hn).trans hle)
  rw [soakFactor_eq, if_neg hnotCold, factorFrom_drop p.table n (by simpa using hn) fun m hm => ?_,
    List.drop_eq_getElem_cons (by simpa using hn), p.table_getElem n hn]
  rw [p.table_getElem m (by omega)]
  exact (Profile.knots_mono hrise hm hn).trans hle

/-- From the last knot on, the last factor (R114). -/
theorem soakFactor_above {p : Profile} (hrise : rising p.knots.toList = true) {h : Nat} (hle : p.knots[8] ≤ h) :
    soakFactor p h = some p.factors[8] := by
  rw [soakFactor_from_knot hrise (by omega) hle, List.drop_of_length_le (by simp)]
  rfl

/-- Within a segment, the interpolated factor (R114). -/
theorem soakFactor_segment {p : Profile} (hrise : rising p.knots.toList = true) {n h : Nat} (hn : n + 1 < 9) (hle : p.knots[n] ≤ h)
    (hlt : h < p.knots[n + 1]) :
    soakFactor p h = some (interpolate p.knots[n] p.knots[n + 1] p.factors[n] p.factors[n + 1] h) := by
  rw [soakFactor_from_knot hrise (by omega) hle, List.drop_eq_getElem_cons (by simpa using hn), p.table_getElem (n + 1) hn,
    factorFrom, if_pos hlt]

/-- At a knot, its factor (R114). -/
theorem soakFactor_knot {p : Profile} (hrise : rising p.knots.toList = true) {n : Nat} (hn : n < 9) :
    soakFactor p p.knots[n] = some p.factors[n] := by
  obtain rfl | hlast : n = 8 ∨ n + 1 < 9 := by omega
  · exact soakFactor_above hrise le_rfl
  · have hlt := (rising_iff _).mp hrise n (by rw [Vector.length_toList]; omega)
    rw [soakFactor_segment hrise hlast le_rfl (by simpa using hlt), interpolate_start]

/-- No factor is above the largest of the table (R114). -/
theorem soakFactor_le {p : Profile} {top h f : Nat} (htop : ∀ i : Fin 9, p.factors[i] ≤ top)
    (hf : soakFactor p h = some f) : f ≤ top := by
  rw [soakFactor_eq] at hf
  split at hf
  · cases hf
  · rename_i hnotCold
    cases hf
    refine factorFrom_le _ (fun x hx => ?_) fun x hx => ?_
    · obtain ⟨n, hn, rfl⟩ := List.mem_iff_getElem.mp hx
      rw [p.table_length] at hn
      rw [p.table_getElem n hn]
      exact htop ⟨n, hn⟩
    · rw [List.head?_eq_getElem?, List.getElem?_eq_getElem (by simp), p.table_getElem 0 (by omega)] at hx
      cases hx
      exact Nat.not_lt.mp hnotCold

/-- Settles O48: each part of the table by the walk to its knot, and the bound by the whole table's. -/
theorem soakFactorOfReading : Obligations.SoakFactorOfReading := by
  intro p h hrise hfactors
  refine ⟨fun hcold => if_pos hcold, soakFactor_above hrise, fun i => soakFactor_knot hrise i.isLt, fun i hle hlt => ?_,
    fun f => soakFactor_le hfactors⟩
  exact ⟨_, soakFactor_segment hrise (Nat.succ_lt_succ i.isLt) hle hlt, interpolate_eq hle hlt _ _,
    interpolate_between hle hlt _ _⟩

end Sys2Proof.Machine
end

section
/-!
The answer of a computation (R128 to R132): the score, its bin by the thresholds, and the overrides.
-/
namespace Sys2Proof.Machine

/-! ## The bin of a score (R131) -/

theorem binOf_eq_a (g : GradingItems) (n : Nat) : binOf g n = .a ↔ n ≤ g.b1 := by
  unfold binOf; split_ifs <;> simp_all

theorem binOf_eq_b (g : GradingItems) (n : Nat) : binOf g n = .b ↔ g.b1 < n ∧ n ≤ g.b2 := by
  unfold binOf; split_ifs <;> simp_all

theorem binOf_eq_c {g : GradingItems} (h : g.b1 ≤ g.b2) (n : Nat) : binOf g n = .c ↔ g.b2 < n ∧ n ≤ g.b3 := by
  unfold binOf; split_ifs <;> simp <;> omega

theorem binOf_eq_reject {g : GradingItems} (h : g.b1 ≤ g.b2) (h' : g.b2 ≤ g.b3) (n : Nat) : binOf g n = .reject ↔ g.b3 < n := by
  unfold binOf; split_ifs <;> simp <;> omega

/-! ## The answer (R128, R132) -/

theorem GradeInputs.score_le (x : GradeInputs) : x.score ≤ max32 := Nat.min_le_right _ _

@[simp] theorem GradeInputs.answer_score (x : GradeInputs) : x.answer.score = x.score := by
  unfold GradeInputs.answer; split <;> rfl

/-- No override applies where none of the three conditions of R132 holds. -/
theorem GradeInputs.override_eq_none (x : GradeInputs) : x.override = none ↔
    ¬(x.truncated = true ∨ x.items.slipLimit ≤ x.slip ∨ (x.items.strictSoak = true ∧ 0 < x.shortfall)) := by
  unfold GradeInputs.override
  split_ifs <;> simp_all

/-- Without an override the thresholds place the score. -/
theorem GradeInputs.answer_of_none {x : GradeInputs} (h : x.override = none) :
    x.answer = { score := x.score, bin := binOf x.items x.score, reason := .score } := by
  unfold GradeInputs.answer; rw [h]

/-- An override puts the slot in bin REJECT under its own reason. -/
theorem GradeInputs.answer_of_some {x : GradeInputs} {reason : Reason} (h : x.override = some reason) :
    x.answer = { score := x.score, bin := .reject, reason := reason } := by
  unfold GradeInputs.answer; rw [h]

/-- Settles O50: the thresholds by the bin of a score, each override by its place in the order of R132. -/
theorem gradeAnswer : Obligations.GradeAnswer := by
  intro x h12 h23
  refine ⟨x.answer_score, fun hnone => ?_, fun htruncated => ?_, fun htruncated hslip => ?_, fun htruncated hslip hstrict hshort => ?_⟩
  · rw [GradeInputs.answer_of_none (x.override_eq_none.mpr hnone)]
    refine ⟨rfl, binOf_eq_a _ _, binOf_eq_b _ _, binOf_eq_c h12 _, binOf_eq_reject h12 h23 _, fun hzero => ?_, fun hmax => ?_⟩
    · have hscore : x.score = 0 := hzero
      exact (binOf_eq_a _ _).mpr (hscore ▸ Nat.zero_le _)
    · rw [Ne, binOf_eq_reject h12 h23, hmax]
      exact Nat.not_lt.mpr x.score_le
  · have hover : x.override = some .truncated := by simp [GradeInputs.override, htruncated]
    rw [GradeInputs.answer_of_some hover]
    exact ⟨rfl, rfl⟩
  · have hover : x.override = some .slipLimit := by simp [GradeInputs.override, htruncated, hslip]
    rw [GradeInputs.answer_of_some hover]
    exact ⟨rfl, rfl⟩
  · have hshortfall : 0 < x.shortfall := hshort
    have hover : x.override = some .soakShort := by
      simp [GradeInputs.override, htruncated, Nat.not_le.mpr hslip, hstrict, hshortfall]
    rw [GradeInputs.answer_of_some hover]
    exact ⟨rfl, rfl⟩

end Sys2Proof.Machine
end

section
/-!
What the grade queue and the sort queue rest on (R121, R126, R136, R137, R141): the phases GRADE_WAIT and SEALED of the slots, the bins
of their grade results, the queues, the engine and the sort port. Each shared operation and each event of a drive link leaves all of
them; a withdrawal takes a slot's entry and notice from both queues.
-/
namespace Sys2Proof.Machine

/-! ## The invariants of the two queues -/

/-- An offer has a notice to offer, and a notice being released that is still queued is the head (R137, R141). -/
structure SortPort.HeadSafe (p : SortPort) : Prop where
  offer : ∀ t, p.handshake = .offer t → p.queue ≠ []
  release : ∀ n, p.handshake = .release n true → p.queue.head? = some n

/-- What `State.sortSafe` says, part by part. -/
structure State.SortSafe (s : State) : Prop where
  once : (s.sort.queue.map (·.slot)).Nodup
  sealed : ∀ n ∈ s.sort.queue, (s.slot n.slot).phase = .sealed ∧ n.bin = (s.slot n.slot).grade.map (·.bin)
  head : s.sort.HeadSafe

theorem State.sortSafe_iff (s : State) : s.sortSafe ↔ s.SortSafe :=
  ⟨fun ⟨honce, hsealed, hoffer, hrelease⟩ => ⟨honce, hsealed, hoffer, hrelease⟩,
    fun ⟨honce, hsealed, hoffer, hrelease⟩ => ⟨honce, hsealed, hoffer, hrelease⟩⟩

/-- What `State.gradeSafe` says, part by part. -/
structure State.GradeSafe (s : State) : Prop where
  once : s.gradeQueue.Nodup
  waiting : ∀ i ∈ s.gradeQueue, (s.slot i).phase = .gradeWait
  computing : ∀ c, s.engine = some c → c.void = false → c.slot ∉ s.gradeQueue ∧ (s.slot c.slot).phase = .gradeWait

theorem State.gradeSafe_iff (s : State) : s.gradeSafe ↔ s.GradeSafe :=
  ⟨fun ⟨honce, hwaiting, hcomputing⟩ => ⟨honce, hwaiting, hcomputing⟩,
    fun ⟨honce, hwaiting, hcomputing⟩ => ⟨honce, hwaiting, hcomputing⟩⟩

/-- A state becomes another in which each queue is safe that was safe before. -/
structure State.KeepsQueues (s t : State) : Prop where
  grade : s.GradeSafe → t.GradeSafe
  sort : s.SortSafe → t.SortSafe

theorem State.KeepsQueues.refl (s : State) : s.KeepsQueues s := ⟨id, id⟩

theorem State.KeepsQueues.trans {s t u : State} (h : s.KeepsQueues t) (g : t.KeepsQueues u) : s.KeepsQueues u :=
  ⟨fun hs => g.grade (h.grade hs), fun hs => g.sort (h.sort hs)⟩

theorem State.KeepsQueues.foldl {α : Type} {f : State → α → State} (h : ∀ u x, State.KeepsQueues u (f u x)) (l : List α) (s : State) :
    s.KeepsQueues (l.foldl f s) :=
  List.foldlRecOn l f (motive := s.KeepsQueues) (.refl s) fun u hu x _ => hu.trans (h u x)

theorem State.KeepsQueues.forSlots {f : State → SlotId → State} (h : ∀ u i, State.KeepsQueues u (f u i)) (s : State) :
    s.KeepsQueues (s.forSlots f) := .foldl h allSlots s

/-! ## Slots that stay in a queue -/

/-- The phases of the slots that the two queues hold (R121, R136). -/
def Phase.queued : Phase → Bool
  | .gradeWait => true
  | .sealed => true
  | .empty | .idle | .burn | .scan | .graded | .ship | .hold _ _ _ => false

/-- A slot in GRADE_WAIT or SEALED stays there with its bin. -/
def SlotRecord.StaysQueued (r q : SlotRecord) : Prop :=
  r.phase.queued = true → q.phase = r.phase ∧ q.grade.map (·.bin) = r.grade.map (·.bin)

theorem SlotRecord.StaysQueued.refl (r : SlotRecord) : r.StaysQueued r := fun _ => ⟨rfl, rfl⟩

theorem SlotRecord.StaysQueued.of_phase {r q : SlotRecord} (hp : q.phase = r.phase) (hg : q.grade = r.grade) : r.StaysQueued q :=
  fun _ => ⟨hp, by rw [hg]⟩

theorem SlotRecord.StaysQueued.of_not_queued {r q : SlotRecord} (h : r.phase.queued = false) : r.StaysQueued q :=
  fun hq => by simp [h] at hq

/-- A grade queue that has lost entries at most, and slots of it and of the engine that stay in GRADE_WAIT. -/
theorem State.GradeSafe.of_sublist {s t : State} (hs : s.GradeSafe) (queue : t.gradeQueue.Sublist s.gradeQueue)
    (engine : ∀ c, t.engine = some c → c.void = false → s.engine = some c ∧ (s.slot c.slot).StaysQueued (t.slot c.slot))
    (slots : ∀ i ∈ t.gradeQueue, (s.slot i).StaysQueued (t.slot i)) : t.GradeSafe where
  once := hs.once.sublist queue
  waiting i hi := by
    have hwait := hs.waiting i (queue.subset hi)
    rw [(slots i hi (by rw [hwait]; rfl)).1, hwait]
  computing c hc hvoid := by
    obtain ⟨hengine, hslot⟩ := engine c hc hvoid
    obtain ⟨hout, hwait⟩ := hs.computing c hengine hvoid
    exact ⟨fun hin => hout (queue.subset hin), by rw [(hslot (by rw [hwait]; rfl)).1, hwait]⟩

/-- A sort queue that has lost notices at most, and slots of it that stay in SEALED with their bins. -/
theorem State.SortSafe.of_sublist {s t : State} (hs : s.SortSafe) (queue : t.sort.queue.Sublist s.sort.queue)
    (head : s.sort.HeadSafe → t.sort.HeadSafe) (slots : ∀ n ∈ t.sort.queue, (s.slot n.slot).StaysQueued (t.slot n.slot)) :
    t.SortSafe where
  once := hs.once.sublist (queue.map _)
  sealed n hn := by
    obtain ⟨hsealed, hbin⟩ := hs.sealed n (queue.subset hn)
    obtain ⟨hphase, hsame⟩ := slots n hn (by rw [hsealed]; rfl)
    exact ⟨hphase.trans hsealed, hbin.trans hsame.symm⟩
  head := head hs.head

theorem State.GradeSafe.of_slots {s t : State} (hs : s.GradeSafe) (slots : ∀ i, (s.slot i).StaysQueued (t.slot i))
    (gradeQueue : t.gradeQueue = s.gradeQueue) (engine : t.engine = s.engine) : t.GradeSafe :=
  hs.of_sublist (by rw [gradeQueue]) (fun c hc _ => ⟨engine ▸ hc, slots c.slot⟩) fun i _ => slots i

/-- Slots that stay, with the grade queue and the engine as they were; the sort queue has lost notices at most. -/
theorem State.KeepsQueues.of_slots {s t : State} (slots : ∀ i, (s.slot i).StaysQueued (t.slot i))
    (gradeQueue : t.gradeQueue = s.gradeQueue) (engine : t.engine = s.engine) (queue : t.sort.queue.Sublist s.sort.queue)
    (head : s.sort.HeadSafe → t.sort.HeadSafe) : s.KeepsQueues t where
  grade hs := hs.of_slots slots gradeQueue engine
  sort hs := hs.of_sublist queue head fun n _ => slots n.slot

/-- One slot record replaced by one that stays. -/
theorem State.modSlot_keepsQueues (s : State) (i : SlotId) (f : SlotRecord → SlotRecord)
    (h : (s.slot i).StaysQueued (f (s.slot i))) : s.KeepsQueues (s.modSlot i f) := by
  refine .of_slots (fun j => ?_) rfl rfl (.refl _) id
  rw [State.slot_modSlot]
  split
  · subst_vars; exact h
  · exact .refl _

theorem State.setPhase_keepsQueues (s : State) (i : SlotId) (p : Phase) (h : (s.slot i).phase.queued = true → p = (s.slot i).phase) :
    s.KeepsQueues (s.setPhase i p) := s.modSlot_keepsQueues i _ fun hq => ⟨h hq, rfl⟩

/-! ## The sort port (R138 to R143) -/

theorem SortPort.HeadSafe.of_idle {p : SortPort} (h : p.handshake = .idle) : p.HeadSafe := ⟨by simp [h], by simp [h]⟩

theorem SortPort.HeadSafe.of_stalled {p : SortPort} (h : p.handshake = .stalled) : p.HeadSafe := ⟨by simp [h], by simp [h]⟩

theorem SortPort.HeadSafe.congr {p q : SortPort} (h : p.HeadSafe) (hh : q.handshake = p.handshake) (hq : q.queue = p.queue) :
    q.HeadSafe := ⟨by rw [hh, hq]; exact h.offer, by rw [hh, hq]; exact h.release⟩

@[simp] theorem SortPort.offering_queue (p : SortPort) (now : Time) : (p.offering now).queue = p.queue := by
  obtain ⟨-, h⟩ | ⟨-, h⟩ := p.offering_cases now <;> rw [h]

/-- An offer begins with a notice to offer (R138). -/
theorem SortPort.HeadSafe.offering {p : SortPort} (h : p.HeadSafe) (now : Time) : (p.offering now).HeadSafe := by
  obtain ⟨hmay, ho⟩ | ⟨-, ho⟩ := p.offering_cases now <;> rw [ho]
  · obtain ⟨-, hqueue, -⟩ := p.mayOffer_iff.mp hmay
    exact ⟨fun _ _ => hqueue, nofun⟩
  · exact h

/-- A notice joins behind the head (R136). -/
theorem SortPort.HeadSafe.append {p : SortPort} (h : p.HeadSafe) (n : Notice) : SortPort.HeadSafe { p with queue := p.queue ++ [n] } :=
  ⟨fun _ _ => by simp, fun m hm => by simp [h.release m hm]⟩

/-- A head that is not the slot's is the head still after the withdrawal of the slot's notice. -/
theorem SortPort.head?_withdrawn {p : SortPort} {i : SlotId} {n : Notice} (h : p.queue.head? = some n) (hi : p.headIs i = false) :
    (p.withdrawn i).queue.head? = some n := by
  obtain ⟨rest, hqueue⟩ := List.head?_eq_some_iff.mp h
  have hne : (n.slot != i) = true := by simpa [SortPort.headIs, hqueue] using hi
  simp [SortPort.withdrawn, hqueue, hne]

/-- The withdrawal of the head ends its offer, and takes it from the release in progress (R143). -/
theorem SortPort.HeadSafe.withdrawn {p : SortPort} (h : p.HeadSafe) (i : SlotId) : (p.withdrawn i).HeadSafe := by
  have hhand : (p.withdrawn i).handshake = p.withdrawHandshake i := rfl
  unfold SortPort.withdrawHandshake at hhand
  split at hhand
  next => exact .of_idle hhand
  next t hp =>
    cases hi : p.headIs i with
    | true => exact .of_idle (by rw [hhand, hi]; rfl)
    | false =>
      obtain ⟨n, hn⟩ := Option.isSome_iff_exists.mp (List.isSome_head?.mpr (h.offer t hp))
      exact ⟨fun _ _ hnil => by simpa [hnil] using SortPort.head?_withdrawn hn hi, by simp [hhand, hi]⟩
  next n queued hp =>
    refine ⟨by simp [hhand], fun m hm => ?_⟩
    simp only [hhand, Handshake.release.injEq, Bool.and_eq_true, Bool.not_eq_true'] at hm
    obtain ⟨rfl, rfl, hi⟩ := hm
    exact SortPort.head?_withdrawn (h.release n hp) hi
  next => exact .of_stalled hhand

/-- The sort port changed, with notices lost at most. -/
theorem State.sort_keepsQueues (s : State) (p : SortPort) (queue : p.queue.Sublist s.sort.queue) (head : s.sort.HeadSafe → p.HeadSafe) :
    s.KeepsQueues { s with sort := p } := .of_slots (fun _ => .refl _) rfl rfl queue head

/-- The sort port changed, with R138 applied. -/
theorem State.putSort_keepsQueues (s : State) (p : SortPort) (queue : p.queue.Sublist s.sort.queue)
    (head : s.sort.HeadSafe → p.HeadSafe) : s.KeepsQueues (s.putSort p) :=
  s.sort_keepsQueues _ (by rwa [SortPort.offering_queue]) fun h => (head h).offering _

theorem State.stallOffer_keepsQueues (s : State) : s.KeepsQueues s.stallOffer :=
  .of_slots (fun _ => .refl _) rfl rfl (.refl _) fun _ => .of_stalled rfl

/-! ## Joining a queue (R17, R20, R21) -/

/-- A slot in GRADE_WAIT that neither the queue nor the engine has joins the tail. -/
theorem State.GradeSafe.join {s : State} (hs : s.GradeSafe) {i : SlotId} (hwait : (s.slot i).phase = .gradeWait)
    (hout : i ∉ s.gradeQueue) (hidle : ∀ c, s.engine = some c → c.void = false → c.slot ≠ i) :
    State.GradeSafe { s with gradeQueue := s.gradeQueue ++ [i] } where
  once := by
    refine List.nodup_append.mpr ⟨hs.once, List.nodup_singleton i, fun j hj k hk hjk => hout ?_⟩
    rw [← List.mem_singleton.mp hk, ← hjk]
    exact hj
  waiting j hj := by
    obtain hj | hj := List.mem_append.mp hj
    · exact hs.waiting j hj
    · rw [List.mem_singleton.mp hj]; exact hwait
  computing c hc hvoid := by
    obtain ⟨hnot, hphase⟩ := hs.computing c hc hvoid
    exact ⟨by simpa using ⟨hnot, hidle c hc hvoid⟩, hphase⟩

/-- A slot that no queue holds becomes GRADE_WAIT and joins the grade queue. -/
theorem State.grading_keepsQueues (s : State) (i : SlotId) (hp : (s.slot i).phase.queued = false) :
    s.KeepsQueues { s.setPhase i .gradeWait with gradeQueue := s.gradeQueue ++ [i] } := by
  have hphase : s.KeepsQueues (s.setPhase i .gradeWait) := s.setPhase_keepsQueues i _ fun hq => by simp [hp] at hq
  have hnotWaiting : (s.slot i).phase ≠ .gradeWait := fun h => by simp [h, Phase.queued] at hp
  refine ⟨fun hs => (hphase.grade hs).join ?_ (fun hin => hnotWaiting (hs.waiting i hin)) fun c hc hvoid hci => ?_, fun hs => ?_⟩
  · rw [State.slot_setPhase, if_pos rfl]
  · exact hnotWaiting (hci ▸ (hs.computing c hc hvoid).2)
  · exact (hphase.sort hs).of_sublist (.refl _) id fun _ _ => .refl _

@[simp] theorem State.postNotice_queue (s : State) (i : SlotId) :
    (s.postNotice i).sort.queue = s.sort.queue ++ [{ slot := i, bin := (s.slot i).grade.map (·.bin) }] :=
  SortPort.offering_queue _ _

/-- A slot in SEALED that the queue has no notice of posts one with its bin. -/
theorem State.SortSafe.postNotice {s : State} (hs : s.SortSafe) {i : SlotId} (hsealed : (s.slot i).phase = .sealed)
    (hout : ∀ n ∈ s.sort.queue, n.slot ≠ i) : (s.postNotice i).SortSafe where
  once := by
    rw [State.postNotice_queue, List.map_append, List.nodup_append]
    refine ⟨hs.once, List.nodup_singleton i, fun j hj k hk => ?_⟩
    obtain ⟨n, hn, rfl⟩ := List.mem_map.mp hj
    rw [List.mem_singleton.mp hk]
    exact hout n hn
  sealed n hn := by
    rw [State.postNotice_queue, List.mem_append, List.mem_singleton] at hn
    obtain hn | rfl := hn
    · exact hs.sealed n hn
    · exact ⟨hsealed, rfl⟩
  head := (hs.head.append _).offering _

/-- A slot that no queue holds becomes SEALED and posts its notice. -/
theorem State.sealing_keepsQueues (s : State) (i : SlotId) (f : SlotRecord → SlotRecord) (hp : (s.slot i).phase.queued = false)
    (hf : (f (s.slot i)).phase = .sealed) : s.KeepsQueues ((s.modSlot i f).postNotice i) := by
  have hmod : s.KeepsQueues (s.modSlot i f) := s.modSlot_keepsQueues i f (.of_not_queued hp)
  have hnotSealed : (s.slot i).phase ≠ .sealed := fun h => by simp [h, Phase.queued] at hp
  refine ⟨fun hs => (hmod.grade hs).of_slots (fun _ => .refl _) rfl rfl, fun hs => (hmod.sort hs).postNotice ?_ fun n hn hni => ?_⟩
  · rw [State.slot_modSlot_self, hf]
  · exact hnotSealed (hni ▸ (hs.sealed n hn).1)

/-! ## Withdrawal from both queues (R122, R126, R143) -/

/-- The notices of the other slots are left after a withdrawal. -/
theorem State.sortWithdrawn_queue (s : State) (i : SlotId) : (s.sortWithdrawn i).queue = s.sort.queue.filter (·.slot != i) := by
  unfold State.sortWithdrawn
  split
  · exact SortPort.offering_queue _ _
  · rename_i hnone
    refine (List.filter_eq_self.mpr fun n hn => ?_).symm
    simp only [SortPort.holds, List.any_eq_true, beq_iff_eq, not_exists, not_and] at hnone
    simpa using hnone n hn

theorem State.sortWithdrawn_headSafe {s : State} (h : s.sort.HeadSafe) (i : SlotId) : (s.sortWithdrawn i).HeadSafe := by
  unfold State.sortWithdrawn
  split
  · exact (h.withdrawn i).offering _
  · exact h

/-- A slot that leaves both queues may change as it likes; the others stay as they are. -/
theorem State.KeepsQueues.of_withdrawn {s t : State} {i : SlotId} {r : SlotRecord} (slots : t.slots = s.slots.set i r)
    (gradeQueue : t.gradeQueue = s.gradeQueue.filter (· != i))
    (engine : t.engine = s.engine.map (fun c => if c.slot = i then { c with void := true } else c))
    (sort : t.sort = s.sortWithdrawn i) : s.KeepsQueues t where
  grade hs := by
    have hother {j : SlotId} (hj : j ≠ i) : (s.slot j).StaysQueued (t.slot j) := by
      rw [State.slot_of_set slots, if_neg hj.symm]; exact .refl _
    refine hs.of_sublist (gradeQueue ▸ List.filter_sublist) (fun c hc hvoid => ?_) fun j hj => hother ?_
    · rw [engine, Option.map_eq_some_iff] at hc
      obtain ⟨d, hd, hdc⟩ := hc
      split at hdc
      · subst hdc; cases hvoid
      · rename_i hne
        subst hdc
        exact ⟨hd, hother hne⟩
    · rw [gradeQueue, List.mem_filter] at hj
      simpa using hj.2
  sort hs := by
    have hqueue : t.sort.queue = s.sort.queue.filter (·.slot != i) := sort ▸ s.sortWithdrawn_queue i
    refine hs.of_sublist (hqueue ▸ List.filter_sublist) (fun h => sort ▸ State.sortWithdrawn_headSafe h i) fun n hn => ?_
    rw [hqueue, List.mem_filter] at hn
    have hne : n.slot ≠ i := by simpa using hn.2
    rw [State.slot_of_set slots, if_neg hne.symm]
    exact .refl _

theorem State.slotClear_keepsQueues (s : State) (i : SlotId) : s.KeepsQueues (s.slotClear i) := by
  rw [s.slotClear_eq]; exact .of_withdrawn rfl rfl rfl rfl

theorem State.orphan_keepsQueues (s : State) (i : SlotId) : s.KeepsQueues (s.orphan i) := by
  rw [s.orphan_eq]; exact .of_withdrawn rfl rfl rfl rfl

theorem State.depart_keepsQueues (s : State) (i : SlotId) : s.KeepsQueues (s.depart i) := by
  rw [s.depart_eq]; exact .of_withdrawn rfl rfl rfl rfl

end Sys2Proof.Machine
end

section
/-!
The queues on the drive links (02_command_tracking_on_the_drive_links.md): no event of a link changes a phase, a grade result, a queue,
the engine or the sort port.
-/
namespace Sys2Proof.Machine

/-! ## The shared operations -/

/-- The phases and grade results of the slots, the grade queue, the engine and the sort port. -/
def State.standing (s : State) : (SlotId → Phase × Option GradeResult) × List SlotId × Option Computation × SortPort :=
  (fun i => ((s.slot i).phase, (s.slot i).grade), s.gradeQueue, s.engine, s.sort)

theorem State.KeepsQueues.of_standing {s t : State} (h : t.standing = s.standing) : s.KeepsQueues t := by
  simp only [State.standing, Prod.mk.injEq] at h
  obtain ⟨hslots, hqueue, hengine, hsort⟩ := h
  refine .of_slots (fun i => ?_) hqueue hengine (by rw [hsort]) (hsort ▸ id)
  obtain ⟨hphase, hgrade⟩ := Prod.mk.inj (congrFun hslots i)
  exact .of_phase hphase hgrade

/-- What every operation of a fold leaves, the fold leaves. -/
theorem State.foldl_standing {α : Type} {f : State → α → State} (h : ∀ u x, (f u x).standing = u.standing) (l : List α) (s : State) :
    (l.foldl f s).standing = s.standing :=
  List.foldlRecOn l f (motive := fun u => u.standing = s.standing) rfl fun u hu x _ => (h u x).trans hu

@[simp] theorem State.modSlot_standing (s : State) (i : SlotId) (f : SlotRecord → SlotRecord)
    (hp : (f (s.slot i)).phase = (s.slot i).phase) (hg : (f (s.slot i)).grade = (s.slot i).grade) :
    (s.modSlot i f).standing = s.standing := by
  have hslots : (fun j => (((s.modSlot i f).slot j).phase, ((s.modSlot i f).slot j).grade)) =
      fun j => ((s.slot j).phase, (s.slot j).grade) := by
    funext j
    rw [State.slot_modSlot]
    split
    · subst_vars; rw [hp, hg]
    · rfl
  exact congrArg (·, _) hslots

@[simp] theorem State.modLane_standing (s : State) (i : SlotId) (f : Lane → Lane) : (s.modLane i f).standing = s.standing := rfl
@[simp] theorem State.raise_standing (s : State) (a : AlertFlag) : (s.raise a).standing = s.standing := rfl

@[simp] theorem State.putCapture_standing (s : State) (u : CaptureUnit × Option AlertFlag) :
    (s.putCapture u).standing = s.standing := by simp [State.standing, State.putCapture_slot]

@[simp] theorem State.report_standing (s : State) (i : SlotId) (f : SlotRecord → SlotRecord)
    (hp : (f (s.slot i)).phase = (s.slot i).phase) (hg : (f (s.slot i)).grade = (s.slot i).grade) :
    (s.report i f).standing = s.standing := by
  obtain ⟨-, h⟩ | ⟨-, h⟩ := s.report_cases i f <;> simp [h, hp, hg]

/-- A report into the test counters. -/
@[simp] theorem State.report_count_standing (s : State) (i : SlotId) (f : TestCounters → TestCounters) :
    (s.report i (SlotRecord.count f)).standing = s.standing := s.report_standing i _ rfl rfl

/-- A report into ship_bad. -/
@[simp] theorem State.report_shipBad_standing (s : State) (i : SlotId) : (s.report i SlotRecord.shipBad).standing = s.standing :=
  s.report_standing i _ rfl rfl

@[simp] theorem State.capturing_standing (s : State) (e : CaptureEvent) : (s.capturing e).standing = s.standing := by
  obtain ⟨-, h⟩ | ⟨-, h⟩ := s.capturing_cases e <;> simp [h]

@[simp] theorem State.insertDefect_standing (s : State) (i : SlotId) (lba : Nat) (c : Cause) (pass : Nat) :
    (s.insertDefect i lba c pass).standing = s.standing := by
  obtain ⟨-, d, free, -, h⟩ | ⟨-, h⟩ := s.insertDefect_cases i lba c pass <;> rw [h]
  exact s.modSlot_standing i (fun r => { r with defects := d }) rfl rfl

@[simp] theorem State.modEntry_standing (s : State) (i : SlotId) (e : EntryId) (f : TagEntry → TagEntry) :
    (s.modEntry i e f).standing = s.standing := by
  obtain ⟨-, h⟩ | ⟨t, -, h⟩ := s.modEntry_cases i e f <;> simp [h]

@[simp] theorem State.markUntracked_standing (s : State) (i : SlotId) (e : EntryId) :
    (s.markUntracked i e).standing = s.standing := by
  obtain h | ⟨t, -, -, h⟩ := s.markUntracked_cases i e <;> simp [h]

@[simp] theorem State.noteOverrun_standing (s : State) (i : SlotId) (e : EntryId) (t : TagEntry) :
    (s.noteOverrun i e t).standing = s.standing := by
  obtain ⟨-, h⟩ | ⟨-, h⟩ := s.noteOverrun_cases i e t <;> simp [h]

/-- The count of a timeout is one of the test counters or ship_bad (R37). -/
@[simp] theorem State.expireEntry_standing (s : State) (i : SlotId) (e : EntryId) : (s.expireEntry i e).standing = s.standing := by
  unfold State.expireEntry
  split
  · rfl
  · dsimp only
    split <;> simp

@[simp] theorem State.expireSlot_standing (s : State) (i : SlotId) : (s.expireSlot i).standing = s.standing :=
  State.foldl_standing (fun u e => by split <;> simp) allEntries s

/-! ## Data frames (R30, R31, R65 to R74) -/

@[simp] theorem State.finishSector_standing (s : State) (i : SlotId) (e : EntryId) (t : TagEntry) (x : SectorInProgress) :
    (s.finishSector i e t x).standing = s.standing := by
  have herror (c : CheckResult) : (if c = .isMatch then s
      else s.modEntry i e (fun u => { u with errorSectors := inc16 u.errorSectors })).standing = s.standing := by split <;> simp
  have htest (u : State) (lba pass : Nat) (c : CheckResult) : (u.testResult i e lba pass c).standing = u.standing := by
    cases c <;> simp [State.testResult]
  unfold State.finishSector
  split
  · rfl
  · split
    · unfold State.countSubstituted
      split <;> simp
    · unfold State.applyResult
      dsimp only
      split <;> simp [htest, herror]

@[simp] theorem State.passOne_standing (s : State) (i : SlotId) (good : Bool) (b : Byte) :
    (s.passOne i good b).1.standing = s.standing := by
  obtain h | ⟨p, t, -, -, h⟩ := s.passOne_cases i good b
  · rw [h]
  · obtain ⟨-, h⟩ | ⟨-, -, h⟩ | ⟨-, -, -, h⟩ | ⟨-, -, -, h⟩ | ⟨-, -, -, -, h⟩ := h <;> rw [h]
    · simp
    · rfl
    · unfold State.passByte
      dsimp only
      split
      · dsimp only
        split <;> simp
      · rfl
    · rfl
    · rfl

@[simp] theorem State.passBytes_standing (s : State) (i : SlotId) (good : Bool) (bs : List Byte) :
    (s.passBytes i good bs).1.standing = s.standing :=
  State.passBytes_induct (P := fun u => u.standing = s.standing) i good (fun u b hu => (u.passOne_standing i good b).trans hu) bs s rfl

/-! ## Statuses (R33 to R36, R43, R44) -/

/-- A sample goes into the latency statistics, a late one also into its count (R38, R39). -/
@[simp] theorem State.sampleEntry_standing (s : State) (i : SlotId) (t : TagEntry) : (s.sampleEntry i t).standing = s.standing := by
  unfold State.sampleEntry
  split
  · refine s.report_standing i _ ?_ ?_ <;> split <;> rfl
  · rfl

@[simp] theorem State.offerSnoop_standing (s : State) (i : SlotId) (t : TagEntry) : (s.offerSnoop i t).standing = s.standing := by
  have hcompare : (s.compareIdentity i t.snoop).standing = s.standing := by
    unfold State.compareIdentity
    dsimp only
    split <;> simp
  unfold State.offerSnoop
  split
  · split
    case h_1 => rfl
    case h_2 => split <;> simp
    all_goals exact hcompare
  · rfl

@[simp] theorem State.closeSuccess_standing (s : State) (i : SlotId) (e : EntryId) : (s.closeSuccess i e).standing = s.standing := by
  unfold State.closeSuccess
  split
  · rfl
  · split <;> simp

@[simp] theorem State.closeError_standing (s : State) (i : SlotId) (r : ErrorReport) : (s.closeError i r).standing = s.standing := by
  have hmedia (e : EntryId) (t : TagEntry) (lba : Option (BitVec 48)) : (s.mediaError i e t lba).standing = s.standing := by
    unfold State.mediaError
    split
    case h_1 | h_2 => cases lba <;> simp
    all_goals simp
  unfold State.closeError
  dsimp only
  split
  · rfl
  · split <;> simp [hmedia]

/-! ## The events -/

theorem execCommandFrame_standing {i : SlotId} {f : CommandFrame} {s t : State} (h : execCommandFrame i f s = .next t) :
    t.standing = s.standing := by
  have hcollide : (s.collide i (commandEntry f.kind)).standing = s.standing := by unfold State.collide; split <;> simp
  unfold execCommandFrame at h
  split at h <;> cases h
  · rfl
  · split <;> simp [State.withhold, State.openEntry, hcollide]

theorem execDataSetupNotice_standing {i : SlotId} {n : SetupNotice} {s t : State} (h : execDataSetupNotice i n s = .next t) :
    t.standing = s.standing := by
  unfold execDataSetupNotice at h
  dsimp only at h
  split at h
  · cases h; rfl
  · split at h
    · cases h; rfl
    · split at h <;> cases h <;> simp

theorem execDataFrame_standing {i : SlotId} {f : DataFrame} {s t : State} (h : execDataFrame i f s = .next t) :
    t.standing = s.standing := by
  unfold execDataFrame at h
  split at h
  · cases h; rfl
  · split at h
    · cases h; rfl
    · split at h
      · cases h; rfl
      · split at h <;> cases h <;> simp [State.wrongData]

theorem execSuccessStatus_standing {i : SlotId} {st : Success} {s t : State} (h : execSuccessStatus i st s = .next t) :
    t.standing = s.standing := by
  unfold execSuccessStatus at h
  dsimp only at h
  split at h
  · cases h; rfl
  · cases st with
    | nonQueued => cases h; simp
    | queued tags => cases h; exact State.foldl_standing (fun u x => by split <;> simp) allTags _

theorem execErrorStatus_standing {i : SlotId} {r : ErrorReport} {s t : State} (h : execErrorStatus i r s = .next t) :
    t.standing = s.standing := by
  unfold execErrorStatus at h
  dsimp only at h
  split at h
  · cases h; rfl
  · split at h <;> rw [← Host.Outcome.next.inj h]
    · exact State.closeError_standing _ i r
    · refine (State.foldl_standing (fun u x => ?_) allTags _).trans (State.closeError_standing _ i r)
      unfold State.abortSibling
      split <;> simp

theorem execDriveLinkReset_standing {i : SlotId} {s t : State} (h : execDriveLinkReset i s = .next t) : t.standing = s.standing := by
  unfold execDriveLinkReset at h
  split at h <;> cases h <;> simp

end Sys2Proof.Machine
end

section
/-!
The queue invariant (R121, R126, R136, R137, R141): every step keeps the grade queue on slots in GRADE_WAIT and the sort queue on slots
in SEALED. GRADE, SEAL and RELEASE put in a slot that no queue holds; a slot leaves by the take, the deassertion of TAKE, a withdrawal or
a reset; every other command keeps the slots that a queue holds in their phase.
-/
namespace Sys2Proof.Machine

/-! ## Management commands -/

/-- The effects of an answer, where it has any, keep the queues. -/
def Answer.KeepsQueues (s : State) : Answer → Prop
  | .ok t _ => s.KeepsQueues t
  | .no _ => True

/-- Effects beside what the queues rest on. -/
theorem Answer.KeepsQueues.of_standing {s t : State} {payload : List Byte} (h : t.standing = s.standing) :
    (Answer.ok t payload).KeepsQueues s := State.KeepsQueues.of_standing h

theorem State.command_keepsQueues {s : State} {rule : State → Answer} (h : (rule s).KeepsQueues s) : s.KeepsQueues (s.command rule) := by
  have hanswer (t : State) (st : Status) (p : List Byte) : t.KeepsQueues (t.answer st p) := .of_standing rfl
  obtain ⟨-, hc⟩ | ⟨-, -, hc⟩ | ⟨-, -, t, p, hr, hc⟩ | ⟨-, -, st, -, hc⟩ := s.command_cases rule <;> rw [hc]
  · exact .refl s
  · exact hanswer s _ _
  · rw [hr] at h
    exact State.KeepsQueues.trans h (hanswer t _ _)
  · exact hanswer s _ _

theorem State.slotCommand_keepsQueues {s : State} {args : List Byte} {rule : State → SlotId → Answer}
    (h : ∀ i, (rule s i).KeepsQueues s) : s.KeepsQueues (s.command fun s => slotCommand args (rule s)) := by
  refine State.command_keepsQueues ?_
  unfold slotCommand
  split
  · split
    · exact h _
    · trivial
  · trivial

theorem State.plainCommand_keepsQueues {s : State} {args : List Byte} {answer : State → Answer} (h : (answer s).KeepsQueues s) :
    s.KeepsQueues (s.command fun s => plainCommand args (answer s)) := by
  refine State.command_keepsQueues ?_
  unfold plainCommand
  split
  · exact h
  · trivial

theorem State.slotQuery_keepsQueues (s : State) (args : List Byte) (payload : State → SlotId → List Byte) :
    s.KeepsQueues (s.command fun s => slotCommand args fun i => .ok s (payload s i)) :=
  State.slotCommand_keepsQueues (rule := fun s i => .ok s (payload s i)) fun _ => State.KeepsQueues.refl s

/-! ## Phase commands (R8 to R21) -/

/-- The slots of the two queues are in GRADE_WAIT or SEALED. -/
theorem Phase.queued_iff (p : Phase) : p.queued = true ↔ p = .gradeWait ∨ p = .sealed := by cases p <;> simp [Phase.queued]

/-- A command that changes a phase, and is refused in the phases of the queues. -/
theorem State.phaseChange_keepsQueues (s : State) (args : List Byte) {f : Phase → Option Phase} (hwait : f .gradeWait = none)
    (hsealed : f .sealed = none) :
    s.KeepsQueues (s.command fun s => slotCommand args fun i => s.phaseChange i (f (s.slot i).phase)) := by
  refine State.slotCommand_keepsQueues fun i => ?_
  unfold State.phaseChange
  split
  · rename_i q hq
    refine s.setPhase_keepsQueues i q fun hqueued => ?_
    obtain hp | hp := (Phase.queued_iff _).mp hqueued
    · rw [hp, hwait] at hq; cases hq
    · rw [hp, hsealed] at hq; cases hq
  · trivial

theorem execStart_keepsQueues {args : List Byte} {s t : State} (h : execStart args s = .next t) : s.KeepsQueues t := by
  cases h
  refine State.command_keepsQueues ?_
  split
  · split
    · rename_i i _
      have hreturned : s.KeepsQueues (s.returnExtents i) := .of_standing rfl
      unfold State.startRun
      dsimp only
      split_ifs with hidle
      · trivial
      · exact hreturned.trans (State.modSlot_keepsQueues _ i _ (.of_not_queued (by rw [State.slot_returnExtents, hidle]; rfl)))
      · trivial
    · trivial
  · trivial

theorem execAdvancePass_keepsQueues {args : List Byte} {s t : State} (h : execAdvancePass args s = .next t) : s.KeepsQueues t := by
  cases h
  refine State.slotCommand_keepsQueues fun i => ?_
  split_ifs
  · trivial
  · exact s.modSlot_keepsQueues i _ (.of_phase rfl rfl)
  · trivial

theorem execGrade_keepsQueues {args : List Byte} {s t : State} (h : execGrade args s = .next t) : s.KeepsQueues t := by
  cases h
  refine State.slotCommand_keepsQueues fun i => ?_
  split_ifs with hscan
  · trivial
  · exact s.grading_keepsQueues i (by rw [hscan]; rfl)
  · trivial

theorem execShip_keepsQueues {args : List Byte} {s t : State} (h : execShip args s = .next t) : s.KeepsQueues t := by
  cases h
  refine State.slotCommand_keepsQueues fun i => ?_
  split_ifs with hgraded
  · trivial
  · trivial
  · exact s.modSlot_keepsQueues i _ (.of_not_queued (by rw [hgraded]; rfl))
  · trivial
  · trivial

theorem execSeal_keepsQueues {args : List Byte} {s t : State} (h : execSeal args s = .next t) : s.KeepsQueues t := by
  cases h
  refine State.slotCommand_keepsQueues fun i => ?_
  split_ifs with hship
  · trivial
  · exact s.sealing_keepsQueues i _ (by rw [hship]; rfl) rfl
  · trivial
  · trivial

/-- RELEASE seals a slot that is in none of the phases of the queues (R21). -/
theorem SlotRecord.releasedRun_phase {r q : SlotRecord} (h : r.releasedRun = some q) : r.phase.queued = false ∧ q.phase = .sealed := by
  unfold SlotRecord.releasedRun at h
  dsimp only at h
  split at h
  case h_1 hp => split at h <;> cases h; exact ⟨by rw [hp]; rfl, rfl⟩
  case h_2 hp => cases h; exact ⟨by rw [hp]; rfl, rfl⟩
  case h_3 hp => cases h; exact ⟨by rw [hp]; rfl, rfl⟩
  all_goals cases h

theorem execRelease_keepsQueues {args : List Byte} {s t : State} (h : execRelease args s = .next t) : s.KeepsQueues t := by
  cases h
  refine State.slotCommand_keepsQueues fun i => ?_
  split
  · rename_i r hr
    obtain ⟨hbefore, hafter⟩ := SlotRecord.releasedRun_phase hr
    exact s.sealing_keepsQueues i (fun _ => r) hbefore hafter
  · trivial

/-! ## Presence (R3 to R7) -/

/-- A slot removed in IDLE is in no queue, and one orphaned or departed is withdrawn from both (R5 to R7). -/
theorem State.removed_keepsQueues (s : State) (i : SlotId) : s.KeepsQueues (s.removed i) := by
  unfold State.removed
  split
  case h_1 => exact .refl s
  case h_2 hp =>
    have hforgotten : s.KeepsQueues (s.modLane i Lane.forgotten) := .of_standing rfl
    exact hforgotten.trans (State.modSlot_keepsQueues _ i _ (.of_not_queued (by rw [State.slot_modLane, hp]; rfl)))
  case h_3 =>
    split
    · exact s.depart_keepsQueues i
    · exact s.orphan_keepsQueues i
  all_goals exact s.orphan_keepsQueues i

theorem execDebounceEnd_keepsQueues {i : SlotId} {s t : State} (h : execDebounceEnd i s = .next t) : s.KeepsQueues t := by
  cases h
  split
  · have hpresence (p : Presence) : s.KeepsQueues (s.setPresence i p) := .of_standing rfl
    have hgained (u : State) : u.KeepsQueues (u.setPhase i (u.slot i).phase.gained) := u.setPhase_keepsQueues i _ fun hq => by
      obtain hp | hp := (Phase.queued_iff _).mp hq <;> rw [hp] <;> rfl
    have hraise (u : State) : u.KeepsQueues (u.raise (.slotAttn i)) := .of_standing rfl
    unfold State.debounced
    dsimp only
    split
    · exact ((hpresence _).trans (hgained _)).trans (hraise _)
    · exact ((hpresence _).trans (State.removed_keepsQueues _ i)).trans (hraise _)
  · exact .refl s

theorem execRawPresenceChange_keepsQueues {i : SlotId} {level : Bool} {s t : State} (h : execRawPresenceChange i level s = .next t) :
    s.KeepsQueues t := by
  cases h
  split
  · exact .refl s
  · split <;> exact .of_standing rfl

/-! ## The chamber line and the soak (R105 to R116) -/

/-- A thermal check leaves GRADE_WAIT and SEALED (R16, R111). -/
theorem thermalCheck_of_queued (p : Profile) (r : Reading) {ph : Phase} (h : ph.queued = true) : (thermalCheck p r ph).1 = ph := by
  unfold thermalCheck
  split
  · split_ifs
    · obtain rfl | rfl := (Phase.queued_iff _).mp h <;> rfl
    · obtain rfl | rfl := (Phase.queued_iff _).mp h <;> rfl
    · rfl
  · rfl
  · rfl

theorem State.checkThermal_keepsQueues (s : State) (i : SlotId) : s.KeepsQueues (s.checkThermal i) := by
  have hphase := s.setPhase_keepsQueues i _ (thermalCheck_of_queued s.profile s.chamber.readings[i])
  unfold State.checkThermal State.applyHold
  split
  · exact hphase.trans (.of_standing rfl)
  · exact hphase

theorem State.takeError_standing (s : State) : s.takeError.standing = s.standing := by
  unfold State.takeError
  split <;> rfl

theorem State.takeEvent_keepsQueues (s : State) (e : LineEvent) : s.KeepsQueues (s.takeEvent e) := by
  cases e with
  | byte b =>
    show s.KeepsQueues (s.takeByte b)
    unfold State.takeByte
    split
    · split <;> exact .of_standing rfl
    · split
      · exact .of_standing rfl
      · rename_i f _ _
        have hcompleted : s.KeepsQueues (s.modChamber (·.completed f b s.timebase s.profile.h1)) := .of_standing rfl
        exact hcompleted.trans (.forSlots State.checkThermal_keepsQueues _)
  | error => exact .of_standing s.takeError_standing
  | lineBreak => exact .of_standing rfl
  | markAfterBreak => exact .refl s

theorem execChamberByte_keepsQueues {levels : List Bool} {s t : State} (h : execChamberByte levels s = .next t) : s.KeepsQueues t := by
  cases h
  exact State.hearLine_induct (P := s.KeepsQueues) (fun _ _ hu => hu.trans (.of_standing rfl))
    (fun u e hu => hu.trans (u.takeEvent_keepsQueues e)) s levels (.refl s)

theorem execChamberCharacterError_keepsQueues {s t : State} (h : execChamberCharacterError s = .next t) : s.KeepsQueues t := by
  cases h
  split
  · split
    · exact .refl s
    · exact .of_standing (State.takeError_standing _)
  · exact .refl s

/-- A second of the soak counts in HOLD and BURN, and at the target takes BURN to SCAN (R13, R116). -/
theorem State.soakSlot_keepsQueues (s : State) (i : SlotId) : s.KeepsQueues (s.soakSlot i) := by
  have hsoak (k : SoakBlock) : s.KeepsQueues (s.modSlot i (fun r => { r with soak := k })) := s.modSlot_keepsQueues i _ (.of_phase rfl rfl)
  unfold State.soakSlot
  split
  case h_1 => exact s.modSlot_keepsQueues i _ (.of_phase rfl rfl)
  case h_2 hp =>
    dsimp only
    split
    · refine ((hsoak _).trans (State.setPhase_keepsQueues _ i _ fun hq => ?_)).trans (.of_standing rfl)
      rw [State.slot_modSlot_self, hp] at hq
      cases hq
    · exact hsoak _
  all_goals exact .refl s

theorem execSoakTick_keepsQueues {s t : State} (h : execSoakTick s = .next t) : s.KeepsQueues t := by
  cases h
  split
  · have htimer (u : State) (x : Option Time) : u.KeepsQueues { u with soakTimer := x } := .of_standing rfl
    exact (State.KeepsQueues.forSlots State.soakSlot_keepsQueues s).trans (htimer _ _)
  · exact .refl s

/-! ## The grade engine (R124, R126) -/

/-- The head of the queue goes to the engine, and the others are not the slot being computed. -/
theorem execGradeTake_keepsQueues {s t : State} (h : execGradeTake s = .next t) : s.KeepsQueues t := by
  unfold execGradeTake at h
  split at h <;> cases h
  · rename_i i rest _ hqueue
    refine ⟨fun hs => ?_, fun hs => hs.of_sublist (.refl _) id fun _ _ => .refl _⟩
    obtain ⟨honce, hwaiting, -⟩ := hs
    rw [hqueue] at honce hwaiting
    obtain ⟨hout, hrest⟩ := List.nodup_cons.mp honce
    exact ⟨hrest, fun j hj => hwaiting j (List.mem_cons_of_mem i hj), fun c hc _ => by cases hc; exact ⟨hout, hwaiting i List.mem_cons_self⟩⟩
  · exact .refl s
  · exact .refl s

/-- The slot of a stored answer is in GRADE_WAIT and out of both queues. -/
theorem State.completeGrade_keepsQueues {s : State} {c : Computation} (hc : s.engine = some c) : s.KeepsQueues (s.completeGrade c) := by
  unfold State.completeGrade
  dsimp only
  split
  · rename_i hstored
    obtain ⟨hvoid, hwait⟩ : c.void = false ∧ (s.slot c.slot).phase = .gradeWait := by simpa using hstored
    have hstore : (State.storeGrade { s with engine := none } c.slot c.inputs.answer).slots =
        s.slots.set c.slot { s.slot c.slot with grade := some c.inputs.answer, phase := .graded } := rfl
    have hother {j : SlotId} (hj : j ≠ c.slot) :
        (s.slot j).StaysQueued ((State.storeGrade { s with engine := none } c.slot c.inputs.answer).slot j) := by
      rw [State.slot_of_set hstore, if_neg hj.symm]; exact .refl _
    refine ⟨fun hs => hs.of_sublist (.refl _) nofun fun j hj => hother fun hjc => ?_,
      fun hs => hs.of_sublist (.refl _) id fun n hn => hother fun hnc => ?_⟩
    · exact (hs.computing c hc hvoid).1 (hjc ▸ hj)
    · have hsealed := (hs.sealed n hn).1
      rw [hnc, hwait] at hsealed
      cases hsealed
  · exact ⟨fun hs => hs.of_sublist (.refl _) nofun fun _ _ => .refl _, fun hs => hs.of_sublist (.refl _) id fun _ _ => .refl _⟩

theorem execGradeCompletion_keepsQueues {s t : State} (h : execGradeCompletion s = .next t) : s.KeepsQueues t := by
  unfold execGradeCompletion at h
  split at h <;> cases h
  · exact .refl s
  · exact State.completeGrade_keepsQueues ‹_›

/-! ## The sort port (Table 9-1) -/

/-- The port with other input levels. -/
theorem State.levels_keepsQueues (s : State) (take busy fault : Bool) :
    s.KeepsQueues { s with sort := { s.sort with take := take, busy := busy, fault := fault } } :=
  s.sort_keepsQueues _ (.refl _) (·.congr rfl rfl)

/-- The notice accepted is the head (R139). -/
theorem execTakeAsserted_keepsQueues {s t : State} (h : execTakeAsserted s = .next t) : s.KeepsQueues t := by
  unfold execTakeAsserted at h
  split at h <;> cases h
  case h_1 n rest hoffer hqueue =>
    have haccepted : s.KeepsQueues { s with sort := { s.sort with take := true, handshake := .release n true } } :=
      s.sort_keepsQueues _ (.refl _) fun _ => ⟨nofun, fun m hm => by cases hm; exact congrArg List.head? hqueue⟩
    exact haccepted.trans (State.modSlot_keepsQueues _ n.slot _ (.of_phase rfl rfl))
  all_goals exact s.levels_keepsQueues true s.sort.busy s.sort.fault

theorem SortPort.takeDropped_queue_sublist (p : SortPort) : p.takeDropped.queue.Sublist p.queue := by
  unfold SortPort.takeDropped
  split
  · dsimp only
    split
    · exact List.tail_sublist _
    · exact .refl _
  all_goals exact .refl _

/-- A release ends in IDLE, and any other handshake goes on (R141). -/
theorem SortPort.HeadSafe.takeDropped {p : SortPort} (h : p.HeadSafe) : p.takeDropped.HeadSafe := by
  unfold SortPort.takeDropped
  split
  case h_1 => exact .of_idle rfl
  all_goals exact h.congr rfl rfl

theorem execFaultAsserted_keepsQueues {s t : State} (h : execFaultAsserted s = .next t) : s.KeepsQueues t := by
  cases h
  have hfault := s.levels_keepsQueues s.sort.take s.sort.busy true
  split
  · exact hfault.trans (State.stallOffer_keepsQueues _)
  · exact hfault

theorem execOfferTimerExpiry_keepsQueues {s t : State} (h : execOfferTimerExpiry s = .next t) : s.KeepsQueues t := by
  cases h
  split
  · exact s.stallOffer_keepsQueues
  · exact .refl s

theorem execSortResume_keepsQueues {args : List Byte} {s t : State} (h : execSortResume args s = .next t) : s.KeepsQueues t := by
  cases h
  refine State.plainCommand_keepsQueues ?_
  split
  · exact s.putSort_keepsQueues _ (.refl _) fun _ => .of_idle rfl
  · trivial

/-! ## Windows, captures, alerts and queries -/

theorem SlotRecord.staysQueued_shipRestarted (r : SlotRecord) (fill : Byte) : r.StaysQueued (r.shipRestarted fill) := by
  unfold SlotRecord.shipRestarted
  split
  case h_1 => exact .of_phase rfl rfl
  all_goals exact .refl r

theorem execWindowWrite_keepsQueues {args : List Byte} {s t : State} (h : execWindowWrite args s = .next t) : s.KeepsQueues t := by
  have hreplace (n : Fin 16) (w : Window) : s.KeepsQueues (s.replaceWindow n w) := by
    have hwindow : s.KeepsQueues { s with windows := s.windows.set n w } := .of_standing rfl
    refine hwindow.trans (.forSlots (fun u i => ?_) _)
    split
    · exact u.modSlot_keepsQueues i _ (SlotRecord.staysQueued_shipRestarted _ _)
    · exact .refl u
  cases h
  refine State.command_keepsQueues ?_
  split
  · split
    · trivial
    · split
      · split
        · exact hreplace _ _
        · trivial
      · trivial
  · trivial

theorem execWindowRead_keepsQueues {args : List Byte} {s t : State} (h : execWindowRead args s = .next t) : s.KeepsQueues t := by
  cases h
  refine State.command_keepsQueues ?_
  split
  · split
    · exact .of_standing rfl
    · trivial
  · trivial

theorem execTableWrite_keepsQueues {args : List Byte} {s t : State} (h : execTableWrite args s = .next t) : s.KeepsQueues t := by
  cases h
  refine State.command_keepsQueues ?_
  split
  · split_ifs
    · exact .of_standing rfl
    all_goals trivial
  · trivial

theorem execCaptureSet_keepsQueues {args : List Byte} {s t : State} (h : execCaptureSet args s = .next t) : s.KeepsQueues t := by
  cases h
  refine State.command_keepsQueues ?_
  split
  · split
    · split
      · exact .of_standing (s.putCapture_standing _)
      · trivial
    · trivial
  · trivial

theorem execCaptureOpen_keepsQueues {args : List Byte} {s t : State} (h : execCaptureOpen args s = .next t) : s.KeepsQueues t := by
  cases h
  refine State.command_keepsQueues ?_
  split
  · split
    · exact .of_standing (s.putCapture_standing _)
    · trivial
  · trivial

theorem execCaptureRead_keepsQueues {args : List Byte} {s t : State} (h : execCaptureRead args s = .next t) : s.KeepsQueues t := by
  cases h
  refine State.plainCommand_keepsQueues ?_
  split
  · exact .of_standing rfl
  · trivial

theorem execAlertAck_keepsQueues {args : List Byte} {s t : State} (h : execAlertAck args s = .next t) : s.KeepsQueues t := by
  cases h
  refine State.command_keepsQueues ?_
  split
  · exact .of_standing rfl
  · trivial

theorem execAlertMask_keepsQueues {args : List Byte} {s t : State} (h : execAlertMask args s = .next t) : s.KeepsQueues t := by
  cases h
  refine State.command_keepsQueues ?_
  split
  · exact .of_standing rfl
  · trivial

theorem execStatus_keepsQueues {args : List Byte} {s t : State} (h : execStatus args s = .next t) : s.KeepsQueues t := by
  cases h
  split
  · exact .refl s
  · unfold plainCommand
    split <;> exact .of_standing rfl

theorem execDefectRead_keepsQueues {args : List Byte} {s t : State} (h : execDefectRead args s = .next t) : s.KeepsQueues t := by
  cases h
  refine State.command_keepsQueues ?_
  split
  · split
    · split
      · exact .of_standing rfl
      · trivial
    · trivial
  · trivial

/-! ## Resets, loads and the profile -/

/-- A reset empties both queues and the engine (R121, R123, R145). -/
theorem State.restarted_keepsQueues {s u : State} (records : Vector SlotRecord 8) : s.KeepsQueues (u.restarted records) where
  grade _ := ⟨List.nodup_nil, nofun, nofun⟩
  sort _ := ⟨List.nodup_nil, nofun, .of_idle rfl⟩

theorem execProfileReload_keepsQueues {args : List Byte} {s t : State} (h : execProfileReload args s = .next t) : s.KeepsQueues t := by
  cases h
  refine State.plainCommand_keepsQueues ?_
  split
  · exact .of_standing rfl
  · trivial

theorem execProfileReady_keepsQueues {eeprom : Option (List Byte)} {s t : State} (h : execProfileReady eeprom s = .next t) :
    s.KeepsQueues t := by
  rw [← Host.Outcome.next.inj h]
  split
  · exact .refl s
  · rename_i kind _ _
    split
    · exact .refl s
    · cases kind <;> exact .of_standing rfl

/-- An item takes effect on the links, the chamber receiver, or an offer that it stalls (R37, R110, R119, R140). -/
theorem State.itemTakesEffect_keepsQueues (s : State) (code old : Nat) : s.KeepsQueues (s.itemTakesEffect code old) := by
  unfold State.itemTakesEffect State.timeoutsLowered
  split_ifs
  · exact .of_standing (State.foldl_standing State.expireSlot_standing allSlots s)
  · exact .refl s
  · exact .of_standing rfl
  · exact .of_standing rfl
  · exact .refl s
  · exact s.stallOffer_keepsQueues
  · exact .refl s
  · exact .refl s

theorem execProfileSet_keepsQueues {args : List Byte} {s t : State} (h : execProfileSet args s = .next t) : s.KeepsQueues t := by
  have hprofile (p : Profile) : s.KeepsQueues { s with profile := p } := .of_standing rfl
  cases h
  refine State.command_keepsQueues ?_
  split
  · unfold State.setProfile
    split_ifs
    · trivial
    · exact .of_standing rfl
    · exact .of_standing (s.putCapture_standing _)
    · split
      · exact (hprofile _).trans (State.itemTakesEffect_keepsQueues _ _ _)
      · trivial
  · trivial

/-! ## A whole step -/

/-- Every command and event keeps the queues. -/
theorem exec_keepsQueues {c : Instr} {s t : State} (h : exec c s = .next t) : s.KeepsQueues t := by
  cases c with
  | chipReset => cases h; exact State.restarted_keepsQueues _
  | chipResetRelease straps => cases h; exact State.restarted_keepsQueues _
  | profileReady eeprom => exact execProfileReady_keepsQueues h
  | unknownCommand code args => cases h; exact State.command_keepsQueues trivial
  | status args => exact execStatus_keepsQueues h
  | slotStatus args => cases h; exact s.slotQuery_keepsQueues args State.slotStatusPayload
  | slotCounters args => cases h; exact s.slotQuery_keepsQueues args (fun s i => (s.slot i).countersPayload)
  | histogram args => cases h; exact s.slotQuery_keepsQueues args State.histogramPayload
  | defectRead args => exact execDefectRead_keepsQueues h
  | start args => exact execStart_keepsQueues h
  | advancePass args => exact execAdvancePass_keepsQueues h
  | endBurn args => cases h; exact s.phaseChange_keepsQueues args (f := Phase.endBurn) rfl rfl
  | pause args => cases h; exact s.phaseChange_keepsQueues args (f := Phase.pause) rfl rfl
  | resume args => cases h; exact s.phaseChange_keepsQueues args (f := Phase.resume) rfl rfl
  | grade args => exact execGrade_keepsQueues h
  | ship args => exact execShip_keepsQueues h
  | sealSlot args => exact execSeal_keepsQueues h
  | release args => exact execRelease_keepsQueues h
  | clearSlot args =>
    cases h; exact State.slotCommand_keepsQueues (rule := fun s i => .ok (s.slotClear i) []) fun i => s.slotClear_keepsQueues i
  | windowWrite args => exact execWindowWrite_keepsQueues h
  | windowRead args => exact execWindowRead_keepsQueues h
  | tableWrite args => exact execTableWrite_keepsQueues h
  | captureSet args => exact execCaptureSet_keepsQueues h
  | captureOpen args => exact execCaptureOpen_keepsQueues h
  | captureRead args => exact execCaptureRead_keepsQueues h
  | captureClose args => cases h; exact State.plainCommand_keepsQueues (.of_standing (s.putCapture_standing _))
  | alertRead args => cases h; exact State.plainCommand_keepsQueues (.of_standing rfl)
  | alertAck args => exact execAlertAck_keepsQueues h
  | alertMask args => exact execAlertMask_keepsQueues h
  | sortResume args => exact execSortResume_keepsQueues h
  | profileSet args => exact execProfileSet_keepsQueues h
  | profileReload args => exact execProfileReload_keepsQueues h
  | softReset args => cases h; exact State.plainCommand_keepsQueues (State.restarted_keepsQueues (u := s) _)
  | rawPresenceChange i level => exact execRawPresenceChange_keepsQueues h
  | debounceEnd i => exact execDebounceEnd_keepsQueues h
  | commandFrame i f => exact .of_standing (execCommandFrame_standing h)
  | pendingStatusSend i => cases h; exact .of_standing rfl
  | dataSetupNotice i n => exact .of_standing (execDataSetupNotice_standing h)
  | dataFrame i f => exact .of_standing (execDataFrame_standing h)
  | successStatus i st => exact .of_standing (execSuccessStatus_standing h)
  | errorStatus i r => exact .of_standing (execErrorStatus_standing h)
  | commandTimeout i e => cases h; split; exact .of_standing (s.expireEntry_standing i e); exact .refl s
  | driveLinkReset i => exact .of_standing (execDriveLinkReset_standing h)
  | soakTick => exact execSoakTick_keepsQueues h
  | chamberByte levels => exact execChamberByte_keepsQueues h
  | chamberCharacterError => exact execChamberCharacterError_keepsQueues h
  | chamberBreak => cases h; split <;> exact .of_standing rfl
  | lineBreakClear => cases h; split <;> exact .of_standing rfl
  | staleTimerExpiry => cases h; split <;> exact .of_standing rfl
  | gradeTake => exact execGradeTake_keepsQueues h
  | gradeCompletion => exact execGradeCompletion_keepsQueues h
  | takeAsserted => exact execTakeAsserted_keepsQueues h
  | takeDeasserted => cases h; exact s.putSort_keepsQueues _ s.sort.takeDropped_queue_sublist (·.takeDropped)
  | faultAsserted => exact execFaultAsserted_keepsQueues h
  | faultDeasserted => cases h; exact s.putSort_keepsQueues _ (.refl _) (·.congr rfl rfl)
  | busyAsserted => cases h; exact s.levels_keepsQueues s.sort.take true s.sort.fault
  | busyDeasserted => cases h; exact s.putSort_keepsQueues _ (.refl _) (·.congr rfl rfl)
  | offerTimerExpiry => exact execOfferTimerExpiry_keepsQueues h

/-- A step takes the front command of the queue, an event of the part's own, or a microsecond. -/
theorem step_keepsQueues {s t : State} (h : step s = .next t) : s.KeepsQueues t := by
  unfold step at h
  split at h
  · rename_i rest _
    have hfront : s.KeepsQueues { s with pending := rest } := .of_standing rfl
    exact hfront.trans (exec_keepsQueues h)
  · split at h
    · rename_i c u ho
      obtain ⟨d, -, hd⟩ := Option.map_eq_some_iff.mp ho
      cases hd
      have hcounted : s.KeepsQueues { s with tieCount := s.tieCount + 1 } := .of_standing rfl
      exact hcounted.trans (exec_keepsQueues h)
    · cases h
      unfold State.tick
      split
      · exact .refl s
      · exact .of_standing rfl

/-- Settles O57, queue by queue, by the commands that put a slot in or take one out; every other keeps its slots. -/
theorem queueInvariant : Obligations.QueueInvariant := by
  intro s t h
  rw [s.gradeSafe_iff, t.gradeSafe_iff, s.sortSafe_iff, t.sortSafe_iff]
  obtain ⟨hgrade, hsort⟩ := step_keepsQueues h
  exact ⟨hgrade, hsort⟩

end Sys2Proof.Machine
end

section
/-!
STATUS (R146, R160, R171, Table 12-4): its payload as the list of its fields, each queue one field of eight bytes.
-/
namespace Sys2Proof.Machine

/-! ## Bytes and flags of a payload (R171) -/

theorem optByte_eq_le (o : Option Nat) : [optByte o] = le 1 (o.getD 255) := by cases o <;> rfl

theorem flagBits_three (a b c : Bool) : flagBits [a, b, c] = bit a + 2 * bit b + 4 * bit c := by
  simp only [flagBits, bit]
  omega

/-- Byte `k` of a field stands `k` behind the field's first. -/
theorem hasField_byte {p bs : List Byte} {off k : Nat} {b : Byte} (h : hasField p off bs) (hb : bs[k]? = some b) :
    hasField p (off + k) [b] := by
  obtain ⟨hk, -⟩ := List.getElem?_eq_some_iff.mp hb
  have hat : p[off + k]? = some b := by
    rw [← hb, ← List.getElem?_drop, ← List.getElem?_take_of_lt hk, h]
  obtain ⟨hlt, rfl⟩ := List.getElem?_eq_some_iff.mp hat
  unfold hasField
  rw [List.drop_eq_getElem_cons hlt]
  rfl

/-! ## The queues of Table 12-4 -/

theorem padTo_getElem? {n k : Nat} (hk : k < n) (pad : Byte) (bs : List Byte) : (padTo n pad bs)[k]? = some (bs[k]?.getD pad) := by
  rw [padTo, List.getElem?_take_of_lt hk]
  by_cases h : k < bs.length
  · simp [List.getElem?_append_left h, h]
  · have hpad : k - bs.length < n := by omega
    simp [List.getElem?_append_right (Nat.le_of_not_lt h), List.getElem?_eq_none (Nat.le_of_not_lt h), hpad]

/-- Place `k` of a queue is its entry's byte, and 0xFF where the queue is shorter. -/
theorem hasField_queue {α : Type} {p : List Byte} {off n k : Nat} {code : α → Nat} {queue : List α}
    (h : hasField p off (padTo n absentByte (queue.map fun a => BitVec.ofNat 8 (code a)))) (hk : k < n) :
    hasField p (off + k) (le 1 ((queue[k]?.map code).getD 255)) := by
  have hbyte := hasField_byte h (padTo_getElem? hk _ _)
  rw [List.getElem?_map] at hbyte
  rw [← optByte_eq_le]
  cases hq : queue[k]? <;> rw [hq] at hbyte <;> exact hbyte

/-! ## Table 12-4 -/

/-- The fields of Table 12-4 in order. -/
def State.statusFields (s : State) : List (List Byte) :=
  let l := s.loaderResult
  [le 1 (bit (s.loader == .ready)), le 1 l.source.code, le 2 l.stored, le 1 (min l.skipped 255), le 1 l.clamped,
    le 2 (l.firstClamped.getD 65535),
    le 1 (s.straps.addr.toNat + 8 * bit s.straps.slots4 + 16 * bit s.straps.noload + 32 * bit s.straps.sect4k),
    le 1 (bit (s.sectorSize == .s4096)), le 4 s.timebase.toNat, le 3 s.alerts.toNat, le 2 s.freeExtents,
    le 1 ((s.capture.openRecord.map (·.val)).getD 255), le 1 ((s.capture.locked.map (·.val)).getD 255),
    le 1 ((s.capture.staging.map (·.aim.val)).getD 255), le 2 s.capture.stagedLost, le 2 s.capture.unmatched,
    le 1 (bit s.chamber.frame.isSome + 2 * bit s.chamber.lineBreak + 4 * bit (!s.chamber.fresh)), [s.chamber.status],
    le 1 ((s.chamber.prevSeq.map BitVec.toNat).getD 255), le 2 s.chamber.lineErrors, le 2 s.chamber.seqGaps,
    le 2 s.chamber.breaks, le 4 s.chamber.framesTaken,
    le 1 s.gradeQueue.length, padTo 8 absentByte (s.gradeQueue.map fun i => BitVec.ofNat 8 i.val), le 1 (bit s.engine.isSome),
    le 1 ((s.engine.map (·.slot.val)).getD 255), le 1 (bit ((s.engine.map (·.void)).getD false)),
    le 1 s.sort.handshake.code, le 1 s.sort.queue.length, padTo 8 absentByte (s.sort.queue.map Notice.byte),
    le 1 (bit s.sort.take + 2 * bit s.sort.busy + 4 * bit s.sort.fault)]

/-- The widths of the fields of Table 12-4, in bytes. -/
def statusWidths : List Nat :=
  [1, 1, 2, 1, 1, 2, 1, 1, 4, 3, 2, 1, 1, 1, 2, 2, 1, 1, 1, 2, 2, 2, 4, 1, 8, 1, 1, 1, 1, 1, 8, 1]

theorem State.statusFields_widths (s : State) : s.statusFields.map List.length = statusWidths := by
  simp [State.statusFields, statusWidths, padTo]

theorem strapsByte_eq_le (t : Straps) :
    [strapsByte t] = le 1 (t.addr.toNat + 8 * bit t.slots4 + 16 * bit t.noload + 32 * bit t.sect4k) := by
  have hflags : t.addr.toNat + 8 * flagBits [t.slots4, t.noload, t.sect4k] =
      t.addr.toNat + 8 * bit t.slots4 + 16 * bit t.noload + 32 * bit t.sect4k := by
    rw [flagBits_three]
    omega
  rw [strapsByte, hflags]
  rfl

/-- Before the loader is READY a load is in progress. -/
theorem State.not_isLoading (s : State) : (!s.isLoading) = (s.loader == .ready) := by
  simp [State.isLoading, bne]

theorem State.statusPayload_eq (s : State) : s.statusPayload = s.statusFields.flatten := by
  unfold State.statusPayload State.statusFields LoaderResult.bytes
  simp only [strapsByte_eq_le, flagBits_three, s.not_isLoading, ← flagByte_eq_le, ← optByte_eq_le, List.flatten_cons,
    List.flatten_nil, List.append_assoc, List.cons_append, List.nil_append, List.append_nil]

/-- STATUS is answered also during a load (R160). -/
theorem execStatus_answered {s : State} (h : s.inReset = false) :
    exec (.status []) s = .next (s.answer .ok s.statusPayload) :=
  congrArg Host.Outcome.next (if_neg (by simp [h]))

/-- Settles O15: each field by its place in Table 12-4. -/
theorem statusReply : Obligations.StatusReply := by
  refine fun s hs => ⟨_, execStatus_answered hs, rfl, rfl, ?_⟩
  intro p
  have field {off : Nat} {bs : List Byte} (k : Nat) (hk : s.statusFields[k]? = some bs)
      (hoff : (statusWidths.take k).sum = off) : hasField p off bs := by
    change hasField s.statusPayload off bs
    rw [s.statusPayload_eq]
    exact hasField_flatten s.statusFields_widths hk hoff
  refine ⟨field 0 rfl rfl, ?loader, field 6 rfl rfl, field 7 rfl rfl, field 8 rfl rfl, field 9 rfl rfl, field 10 rfl rfl,
    ?capture, ?chamber, ?grading, ?sort⟩
  case loader => exact ⟨field 1 rfl rfl, field 2 rfl rfl, field 3 rfl rfl, field 4 rfl rfl, field 5 rfl rfl⟩
  case capture => exact ⟨field 11 rfl rfl, field 12 rfl rfl, field 13 rfl rfl, field 14 rfl rfl, field 15 rfl rfl⟩
  case chamber =>
    exact ⟨field 16 rfl rfl, field 17 rfl rfl, field 18 rfl rfl, field 19 rfl rfl, field 20 rfl rfl, field 21 rfl rfl,
      field 22 rfl rfl⟩
  case grading =>
    exact ⟨field 23 rfl rfl, fun k => hasField_queue (field 24 rfl rfl), field 25 rfl rfl, field 26 rfl rfl, field 27 rfl rfl⟩
  case sort =>
    exact ⟨field 28 rfl rfl, field 29 rfl rfl, fun k => hasField_queue (field 30 rfl rfl), field 31 rfl rfl⟩

end Sys2Proof.Machine
end

section
/-!
The sort port (09_sort_port.md, R137 to R142, Table 9-1): what each of its events does in each handshake state.
-/
namespace Sys2Proof.Machine

/-! ## The offer (R139, R140) -/

theorem Handshake.isOffer_offer {h : Handshake} {began : Time} (ho : h = .offer began) : h.isOffer = true := by rw [ho]; rfl

theorem Handshake.isOffer_eq_false {h : Handshake} (hn : ∀ began, h ≠ .offer began) : h.isOffer = false := by
  cases h with
  | offer began => exact absurd rfl (hn began)
  | _ => rfl

/-- TAKE in OFFER accepts the head of the queue (R139). -/
theorem execTakeAsserted_offer {s : State} {began : Time} {n : Notice} {rest : List Notice}
    (ho : s.sort.handshake = .offer began) (hq : s.sort.queue = n :: rest) :
    execTakeAsserted s = .next (s.acceptOffer n) := by
  unfold execTakeAsserted
  rw [ho, hq]

/-- TAKE outside OFFER takes its level only (R142). -/
theorem execTakeAsserted_level {s : State} (hn : ∀ began, s.sort.handshake ≠ .offer began) :
    execTakeAsserted s = .next { s with sort := { s.sort with take := true } } := by
  unfold execTakeAsserted
  split
  next began _ _ ho _ => exact absurd ho (hn began)
  all_goals rfl

theorem State.acceptOffer_eq (s : State) (n : Notice) : s.acceptOffer n = { s with
    sort := { s.sort with take := true, handshake := .release n true }
    slots := s.slots.set n.slot { s.slot n.slot with sorted := true } } := rfl

theorem State.stallOffer_eq (s : State) : s.stallOffer = { s with
    sort := { s.sort with handshake := .stalled }, alerts := s.alerts ||| (1#17 <<< 5) } := rfl

/-- FAULT in OFFER ends the offer (R140). -/
theorem execFaultAsserted_offer {s : State} {began : Time} (ho : s.sort.handshake = .offer began) :
    execFaultAsserted s = .next (State.stallOffer { s with sort := { s.sort with fault := true } }) :=
  congrArg Host.Outcome.next (if_pos (Handshake.isOffer_offer ho))

/-- FAULT outside OFFER takes its level only (R140). -/
theorem execFaultAsserted_level {s : State} (hn : ∀ began, s.sort.handshake ≠ .offer began) :
    execFaultAsserted s = .next { s with sort := { s.sort with fault := true } } :=
  congrArg Host.Outcome.next (if_neg (by simp [Handshake.isOffer_eq_false hn]))

/-- An offer is due only in OFFER, and only when its timer has reached the timeout (R140). -/
theorem State.reached_of_offerDue {s : State} (h : s.offerDue = true) :
    ∃ began, s.sort.handshake = .offer began ∧ s.profile.offerTimeout * 1000000 ≤ s.elapsed began := by
  unfold State.offerDue at h
  split at h
  next began ho => exact ⟨began, ho, of_decide_eq_true (Bool.and_eq_true_iff.mp h).2⟩
  all_goals cases h

theorem execOfferTimerExpiry_due {s : State} (h : s.offerDue = true) : execOfferTimerExpiry s = .next s.stallOffer :=
  congrArg Host.Outcome.next (if_pos h)

theorem execOfferTimerExpiry_unreached {s : State}
    (h : ∀ began, s.sort.handshake = .offer began → s.elapsed began < s.profile.offerTimeout * 1000000) :
    execOfferTimerExpiry s = .next s := by
  refine congrArg Host.Outcome.next (if_neg fun hdue => ?_)
  obtain ⟨began, ho, hreached⟩ := State.reached_of_offerDue hdue
  exact absurd (h began ho) (Nat.not_lt_of_le hreached)

/-! ## The fall of TAKE (R141) -/

theorem SortPort.takeDropped_queued {p : SortPort} {n : Notice} (h : p.handshake = .release n true) :
    p.takeDropped = { p with take := false, handshake := .idle, queue := p.queue.tail } := by
  unfold SortPort.takeDropped
  rw [h]
  rfl

/-- A notice withdrawn during its release has left the queue already (R143). -/
theorem SortPort.takeDropped_withdrawn {p : SortPort} {n : Notice} (h : p.handshake = .release n false) :
    p.takeDropped = { p with take := false, handshake := .idle } := by
  unfold SortPort.takeDropped
  rw [h]
  rfl

theorem SortPort.takeDropped_level {p : SortPort} (hn : ∀ n queued, p.handshake ≠ .release n queued) :
    p.takeDropped = { p with take := false } := by
  unfold SortPort.takeDropped
  split
  next n queued hr => exact absurd hr (hn n queued)
  all_goals rfl

/-! ## SORT_RESUME (R142) -/

theorem execSortResume_stalled {s : State} (hs : s.ready) (h : s.sort.handshake = .stalled) :
    exec (.sortResume []) s = .next ((s.putSort { s.sort with handshake := .idle }).answer .ok []) :=
  congrArg Host.Outcome.next (State.command_ok hs (if_pos h))

theorem execSortResume_refused {s : State} (hs : s.ready) (h : s.sort.handshake ≠ .stalled) :
    exec (.sortResume []) s = .next (s.answer .refused []) :=
  congrArg Host.Outcome.next (State.command_no hs (if_neg h))

/-! ## The settled statement -/

/-- Settles O51: each event by its rule; wherever the port may be idle, the next head is offered as R138 allows. -/
theorem sortHandshake : Obligations.SortHandshake := by
  intro s p idleWith
  have hidle (q : SortPort) : s.putSort q = { s with sort := idleWith q } := by
    rw [State.putSort, SortPort.offering_eq]
  have hdropped {q : SortPort} (h : p.takeDropped = q) : exec .takeDeasserted s = .next { s with sort := idleWith q } := by
    rw [← hidle, ← h]
    rfl
  refine ⟨fun began n rest ho hq => ?offered, fun hn => ?_, fun n hr => hdropped (SortPort.takeDropped_queued hr),
    fun n hr => hdropped (SortPort.takeDropped_withdrawn hr), fun hn => hdropped (SortPort.takeDropped_level hn), rfl,
    congrArg Host.Outcome.next (hidle _), congrArg Host.Outcome.next (hidle _), fun began ho => ?stalls, fun hs => ⟨?_, ?_⟩⟩
  case offered =>
    have hshown : p.presented = some n := by
      unfold SortPort.presented
      rw [ho]
      exact congrArg List.head? hq
    have hslot : p.slotOut = BitVec.ofNat 3 n.slot.val := by rw [SortPort.slotOut, hshown]; rfl
    have hbin : p.binOut = BitVec.ofNat 3 (binCode n.bin) := by rw [SortPort.binOut, hshown]; rfl
    have hstrobe : p.strobe = true := by unfold SortPort.strobe; rw [ho]
    exact ⟨hstrobe, hslot, hbin, _, execTakeAsserted_offer ho hq, s.acceptOffer_eq n, rfl, hslot.symm, hbin.symm⟩
  · exact ⟨execTakeAsserted_level hn, execFaultAsserted_level hn,
      execOfferTimerExpiry_unreached fun began ho => absurd ho (hn began)⟩
  case stalls =>
    refine ⟨execFaultAsserted_offer ho, fun hr hreached => ?_, fun hearly => ?_⟩
    · exact execOfferTimerExpiry_due ((State.offerDue_iff hr).mpr ⟨began, ho, hreached⟩)
    · refine execOfferTimerExpiry_unreached fun b hb => ?_
      cases ho.symm.trans hb
      exact hearly
  · intro h
    rw [execSortResume_stalled hs h, hidle]
    rfl
  · exact execSortResume_refused hs

end Sys2Proof.Machine
end

section
/-!
The headline of the profile image (R166, R173): bytes that follow an image in the EEPROM do not change what the loader reads.
-/
namespace Sys2Proof.Machine

/-- The length field is one of the bytes of the header. -/
theorem imageLength_append {bytes : List Byte} (h : 6 ≤ bytes.length) (extra : List Byte) :
    imageLength (bytes ++ extra) = imageLength bytes := by
  rw [imageLength, List.drop_append_of_le_length (by omega), List.take_append_of_le_length (by rw [List.length_drop]; omega), imageLength]

theorem WholeImage.append {bytes : List Byte} (h : WholeImage bytes) (extra : List Byte) : WholeImage (bytes ++ extra) where
  header := by rw [List.length_append]; exact Nat.le_add_right_of_le h.header
  signature := by rw [List.take_append_of_le_length (Nat.le_trans (by decide) h.header)]; exact h.signature
  low := by rw [imageLength_append h.header]; exact h.low
  high := by rw [imageLength_append h.header]; exact h.high
  present := by rw [imageLength_append h.header, List.length_append]; exact Nat.le_add_right_of_le h.present

/-- The loader reads a whole image alone, and nothing behind it (R166). -/
theorem loadImage_append {bytes : List Byte} (h : WholeImage bytes) (extra : List Byte) :
    loadImage false (some (bytes ++ extra)) = loadImage false (some bytes) := by
  rw [loadImage_whole (h.append extra), loadImage_whole h, imageLength_append h.header, List.take_append_of_le_length h.present]

/-- Settles O8: an image as it was written is a whole one, which the loader reads without the bytes behind it. -/
theorem profileImageRoundTrip : Obligations.ProfileImageRoundTrip := by
  intro items extra hitems hlength
  rw [loadImage_append (wholeImage_encodeImage hlength)]
  exact loadImage_encodeImage hitems hlength

end Sys2Proof.Machine
end

section
/-!
PROFILE_SET of the items with a fixed range (R168, R172, Table 11-3).
-/
namespace Sys2Proof.Machine

/-- An item with a fixed range is no ordered one, and PROFILE_SET stores it as a load does. -/
theorem Profile.setItem_ranged (p : Profile) (largest v : Nat) {code lo hi : Nat} (h : (code, lo, hi) ∈ rangeItems) :
    p.setItem largest code v = some (p.storeNumber code v) := by
  have hplain : code ∈ rangeItems.map (·.1) := List.mem_map_of_mem (f := (·.1)) h
  have hcodes : ∀ c ∈ rangeItems.map (·.1), c ∉ [0x0008, 0x000B, 0x000C, 0x0018, 0x0019, 0x001A] ∧ 0x0003 ≤ c ∧ c ≤ 0x001C ∧
      (itemSize c).isSome = true := by decide
  obtain ⟨hordered, hitem⟩ := hcodes code hplain
  simp only [List.mem_cons, List.not_mem_nil, or_false, not_or] at hordered
  obtain ⟨hcap, hh1, hh2, hb1, hb2, hb3⟩ := hordered
  have hhigh := hitem.2.1
  rw [Profile.setItem, if_neg hcap, if_neg hh1, if_neg hh2, if_neg hb1, if_neg hb2, if_neg hb3, dif_neg (by omega), dif_neg (by omega),
    if_pos hitem]

theorem rangeItems_code {code lo hi : Nat} (h : (code, lo, hi) ∈ rangeItems) : 0x0003 ≤ code ∧ code ≤ 0x001B := by
  have hcodes : ∀ c ∈ rangeItems.map (·.1), 0x0003 ≤ c ∧ c ≤ 0x001B := by decide
  exact hcodes code (List.mem_map_of_mem (f := (·.1)) h)

/-- What an item causes at once leaves the profile (R168). -/
theorem State.itemTakesEffect_profile (s : State) (code old : Nat) : (s.itemTakesEffect code old).profile = s.profile :=
  congrArg (·.1) (s.itemTakesEffect_settings code old)

/-- An item that causes nothing at once. -/
theorem State.itemTakesEffect_none (s : State) {code : Nat} (h : code ∉ [0x0003, 0x0009, 0x000A, 0x000D]) (old : Nat) :
    s.itemTakesEffect code old = s := by
  simp only [List.mem_cons, List.not_mem_nil, or_false, not_or] at h
  obtain ⟨htimeout, hdivisor, hstale, hoffer⟩ := h
  rw [State.itemTakesEffect, if_neg htimeout, if_neg hdivisor, if_neg hstale, if_neg hoffer]

/-- PROFILE_SET of an item with a fixed range: stored with its clamp, then what it causes at once. -/
theorem execProfileSet_ranged {s : State} (hs : s.ready) {code lo hi v : Nat} (h : (code, lo, hi) ∈ rangeItems) (hv : v < 4294967296) :
    exec (.profileSet (le 2 code ++ le 4 v)) s =
      .next ((State.itemTakesEffect { s with profile := s.profile.storeNumber code v } code s.profile.commandTimeout).answer .ok
        (le 4 (clampTo lo hi v))) := by
  obtain ⟨hlow, hhigh⟩ := rangeItems_code h
  have hset : s.setProfile code v = .ok (State.itemTakesEffect { s with profile := s.profile.storeNumber code v } code
      s.profile.commandTimeout) (le 4 ((s.profile.storeNumber code v).number code)) := by
    rw [State.setProfile, if_neg (by omega), if_neg (by omega), dif_neg (by omega), s.profile.setItem_ranged _ v h]
  rw [execProfileSet_item hs (by omega) hv hset, s.profile.number_storeNumber h]

/-- Settles O9: the stored number is the clamped one, no other moves, and what the item causes at once leaves the profile. -/
theorem profileSetClampsToRange : Obligations.ProfileSetClampsToRange := by
  intro s code lo hi v hs hcode hv
  refine ⟨_, execProfileSet_ranged hs hcode hv, ?_, rfl, fun other hother hne => ?_, fun hnone => ?_⟩
  · rw [State.answer_profile, State.itemTakesEffect_profile]
    exact s.profile.number_storeNumber hcode v
  · rw [State.answer_profile, State.itemTakesEffect_profile]
    exact s.profile.number_storeNumber_other hcode v hother hne
  · rw [State.itemTakesEffect_none _ hnone]
    rfl

end Sys2Proof.Machine
end

section
/-!
The alert commands and the alert output (R163, R164, R171).
-/
namespace Sys2Proof.Machine

/-- Bit of a flag in the set that three bytes name: bits 17 to 23 are ignored (R171). -/
theorem alertSetOf_bit {named : Nat} (h : named < 16777216) (f : AlertFlag) :
    (BitVec.ofNat 17 (fromLe (le 3 named))).getLsbD f.bit = named.testBit f.bit := by
  rw [fromLe_le_of_lt h, BitVec.getLsbD_ofNat, decide_eq_true f.bit_lt, Bool.true_and]

/-- Every bit of an alert set is the bit of a flag (Table 12-1). -/
theorem AlertFlag.exists_bit {n : Nat} (h : n < 17) : ∃ f : AlertFlag, f.bit = n := by
  refine ⟨AlertFlag.ofBit n, ?_⟩
  revert n
  decide

/-- The alert output is asserted exactly while some flag is set whose mask bit is set (R163). -/
theorem State.alertOutput_iff (s : State) :
    s.alertOutput = true ↔ ∃ f : AlertFlag, s.alertSet f = true ∧ s.alertMask.getLsbD f.bit = true := by
  have hboth (n : Nat) : (s.alerts &&& s.alertMask).getLsbD n = true ↔ s.alerts.getLsbD n = true ∧ s.alertMask.getLsbD n = true := by
    rw [BitVec.getLsbD_and, Bool.and_eq_true]
  rw [State.alertOutput, bne_iff_ne]
  constructor
  · intro hne
    by_contra hnone
    refine hne (BitVec.eq_of_getLsbD_eq fun n hn => ?_)
    obtain ⟨f, rfl⟩ := AlertFlag.exists_bit hn
    rw [BitVec.getLsbD_zero, Bool.eq_false_iff]
    exact fun hbit => hnone ⟨f, (hboth _).mp hbit⟩
  · rintro ⟨f, hf⟩ hzero
    have hbit := (hboth f.bit).mpr hf
    rw [hzero, BitVec.getLsbD_zero] at hbit
    exact Bool.false_ne_true hbit

/-- Settles O18: each alert command by its rule, the output by the bits of the set and the mask. -/
theorem alertCommandsAndOutput : Obligations.AlertCommandsAndOutput := by
  refine ⟨fun s named hs hnamed => ⟨?_, ⟨_, congrArg Host.Outcome.next (State.command_ok hs rfl), rfl, fun f => ?_⟩,
    ⟨_, congrArg Host.Outcome.next (State.command_ok hs rfl), rfl, alertSetOf_bit hnamed⟩⟩, State.alertOutput_iff⟩
  · exact congrArg Host.Outcome.next (State.command_ok hs rfl)
  · show (s.alerts &&& ~~~BitVec.ofNat 17 (fromLe (le 3 named))).getLsbD f.bit = _
    rw [BitVec.getLsbD_and, BitVec.getLsbD_not, alertSetOf_bit hnamed, decide_eq_true f.bit_lt, Bool.true_and, State.alertSet]

end Sys2Proof.Machine
end

section
/-!
The queue of commands (95_what_each_step_holds.md): no shared operation of the part changes it.
-/
namespace Sys2Proof.Machine

/-! ## Reports and captures (R26, R80, R100) -/

@[simp] theorem State.report_pending (s : State) (i : SlotId) (f : SlotRecord → SlotRecord) : (s.report i f).pending = s.pending := by
  obtain ⟨-, h⟩ | ⟨-, h⟩ := s.report_cases i f <;> rw [h]
  rfl

@[simp] theorem State.capturing_pending (s : State) (e : CaptureEvent) : (s.capturing e).pending = s.pending := by
  obtain ⟨-, h⟩ | ⟨-, h⟩ := s.capturing_cases e <;> rw [h]
  exact s.putCapture_pending _

@[simp] theorem State.insertDefect_pending (s : State) (i : SlotId) (lba : Nat) (c : Cause) (pass : Nat) :
    (s.insertDefect i lba c pass).pending = s.pending := by
  obtain ⟨-, d, free, -, h⟩ | ⟨-, h⟩ := s.insertDefect_cases i lba c pass <;> rw [h]
  rfl

/-! ## Folds -/

/-- What each operation of a fold leaves of the queue, the fold leaves. -/
theorem State.foldl_pending {α : Type} {f : State → α → State} (h : ∀ u x, (f u x).pending = u.pending) (l : List α) (s : State) :
    (l.foldl f s).pending = s.pending :=
  List.foldlRecOn l f (motive := fun u => u.pending = s.pending) rfl fun u hu x _ => (h u x).trans hu

theorem State.forSlots_pending {f : State → SlotId → State} (h : ∀ u i, (f u i).pending = u.pending) (s : State) :
    (s.forSlots f).pending = s.pending := State.foldl_pending h allSlots s

/-! ## Tag entries and command frames (R27 to R31, R40) -/

@[simp] theorem State.modEntry_pending (s : State) (i : SlotId) (e : EntryId) (f : TagEntry → TagEntry) :
    (s.modEntry i e f).pending = s.pending := by
  obtain ⟨-, h⟩ | ⟨t, -, h⟩ := s.modEntry_cases i e f <;> rw [h]
  rfl

@[simp] theorem State.markUntracked_pending (s : State) (i : SlotId) (e : EntryId) : (s.markUntracked i e).pending = s.pending := by
  obtain h | ⟨t, -, -, h⟩ := s.markUntracked_cases i e <;> rw [h]
  exact s.report_pending i _

@[simp] theorem State.noteOverrun_pending (s : State) (i : SlotId) (e : EntryId) (t : TagEntry) :
    (s.noteOverrun i e t).pending = s.pending := by
  obtain ⟨-, h⟩ | ⟨-, h⟩ := s.noteOverrun_cases i e t <;> rw [h]
  exact s.report_pending i _

@[simp] theorem State.collide_pending (s : State) (i : SlotId) (e : EntryId) : (s.collide i e).pending = s.pending := by
  unfold State.collide
  split
  · exact s.report_pending i _
  · rfl

@[simp] theorem State.withhold_pending (s : State) (i : SlotId) (e : EntryId) : (s.withhold i e).pending = s.pending :=
  s.report_pending i _

@[simp] theorem State.openEntry_pending (s : State) (i : SlotId) (f : CommandFrame) : (s.openEntry i f).pending = s.pending := rfl

/-! ## Data frames (R30, R31, R65 to R74) -/

@[simp] theorem State.testResult_pending (s : State) (i : SlotId) (e : EntryId) (lba pass : Nat) (c : CheckResult) :
    (s.testResult i e lba pass c).pending = s.pending := by
  cases c <;> simp [State.testResult]

@[simp] theorem State.applyResult_pending (s : State) (i : SlotId) (e : EntryId) (t : TagEntry) (x : SectorInProgress)
    (c : CheckResult) : (s.applyResult i e t x c).pending = s.pending := by
  have hentry : (if c = .isMatch then s else s.modEntry i e fun u => { u with errorSectors := inc16 u.errorSectors }).pending =
      s.pending := by split <;> simp
  unfold State.applyResult
  dsimp only
  split <;> simp [hentry]

@[simp] theorem State.finishSector_pending (s : State) (i : SlotId) (e : EntryId) (t : TagEntry) (x : SectorInProgress) :
    (s.finishSector i e t x).pending = s.pending := by
  unfold State.finishSector
  split
  · rfl
  · split
    · unfold State.countSubstituted
      split <;> simp
    · exact s.applyResult_pending i e t x _

theorem State.passByte_pending (s : State) (i : SlotId) (e : EntryId) (t : TagEntry) (offset : Nat) (good : Bool) (b : Byte) :
    (s.passByte i e t offset good b).1.pending = s.pending := by
  unfold State.passByte
  dsimp only
  split
  · dsimp only
    split <;> simp
  · rfl

theorem State.passOne_pending (s : State) (i : SlotId) (good : Bool) (b : Byte) : (s.passOne i good b).1.pending = s.pending := by
  obtain h | ⟨p, t, -, -, h⟩ := s.passOne_cases i good b
  · rw [h]
  · obtain ⟨-, h⟩ | ⟨-, -, h⟩ | ⟨-, -, -, h⟩ | ⟨-, -, -, h⟩ | ⟨-, -, -, -, h⟩ := h <;> rw [h]
    · exact s.noteOverrun_pending i _ t
    · rfl
    · exact s.passByte_pending i _ t _ good b
    · rfl
    · rfl

@[simp] theorem State.passBytes_pending (s : State) (i : SlotId) (good : Bool) (bs : List Byte) :
    (s.passBytes i good bs).1.pending = s.pending :=
  State.passBytes_induct (P := fun u => u.pending = s.pending) i good (fun u b hu => (u.passOne_pending i good b).trans hu) bs s rfl

/-! ## Statuses and timeouts (R33 to R37, R43, R44) -/

theorem State.sampleEntry_pending (s : State) (i : SlotId) (t : TagEntry) : (s.sampleEntry i t).pending = s.pending := by
  unfold State.sampleEntry
  split
  · exact s.report_pending i _
  · rfl

theorem State.compareIdentity_pending (s : State) (i : SlotId) (sn : Snoop) : (s.compareIdentity i sn).pending = s.pending := by
  unfold State.compareIdentity
  dsimp only
  split <;> simp

theorem State.offerSnoop_pending (s : State) (i : SlotId) (t : TagEntry) : (s.offerSnoop i t).pending = s.pending := by
  unfold State.offerSnoop
  split
  · split
    case h_1 => rfl
    case h_2 => split <;> rfl
    all_goals exact s.compareIdentity_pending i _
  · rfl

@[simp] theorem State.closeSuccess_pending (s : State) (i : SlotId) (e : EntryId) : (s.closeSuccess i e).pending = s.pending := by
  unfold State.closeSuccess
  split
  · rfl
  · split <;> simp [State.offerSnoop_pending, State.sampleEntry_pending]

theorem State.mediaError_pending (s : State) (i : SlotId) (e : EntryId) (t : TagEntry) (lba : Option (BitVec 48)) :
    (s.mediaError i e t lba).pending = s.pending := by
  unfold State.mediaError
  split
  case h_1 | h_2 => cases lba <;> simp
  all_goals simp

@[simp] theorem State.closeError_pending (s : State) (i : SlotId) (r : ErrorReport) : (s.closeError i r).pending = s.pending := by
  unfold State.closeError
  dsimp only
  split
  · rfl
  · split <;> simp [State.mediaError_pending]

theorem State.abortSibling_pending (i : SlotId) (s : State) (t : Fin 32) : (State.abortSibling i s t).pending = s.pending := by
  unfold State.abortSibling
  split
  · exact s.report_pending i _
  · rfl

@[simp] theorem State.expireEntry_pending (s : State) (i : SlotId) (e : EntryId) : (s.expireEntry i e).pending = s.pending := by
  obtain h | ⟨t, f, d, -, h⟩ := s.expireEntry_cases i e <;> simp [h]

theorem State.expireSlot_pending (s : State) (i : SlotId) : (s.expireSlot i).pending = s.pending :=
  State.foldl_pending (fun u e => by split <;> simp) allEntries s

/-! ## Slots emptied (R5 to R8) -/

@[simp] theorem State.orphan_pending (s : State) (i : SlotId) : (s.orphan i).pending = s.pending := by rw [s.orphan_eq]
@[simp] theorem State.slotClear_pending (s : State) (i : SlotId) : (s.slotClear i).pending = s.pending := by rw [s.slotClear_eq]
@[simp] theorem State.depart_pending (s : State) (i : SlotId) : (s.depart i).pending = s.pending := by rw [s.depart_eq]

@[simp] theorem State.removed_pending (s : State) (i : SlotId) : (s.removed i).pending = s.pending := by
  unfold State.removed
  split
  case h_1 | h_2 => rfl
  case h_3 => split <;> simp
  all_goals exact s.orphan_pending i

theorem State.debounced_pending (s : State) (i : SlotId) : (s.debounced i).pending = s.pending := by
  unfold State.debounced
  dsimp only
  split <;> simp

/-! ## The chamber line, the soak and grading (R13, R18, R104 to R116) -/

theorem State.applyHold_pending (s : State) (i : SlotId) (p : Phase × Bool) : (s.applyHold i p).pending = s.pending := by
  unfold State.applyHold
  split <;> rfl

theorem State.takeError_pending (s : State) : s.takeError.pending = s.pending := by
  unfold State.takeError
  split <;> rfl

theorem State.takeByte_pending (s : State) (b : Byte) : (s.takeByte b).pending = s.pending := by
  unfold State.takeByte
  split
  · split <;> rfl
  · split
    · rfl
    · exact State.forSlots_pending (fun u i => u.applyHold_pending i _) _

theorem State.takeEvent_pending (s : State) (event : LineEvent) : (s.takeEvent event).pending = s.pending := by
  cases event with
  | byte b => exact s.takeByte_pending b
  | error => exact s.takeError_pending
  | lineBreak => rfl
  | markAfterBreak => rfl

theorem State.hearLine_pending (s : State) (levels : List Bool) : (s.hearLine levels).pending = s.pending :=
  State.hearLine_induct (P := fun u => u.pending = s.pending) (fun _ _ hu => hu) (fun u e hu => (u.takeEvent_pending e).trans hu) s levels
    rfl

theorem State.soakSlot_pending (s : State) (i : SlotId) : (s.soakSlot i).pending = s.pending := by
  unfold State.soakSlot
  split
  case h_2 => dsimp only; split <;> rfl
  all_goals rfl

theorem State.soakAll_pending (s : State) : s.soakAll.pending = s.pending := by
  have hslots := State.forSlots_pending State.soakSlot_pending s
  unfold State.soakAll
  generalize s.forSlots State.soakSlot = u at hslots
  exact hslots

theorem State.completeGrade_pending (s : State) (c : Computation) : (s.completeGrade c).pending = s.pending := by
  unfold State.completeGrade
  dsimp only
  split <;> rfl

/-! ## Windows, loads and the profile (R56, R166 to R168) -/

theorem State.replaceWindow_pending (s : State) (n : Fin 16) (w : Window) : (s.replaceWindow n w).pending = s.pending :=
  State.forSlots_pending (fun u i => by split <;> rfl) _

theorem State.profileLoaded_pending (s : State) (kind : LoadKind) (eeprom : Option (List Byte)) :
    (s.profileLoaded kind eeprom).pending = s.pending := by cases kind <;> rfl

theorem State.itemTakesEffect_pending (s : State) (code old : Nat) : (s.itemTakesEffect code old).pending = s.pending := by
  unfold State.itemTakesEffect State.timeoutsLowered
  split_ifs
  · exact State.forSlots_pending State.expireSlot_pending s
  all_goals rfl

end Sys2Proof.Machine
end

section
/-!
The management commands other than STATUS (R158, R159, R172, Table 12-2): each decides by a rule, which answers RANGE at a wrong number of
argument bytes, has at OK a payload of a length that Table 12-2 gives, and leaves the queue of commands.
-/
namespace Sys2Proof.Machine

/-! ## What Table 12-2 asks of a rule -/

/-- An answer OK leaves the queue of `s` and has a payload of one of the lengths; an answer without effects is another than OK. -/
def Answer.Conforms (s : State) (lengths : Nat → Prop) : Answer → Prop
  | .ok t payload => t.pending = s.pending ∧ lengths payload.length
  | .no st => st ≠ .ok

/-- DEFECT_READ shows at most three extents (R87, R172). -/
def DefectLength (len : Nat) : Prop := ∃ m, m ≤ 3 ∧ len = 10 + 16 * m

/-- The payload lengths that Table 12-2 gives a command byte at OK. -/
def OkLength (code : Byte) (len : Nat) : Prop := (∀ n, okLength code.toNat = some n → len = n) ∧ (code = 0x05#8 → DefectLength len)

theorem OkLength.of_fixed {code : Byte} {len n : Nat} (h : okLength code.toNat = some len) (hn : n = len) : OkLength code n :=
  ⟨fun _ hm => hn.trans (Option.some.inj (h.symm.trans hm)), by rintro rfl; cases h⟩

/-- A command is decided by a rule that keeps to Table 12-2. -/
structure CommandRule (c : Instr) (rule : State → Answer) : Prop where
  decides : ∀ s, exec c s = .next (s.command rule)
  not_ok : ∀ s, rule s ≠ .no .ok
  pending : ∀ {s t p}, rule s = .ok t p → t.pending = s.pending
  range : ∀ {code args n}, c.wf = true → encodeTransaction c = some (code :: args) → commandArity code.toNat = some n →
    args.length ≠ n → ∀ s, rule s = .no .range
  length : ∀ {code args}, encodeTransaction c = some (code :: args) → ∀ {s t p}, rule s = .ok t p → OkLength code p.length

/-- A rule answers RANGE, or has the number of argument bytes and a payload length of its row of Table 12-2. -/
theorem CommandRule.of_row {c : Instr} {rule : State → Answer} {code : Byte} {args : List Byte} {lengths : Nat → Prop}
    (decides : ∀ s, exec c s = .next (s.command rule)) (hbytes : encodeTransaction c = some (code :: args))
    (hlen : ∀ n, lengths n → OkLength code n)
    (row : ∀ s, rule s = .no .range ∨
      ((∀ n, commandArity code.toNat = some n → args.length = n) ∧ (rule s).Conforms s lengths)) : CommandRule c rule := by
  have conforms {s t p} (h : rule s = .ok t p) : t.pending = s.pending ∧ lengths p.length := by
    obtain hr | ⟨-, hs⟩ := row s
    · cases h.symm.trans hr
    · rwa [h] at hs
  have not_ok (s : State) (h : rule s = .no .ok) : False := by
    obtain hr | ⟨-, hs⟩ := row s
    · cases h.symm.trans hr
    · rw [h] at hs
      exact hs rfl
  refine ⟨decides, not_ok, fun h => (conforms h).1, fun {code' args' n} _ hb hn hne s => ?_, fun {code' args'} hb _ _ _ h => ?_⟩
  · obtain ⟨rfl, rfl⟩ := List.cons.inj (Option.some.inj (hbytes.symm.trans hb))
    obtain hr | ⟨harity, -⟩ := row s
    · exact hr
    · exact absurd (harity n hn) hne
  · obtain ⟨rfl, rfl⟩ := List.cons.inj (Option.some.inj (hbytes.symm.trans hb))
    exact hlen _ (conforms h).2

/-- A command with a fixed number of argument bytes and a fixed payload length. -/
theorem CommandRule.of_fixed {c : Instr} {rule : State → Answer} {code : Byte} {args : List Byte} {arity len : Nat}
    (decides : ∀ s, exec c s = .next (s.command rule)) (hbytes : encodeTransaction c = some (code :: args))
    (harity : commandArity code.toNat = some arity) (hlen : okLength code.toNat = some len)
    (row : ∀ s, rule s = .no .range ∨ (args.length = arity ∧ (rule s).Conforms s (· = len))) : CommandRule c rule :=
  .of_row decides hbytes (fun _ => .of_fixed hlen) fun s =>
    (row s).imp_right (And.imp_left fun ha _ hn => ha.trans (Option.some.inj (harity.symm.trans hn)))

/-- A slot command takes one argument byte. -/
theorem CommandRule.of_slot {c : Instr} {rule : State → SlotId → Answer} {code : Byte} {args : List Byte} {len : Nat}
    (decides : ∀ s, exec c s = .next (s.command fun s => slotCommand args (rule s)))
    (hbytes : encodeTransaction c = some (code :: args)) (harity : commandArity code.toNat = some 1)
    (hlen : okLength code.toNat = some len) (conforms : ∀ s i, (rule s i).Conforms s (· = len)) :
    CommandRule c fun s => slotCommand args (rule s) := by
  refine .of_fixed decides hbytes harity hlen fun s => ?_
  unfold slotCommand
  split
  · refine .inr ⟨rfl, ?_⟩
    split
    · exact conforms s _
    · exact nofun
  · exact .inl rfl

/-- A plain command takes no argument byte. -/
theorem CommandRule.of_plain {c : Instr} {answer : State → Answer} {code : Byte} {args : List Byte} {len : Nat}
    (decides : ∀ s, exec c s = .next (s.command fun s => plainCommand args (answer s)))
    (hbytes : encodeTransaction c = some (code :: args)) (harity : commandArity code.toNat = some 0)
    (hlen : okLength code.toNat = some len) (conforms : ∀ s, (answer s).Conforms s (· = len)) :
    CommandRule c fun s => plainCommand args (answer s) := by
  refine .of_fixed decides hbytes harity hlen fun s => ?_
  unfold plainCommand
  split
  · exact .inr ⟨rfl, conforms s⟩
  · exact .inl rfl

/-! ## Lengths of payloads (Table 12-2) -/

theorem State.statusPayload_length (s : State) : s.statusPayload.length = 62 := by
  rw [s.statusPayload_eq, List.length_flatten, s.statusFields_widths]
  rfl

theorem State.slotStatusPayload_length (s : State) (i : SlotId) : (s.slotStatusPayload i).length = 61 := by
  rw [s.slotStatusPayload_eq, List.length_flatten, s.slotStatusFields_widths]
  rfl

theorem SlotRecord.countersPayload_length (r : SlotRecord) : r.countersPayload.length = 63 := by
  rw [r.countersPayload_eq, List.length_flatten, r.countersFields_widths]
  rfl

theorem State.histogramPayload_length (s : State) (i : SlotId) : (s.histogramPayload i).length = 41 := by
  rw [s.histogramPayload_eq, List.length_flatten, s.histogramFields_widths]
  rfl

theorem Defects.payload_length (d : Defects) (index : Nat) : DefectLength (d.payload index).length :=
  ⟨_, List.length_take_le 3 _, by rw [d.payload_eq, d.readFields_length]⟩

theorem State.windowPayload_length (s : State) (n : Fin 16) (i : SlotId) : (s.windowPayload n i).length = 35 := by
  simp [State.windowPayload]

theorem CaptureUnit.header_length (u : CaptureUnit) (n : Fin 16) : (u.header n).length = 8 := by simp [CaptureUnit.header]

theorem captureContent_length (st : RecordState) (e : CaptureEvent) : (captureContent st e).length = 30 := by
  have hdetail : e.detail.bytes.length = 16 := by cases e.detail <;> simp [CaptureDetail.bytes]
  simp [captureContent, hdetail]

/-! ## Queries (R87, R160 to R162) -/

theorem unknownCommand_rule (code : Byte) (args : List Byte) : CommandRule (.unknownCommand code args) fun _ => .no .unknown where
  decides _ := rfl
  not_ok _ := nofun
  pending := nofun
  range {code' args' n} hwf hb hn := by
    obtain ⟨rfl, rfl⟩ := List.cons.inj (Option.some.inj hb)
    replace hwf : decodeCommand code args = .unknownCommand code args := eq_of_beq hwf
    unfold commandArity at hn
    unfold decodeCommand at hwf
    split at hn
    case h_29 => cases hn
    all_goals rename_i hcode; rw [hcode] at hwf; cases hwf
  length _ := nofun

theorem defectRead_rule (args : List Byte) : ∃ rule, CommandRule (.defectRead args) rule := by
  refine ⟨_, .of_row (lengths := DefectLength) (fun _ => rfl) rfl (fun _ hn => ⟨nofun, fun _ => hn⟩) fun s => ?_⟩
  split
  · refine .inr ⟨fun _ => Option.some.inj, ?_⟩
    split
    · split
      · exact ⟨rfl, Defects.payload_length _ _⟩
      · exact nofun
    · exact nofun
  · exact .inl rfl

/-! ## Phase commands (R8 to R21) -/

theorem State.phaseChange_conforms (s : State) (i : SlotId) (p : Option Phase) : (s.phaseChange i p).Conforms s (· = 0) := by
  unfold State.phaseChange
  split
  · exact ⟨rfl, rfl⟩
  · exact nofun

theorem start_rule (args : List Byte) : ∃ rule, CommandRule (.start args) rule := by
  refine ⟨_, .of_fixed (fun _ => rfl) rfl rfl rfl fun s => ?_⟩
  split
  · refine .inr ⟨rfl, ?_⟩
    split
    · unfold State.startRun
      dsimp only
      split_ifs
      · exact nofun
      · exact ⟨rfl, rfl⟩
      · exact nofun
    · exact nofun
  · exact .inl rfl

theorem advancePass_rule (args : List Byte) : ∃ rule, CommandRule (.advancePass args) rule := by
  refine ⟨_, .of_slot (fun _ => rfl) rfl rfl rfl fun s i => ?_⟩
  split_ifs
  · exact nofun
  · exact ⟨rfl, rfl⟩
  · exact nofun

theorem grade_rule (args : List Byte) : ∃ rule, CommandRule (.grade args) rule := by
  refine ⟨_, .of_slot (fun _ => rfl) rfl rfl rfl fun s i => ?_⟩
  split_ifs
  · exact nofun
  · exact ⟨rfl, rfl⟩
  · exact nofun

theorem ship_rule (args : List Byte) : ∃ rule, CommandRule (.ship args) rule := by
  refine ⟨_, .of_slot (fun _ => rfl) rfl rfl rfl fun s i => ?_⟩
  split_ifs
  · exact nofun
  · exact nofun
  · exact ⟨rfl, rfl⟩
  · exact nofun
  · exact nofun

theorem sealSlot_rule (args : List Byte) : ∃ rule, CommandRule (.sealSlot args) rule := by
  refine ⟨_, .of_slot (fun _ => rfl) rfl rfl rfl fun s i => ?_⟩
  split_ifs
  · exact nofun
  · exact ⟨rfl, rfl⟩
  · exact nofun
  · exact nofun

theorem release_rule (args : List Byte) : ∃ rule, CommandRule (.release args) rule := by
  refine ⟨_, .of_slot (fun _ => rfl) rfl rfl rfl fun s i => ?_⟩
  split
  · exact ⟨rfl, rfl⟩
  · exact nofun

/-! ## Windows and the pattern table (R56 to R58) -/

/-- A window record has 22 bytes (Table 12-3). -/
theorem RawWindow.parse_length {bytes : List Byte} {raw : RawWindow} (h : RawWindow.parse bytes = some raw) : bytes.length = 22 := by
  unfold RawWindow.parse at h
  split at h
  · rfl
  · cases h

theorem windowWrite_rule (args : List Byte) : ∃ rule, CommandRule (.windowWrite args) rule := by
  refine ⟨_, .of_fixed (fun _ => rfl) rfl rfl rfl fun s => ?_⟩
  split
  · split
    · exact .inl rfl
    · rename_i hraw
      refine .inr ⟨congrArg (· + 1) (RawWindow.parse_length hraw), ?_⟩
      split
      · split
        · exact ⟨s.replaceWindow_pending _ _, by simp⟩
        · exact nofun
      · exact nofun
  · exact .inl rfl

theorem windowRead_rule (args : List Byte) : ∃ rule, CommandRule (.windowRead args) rule := by
  refine ⟨_, .of_fixed (fun _ => rfl) rfl rfl rfl fun s => ?_⟩
  split
  · refine .inr ⟨rfl, ?_⟩
    split
    · exact ⟨rfl, s.windowPayload_length _ _⟩
    · exact nofun
  · exact .inl rfl

theorem tableWrite_rule (args : List Byte) : ∃ rule, CommandRule (.tableWrite args) rule := by
  refine ⟨_, .of_row (lengths := (· = 0)) (fun _ => rfl) rfl (fun _ => .of_fixed rfl) fun s => .inr ⟨nofun, ?_⟩⟩
  split
  · split_ifs
    · exact ⟨rfl, rfl⟩
    all_goals exact nofun
  · exact nofun

/-! ## Captures and alerts (R95 to R99, R164) -/

theorem captureSet_rule (args : List Byte) : ∃ rule, CommandRule (.captureSet args) rule := by
  refine ⟨_, .of_fixed (fun _ => rfl) rfl rfl rfl fun s => ?_⟩
  split
  · refine .inr ⟨rfl, ?_⟩
    split
    · split
      · exact ⟨s.putCapture_pending _, rfl⟩
      · exact nofun
    · exact nofun
  · exact .inl rfl

theorem captureOpen_rule (args : List Byte) : ∃ rule, CommandRule (.captureOpen args) rule := by
  refine ⟨_, .of_fixed (fun _ => rfl) rfl rfl rfl fun s => ?_⟩
  split
  · refine .inr ⟨rfl, ?_⟩
    split
    · exact ⟨s.putCapture_pending _, CaptureUnit.header_length _ _⟩
    · exact nofun
  · exact .inl rfl

theorem captureRead_rule (args : List Byte) : ∃ rule, CommandRule (.captureRead args) rule := by
  refine ⟨_, .of_plain (len := 30) (fun _ => rfl) rfl rfl rfl fun s => ?_⟩
  split
  · exact ⟨rfl, captureContent_length _ _⟩
  · exact nofun

theorem alertAck_rule (args : List Byte) : ∃ rule, CommandRule (.alertAck args) rule := by
  refine ⟨_, .of_fixed (fun _ => rfl) rfl rfl rfl fun s => ?_⟩
  split
  · exact .inr ⟨rfl, rfl, rfl⟩
  · exact .inl rfl

theorem alertMask_rule (args : List Byte) : ∃ rule, CommandRule (.alertMask args) rule := by
  refine ⟨_, .of_fixed (fun _ => rfl) rfl rfl rfl fun s => ?_⟩
  split
  · exact .inr ⟨rfl, rfl, rfl⟩
  · exact .inl rfl

/-! ## Sort port, profile and resets (R142, R168 to R170) -/

theorem sortResume_rule (args : List Byte) : ∃ rule, CommandRule (.sortResume args) rule := by
  refine ⟨_, .of_plain (len := 0) (fun _ => rfl) rfl rfl rfl fun s => ?_⟩
  split
  · exact ⟨rfl, rfl⟩
  · exact nofun

theorem State.setProfile_conforms (s : State) (code v : Nat) : (s.setProfile code v).Conforms s (· = 4) := by
  unfold State.setProfile
  split_ifs
  · exact nofun
  · exact ⟨rfl, le_length 4 _⟩
  · exact ⟨s.putCapture_pending _, by simp⟩
  · split
    · exact ⟨State.itemTakesEffect_pending _ _ _, le_length 4 _⟩
    · exact nofun

theorem profileSet_rule (args : List Byte) : ∃ rule, CommandRule (.profileSet args) rule := by
  refine ⟨_, .of_fixed (fun _ => rfl) rfl rfl rfl fun s => ?_⟩
  split
  · exact .inr ⟨rfl, s.setProfile_conforms _ _⟩
  · exact .inl rfl

theorem profileReload_rule (args : List Byte) : ∃ rule, CommandRule (.profileReload args) rule := by
  refine ⟨_, .of_plain (len := 0) (fun _ => rfl) rfl rfl rfl fun s => ?_⟩
  split
  · exact ⟨rfl, rfl⟩
  · exact nofun

/-! ## Every command -/

/-- Every management command but STATUS has such a rule. -/
theorem management_cases {c : Instr} {bytes : List Byte} (hbytes : encodeTransaction c = some bytes) :
    (∃ args, c = .status args) ∨ ∃ rule, CommandRule c rule := by
  refine or_iff_not_imp_left.mpr fun hstatus => ?_
  cases c with
  | unknownCommand code args => exact ⟨_, unknownCommand_rule code args⟩
  | status args => exact absurd ⟨args, rfl⟩ hstatus
  | slotStatus args => exact ⟨_, .of_slot (fun _ => rfl) rfl rfl rfl fun s i => ⟨rfl, s.slotStatusPayload_length i⟩⟩
  | slotCounters args => exact ⟨_, .of_slot (fun _ => rfl) rfl rfl rfl fun s i => ⟨rfl, (s.slot i).countersPayload_length⟩⟩
  | histogram args => exact ⟨_, .of_slot (fun _ => rfl) rfl rfl rfl fun s i => ⟨rfl, s.histogramPayload_length i⟩⟩
  | defectRead args => exact defectRead_rule args
  | start args => exact start_rule args
  | advancePass args => exact advancePass_rule args
  | endBurn args => exact ⟨_, .of_slot (fun _ => rfl) rfl rfl rfl fun s i => s.phaseChange_conforms i _⟩
  | pause args => exact ⟨_, .of_slot (fun _ => rfl) rfl rfl rfl fun s i => s.phaseChange_conforms i _⟩
  | resume args => exact ⟨_, .of_slot (fun _ => rfl) rfl rfl rfl fun s i => s.phaseChange_conforms i _⟩
  | grade args => exact grade_rule args
  | ship args => exact ship_rule args
  | sealSlot args => exact sealSlot_rule args
  | release args => exact release_rule args
  | clearSlot args => exact ⟨_, .of_slot (fun _ => rfl) rfl rfl rfl fun s i => ⟨s.slotClear_pending i, rfl⟩⟩
  | windowWrite args => exact windowWrite_rule args
  | windowRead args => exact windowRead_rule args
  | tableWrite args => exact tableWrite_rule args
  | captureSet args => exact captureSet_rule args
  | captureOpen args => exact captureOpen_rule args
  | captureRead args => exact captureRead_rule args
  | captureClose args => exact ⟨_, .of_plain (fun _ => rfl) rfl rfl rfl fun s => ⟨s.putCapture_pending _, rfl⟩⟩
  | alertRead args => exact ⟨_, .of_plain (fun _ => rfl) rfl rfl rfl fun s => ⟨rfl, rfl⟩⟩
  | alertAck args => exact alertAck_rule args
  | alertMask args => exact alertMask_rule args
  | sortResume args => exact sortResume_rule args
  | profileSet args => exact profileSet_rule args
  | profileReload args => exact profileReload_rule args
  | softReset args => exact ⟨_, .of_plain (fun _ => rfl) rfl rfl rfl fun s => ⟨rfl, rfl⟩⟩
  | _ => cases hbytes

end Sys2Proof.Machine
end

section
/-!
What holds of every management command (R158, R159, R172, Table 12-2): its transaction, the first checks, the answers with no effect, and
the lengths of the replies.
-/
namespace Sys2Proof.Machine

/-! ## The first checks (R159) -/

/-- An answer other than OK has no effect but the reply, whose payload is empty. -/
theorem State.concluded_not_ok {s : State} {a : Answer} (h : (s.concluded a).reply.status ≠ .ok) :
    s.concluded a = { s with reply := { status := (s.concluded a).reply.status, payload := [] } } := by
  cases a with
  | ok t payload => exact absurd rfl h
  | no st => rfl

theorem State.command_not_ok {s : State} (hreset : s.inReset = false) {rule : State → Answer}
    (h : (s.command rule).reply.status ≠ .ok) :
    s.command rule = { s with reply := { status := (s.command rule).reply.status, payload := [] } } := by
  by_cases hready : s.loader = .ready
  · rw [s.command_ready rule hreset hready] at h ⊢
    exact State.concluded_not_ok h
  · rw [s.command_loading rule hreset (by simp [State.isLoading, hready])]
    rfl

/-- An OK reply is an answer of the rule (R159). -/
theorem CommandRule.replied_ok {c : Instr} {rule : State → Answer} (hrule : CommandRule c rule) {s : State} (hreset : s.inReset = false)
    (h : (s.command rule).reply.status = .ok) : ∃ t payload, rule s = .ok t payload ∧ s.command rule = t.answer .ok payload := by
  obtain ⟨hin, -⟩ | ⟨-, -, hc⟩ | ⟨-, -, hok⟩ | ⟨-, -, st, hr, hc⟩ := s.command_cases rule
  · rw [hreset] at hin; cases hin
  · rw [hc] at h; cases h
  · exact hok
  · rw [hc] at h
    cases h
    exact absurd hr (hrule.not_ok s)

theorem execStatus_eq {s : State} (hreset : s.inReset = false) (args : List Byte) :
    exec (.status args) s = .next (s.concluded (plainCommand args (.ok s s.statusPayload))) :=
  congrArg Host.Outcome.next (if_neg (by simp [hreset]))

/-- TABLE_WRITE with k outside 1 to 15, or another total than 3 + 4k (R58, R172). -/
theorem execTableWrite_range {s : State} (hs : s.ready) {args : List Byte}
    (h : args.length < 3 ∨ (args.getD 2 0#8).toNat < 1 ∨ 15 < (args.getD 2 0#8).toNat ∨
      args.length ≠ 3 + 4 * (args.getD 2 0#8).toNat) : exec (.tableWrite args) s = .next (s.answer .range []) := by
  refine congrArg Host.Outcome.next (State.command_no hs ?_)
  split
  · rename_i i0 i1 k bytes
    replace h : (i0 :: i1 :: k :: bytes).length < 3 ∨ k.toNat < 1 ∨ 15 < k.toNat ∨ bytes.length + 3 ≠ 3 + 4 * k.toNat := h
    rw [List.length_cons, List.length_cons, List.length_cons] at h
    refine if_neg ?_
    simp only [Bool.and_eq_true, decide_eq_true_eq]
    omega
  · rfl

/-- While the loader is running every management command but STATUS answers NOT_READY. -/
theorem command_notReady {c : Instr} {s : State} {code : Byte} {args : List Byte} (hreset : s.inReset = false)
    (hbytes : encodeTransaction c = some (code :: args)) (hload : s.loader ≠ .ready) (hstatus : c ≠ .status args) :
    exec c s = .next (s.answer .notReady []) := by
  obtain ⟨args', rfl⟩ | ⟨rule, hrule⟩ := management_cases hbytes
  · cases hbytes
    exact absurd rfl hstatus
  · rw [hrule.decides, s.command_loading rule hreset (by simp [State.isLoading, hload])]

/-- A command with a wrong number of argument bytes answers RANGE. -/
theorem command_range {c : Instr} {s : State} {code : Byte} {args : List Byte} {n : Nat} (hs : s.ready) (hwf : c.wf = true)
    (hbytes : encodeTransaction c = some (code :: args)) (hn : commandArity code.toNat = some n) (hne : args.length ≠ n) :
    exec c s = .next (s.answer .range []) := by
  obtain ⟨args', rfl⟩ | ⟨rule, hrule⟩ := management_cases hbytes
  · cases hbytes
    cases hn
    cases args with
    | nil => exact absurd rfl hne
    | cons b bs => exact execStatus_eq hs.1 (b :: bs)
  · rw [hrule.decides, State.command_no hs (hrule.range hwf hbytes hn hne s)]

/-- Settles O13: loading and the byte before the rule, the argument bytes by the command's row of Table 12-2, no effect without OK by the
frame of a command. -/
theorem managementChecksInOrder : Obligations.ManagementChecksInOrder := by
  refine ⟨fun c s code args hreset hwf hbytes => ?_, fun c s t bytes hreset hbytes hexec hnot => ?_⟩
  · exact ⟨command_notReady hreset hbytes, fun hready hc => hc ▸ congrArg Host.Outcome.next (State.command_no ⟨hreset, hready⟩ rfl),
      fun hready n => command_range ⟨hreset, hready⟩ hwf hbytes, fun hready hc hbad => hc ▸ execTableWrite_range ⟨hreset, hready⟩ hbad⟩
  · obtain ⟨args, rfl⟩ | ⟨rule, hrule⟩ := management_cases hbytes
    · cases (execStatus_eq hreset args).symm.trans hexec
      exact State.concluded_not_ok hnot
    · cases (hrule.decides s).symm.trans hexec
      exact State.command_not_ok hreset hnot

/-! ## Transactions (R158) -/

/-- A command byte names a command, whose transaction it begins, or none. -/
theorem decodeCommand_cases (code : Byte) (args : List Byte) : decodeCommand code args = .unknownCommand code args ∨
    (encodeTransaction (decodeCommand code args) = some (code :: args) ∧ (decodeCommand code args).wf = true) := by
  unfold decodeCommand
  split
  case h_30 => exact .inl rfl
  all_goals
    rename_i hcode
    exact .inr ⟨congrArg (fun b => some (b :: args)) (BitVec.eq_of_toNat_eq hcode.symm), rfl⟩

/-- Every transaction of at least one byte is that of the command it decodes to, which is well formed. -/
theorem decodeCommand_encodes (code : Byte) (args : List Byte) : (decodeCommand code args).wf = true ∧
    encodeTransaction (decodeCommand code args) = some (code :: args) := by
  obtain h | ⟨hbytes, hwf⟩ := decodeCommand_cases code args
  · rw [h]
    exact ⟨beq_iff_eq.mpr h, rfl⟩
  · exact ⟨hwf, hbytes⟩

/-- The transaction of a well-formed management command decodes to it; an event has none. -/
theorem transaction_decodes (c : Instr) : Laws.RoundTrip.Statement c := by
  intro hwf bytes hbytes
  cases c with
  | unknownCommand code args => exact Laws.RoundTrip.unknownCommand code args hwf bytes hbytes
  | _ => cases hbytes <;> rfl

/-! ## Replies (R158, R172) -/

/-- A read of at least the status and length bytes and the payload, filled up with zeros. -/
theorem State.readTransaction_eq (s : State) (k : Nat) : s.readTransaction (2 + s.reply.payload.length + k) =
    s.reply.status.code :: BitVec.ofNat 8 s.reply.payload.length :: s.reply.payload ++ List.replicate k 0#8 := by
  have hlength : (s.reply.status.code :: BitVec.ofNat 8 s.reply.payload.length :: s.reply.payload).length =
      2 + s.reply.payload.length := Nat.add_comm _ 2
  rw [State.readTransaction, padTo, ← hlength, List.take_length_add_append, List.take_replicate, Nat.min_eq_left (Nat.le_add_left k _)]

/-- Settles O14: the decoder by its cases, the lengths by the row of Table 12-2 that each rule keeps to, the read by its padding. -/
theorem transactionsAndReplies : Obligations.TransactionsAndReplies := by
  refine ⟨⟨transaction_decodes, fun code args => ⟨_, rfl, decodeCommand_encodes code args⟩⟩,
    fun c s t code args hreset hwf hbytes hexec hok => ?_, State.readTransaction_eq⟩
  have hlength : OkLength code t.reply.payload.length := by
    obtain ⟨args', rfl⟩ | ⟨rule, hrule⟩ := management_cases hbytes
    · cases hbytes
      cases (execStatus_eq hreset args).symm.trans hexec
      cases args with
      | nil => exact .of_fixed rfl s.statusPayload_length
      | cons b bs => cases hok
    · cases (hrule.decides s).symm.trans hexec
      obtain ⟨u, payload, hr, hc⟩ := hrule.replied_ok hreset hok
      rw [hc]
      exact hrule.length hbytes hr
  obtain ⟨hfixed, hdefect⟩ := hlength
  refine ⟨hfixed, ?_⟩
  rintro rfl
  cases hbytes
  exact hdefect rfl

end Sys2Proof.Machine
end

section
/-!
Every command and event ends in a next state and leaves the queue of commands alone (95_what_each_step_holds.md).
-/
namespace Sys2Proof.Machine

/-- An outcome is a next state, with the queue of `s`. -/
def EndsBeside (s : State) (o : Host.Outcome State Fault Refusal) : Prop := ∃ t, o = .next t ∧ t.pending = s.pending

theorem EndsBeside.of_next {s t : State} (h : t.pending = s.pending) : EndsBeside s (.next t) := ⟨t, rfl, h⟩

theorem CommandRule.endsBeside {c : Instr} {rule : State → Answer} (h : CommandRule c rule) (s : State) : EndsBeside s (exec c s) := by
  rw [h.decides]
  refine .of_next ?_
  obtain ⟨-, hc⟩ | ⟨-, -, hc⟩ | ⟨-, -, t, p, hr, hc⟩ | ⟨-, -, st, -, hc⟩ := s.command_cases rule <;> rw [hc]
  · rfl
  · exact (t.answer_pending .ok p).trans (h.pending hr)
  · rfl

theorem execStatus_endsBeside (args : List Byte) (s : State) : EndsBeside s (exec (.status args) s) := by
  refine .of_next ?_
  split
  · rfl
  · unfold plainCommand
    split <;> rfl

theorem execCommandFrame_endsBeside (i : SlotId) (f : CommandFrame) (s : State) : EndsBeside s (execCommandFrame i f s) := by
  unfold execCommandFrame
  split
  · exact .of_next rfl
  · refine .of_next ?_
    split <;> simp

theorem execDataSetupNotice_endsBeside (i : SlotId) (n : SetupNotice) (s : State) : EndsBeside s (execDataSetupNotice i n s) := by
  unfold execDataSetupNotice
  dsimp only
  split
  · exact .of_next rfl
  · split
    · exact .of_next rfl
    · split <;> exact .of_next (by simp)

theorem execDataFrame_endsBeside (i : SlotId) (f : DataFrame) (s : State) : EndsBeside s (execDataFrame i f s) := by
  unfold execDataFrame
  split
  · exact .of_next rfl
  · split
    · exact .of_next rfl
    · split
      · exact .of_next rfl
      · split <;> exact .of_next (by simp [State.wrongData])

theorem execSuccessStatus_endsBeside (i : SlotId) (st : Success) (s : State) : EndsBeside s (execSuccessStatus i st s) := by
  unfold execSuccessStatus
  dsimp only
  split
  · exact .of_next rfl
  · split
    · exact .of_next (State.closeSuccess_pending _ i _)
    · exact .of_next (State.foldl_pending (fun u x => by split <;> simp) allTags _)

theorem execErrorStatus_endsBeside (i : SlotId) (r : ErrorReport) (s : State) : EndsBeside s (execErrorStatus i r s) := by
  have hclose (u : State) (hu : u.pending = s.pending) : (u.closeError i r).pending = s.pending := (u.closeError_pending i r).trans hu
  unfold execErrorStatus
  dsimp only
  split
  · exact .of_next rfl
  · split
    · exact .of_next (hclose _ rfl)
    · exact .of_next ((State.foldl_pending (State.abortSibling_pending i) allTags _).trans (hclose _ rfl))

theorem execDriveLinkReset_endsBeside (i : SlotId) (s : State) : EndsBeside s (execDriveLinkReset i s) := by
  unfold execDriveLinkReset
  split
  · exact .of_next rfl
  · exact .of_next (s.report_pending i _)

theorem execProfileReady_endsBeside (eeprom : Option (List Byte)) (s : State) : EndsBeside s (execProfileReady eeprom s) := by
  refine .of_next ?_
  split
  · rfl
  · split
    · rfl
    · exact s.profileLoaded_pending _ eeprom

theorem execGradeTake_endsBeside (s : State) : EndsBeside s (execGradeTake s) := by
  unfold execGradeTake
  split <;> exact .of_next rfl

theorem execGradeCompletion_endsBeside (s : State) : EndsBeside s (execGradeCompletion s) := by
  unfold execGradeCompletion
  split
  · exact .of_next rfl
  · exact .of_next (s.completeGrade_pending _)

theorem execTakeAsserted_endsBeside (s : State) : EndsBeside s (execTakeAsserted s) := by
  unfold execTakeAsserted
  split <;> exact .of_next rfl

theorem execChamberCharacterError_endsBeside (s : State) : EndsBeside s (execChamberCharacterError s) := by
  refine .of_next ?_
  split
  · split
    · rfl
    · exact State.takeError_pending _
  · rfl

/-- The events that do not come over the management line. -/
theorem event_endsBeside {c : Instr} (h : encodeTransaction c = none) (s : State) : EndsBeside s (exec c s) := by
  cases c with
  | chipReset => exact .of_next rfl
  | chipResetRelease straps => exact .of_next rfl
  | profileReady eeprom => exact execProfileReady_endsBeside eeprom s
  | rawPresenceChange i level => exact .of_next (by split; rfl; split <;> rfl)
  | debounceEnd i => exact .of_next (by split; exact s.debounced_pending i; rfl)
  | commandFrame i f => exact execCommandFrame_endsBeside i f s
  | pendingStatusSend i => exact .of_next rfl
  | dataSetupNotice i n => exact execDataSetupNotice_endsBeside i n s
  | dataFrame i f => exact execDataFrame_endsBeside i f s
  | successStatus i st => exact execSuccessStatus_endsBeside i st s
  | errorStatus i r => exact execErrorStatus_endsBeside i r s
  | commandTimeout i e => exact .of_next (by split; exact s.expireEntry_pending i e; rfl)
  | driveLinkReset i => exact execDriveLinkReset_endsBeside i s
  | soakTick => exact .of_next (by split; exact s.soakAll_pending; rfl)
  | chamberByte levels => exact .of_next (s.hearLine_pending levels)
  | chamberCharacterError => exact execChamberCharacterError_endsBeside s
  | chamberBreak => exact .of_next (by split <;> rfl)
  | lineBreakClear => exact .of_next (by split <;> rfl)
  | staleTimerExpiry => exact .of_next (by split <;> rfl)
  | gradeTake => exact execGradeTake_endsBeside s
  | gradeCompletion => exact execGradeCompletion_endsBeside s
  | takeAsserted => exact execTakeAsserted_endsBeside s
  | takeDeasserted => exact .of_next rfl
  | faultAsserted => exact .of_next (by split <;> rfl)
  | faultDeasserted => exact .of_next rfl
  | busyAsserted => exact .of_next rfl
  | busyDeasserted => exact .of_next rfl
  | offerTimerExpiry => exact .of_next (by split <;> rfl)
  | _ => cases h

theorem management_endsBeside {c : Instr} {bytes : List Byte} (h : encodeTransaction c = some bytes) (s : State) :
    EndsBeside s (exec c s) := by
  obtain ⟨args, rfl⟩ | ⟨rule, hrule⟩ := management_cases h
  · exact execStatus_endsBeside args s
  · exact hrule.endsBeside s

/-- Settles O2: each event by its cases, each management command by the frame of a command. -/
theorem everyCommandEndsInNextState : Obligations.EveryCommandEndsInNextState := by
  intro c s
  cases h : encodeTransaction c with
  | none => exact event_endsBeside h s
  | some bytes => exact management_endsBeside h s

end Sys2Proof.Machine
end
